-- ==== Sys2Proof/Word.lean ====
section
/-!
DEFINITION. The words the LX4 exchanges: bytes of the window, 32-bit registers, pixels of the pixel input port.
-/

namespace Sys2Proof

/-- A byte of a record in the window (chapter 12). -/
abbrev Byte := BitVec 8

/-- A register of the register port (chapter 11) or a 32-bit wrapping count (00_scope, Counts and wrap). -/
abbrev Word := BitVec 32

/-- A pixel of the pixel input port: 12 bits (00_scope, Table 1). -/
abbrev Pixel := BitVec 12

/-- The MSENSE pin: how many of the eight fixed supply thresholds lie at or below the motor supply (R75). -/
abbrev Msense := Fin 9

end Sys2Proof
end

