-- ==== Sys2Proof/Syntax.lean ====
section
/-!
DEFINITION. The commands of the LX4: one constructor per row of spec/opcode_table.json.
The table names no operands; each constructor carries what its event brings from outside the block (log 1).
-/

namespace Sys2Proof

/-- The two encoder-counted axes (chapter 5). -/
inductive Axis
  | zoom | focus
  deriving DecidableEq, Repr

/-- The two gyro axes (chapter 8). -/
inductive Rot
  | pitch | yaw
  deriving DecidableEq, Repr

/-- Plan kinds of Table 9; no two plans of one kind are TAKEN together, so a kind names a taken plan (R5). -/
inductive PlanKind
  | streamStart | streamStop | exposure | stab | zoom | focus | afSearch | reference | capture | tables | sync
  deriving DecidableEq, Repr

/-- The three writes of step 1 of a plan ending (R17). -/
inductive ResultWrite
  | outcome | word | area
  deriving DecidableEq, Repr

/-- The checks that can stop a move, or a reference search, at one control-period expiry; they are taken in any order
(R79, R85). -/
inductive MoveCheck
  | stall | limit | supply
  deriving DecidableEq, Repr

/-- What a read that was issued on the memory port brings back: its bytes, or an error response (R1). -/
inductive ReadResp
  | data (bytes : List Byte)
  | error
  deriving DecidableEq, Repr

/-- The answer to a read; `late`: the read was issued before the last reset (R20, log 32). -/
structure ReadAnswer where
  late : Bool
  resp : ReadResp
  deriving DecidableEq, Repr

/-- The answer to a write, with or without an error (R1); `late`: the write was issued before the last reset (R20,
log 32). -/
structure WriteAnswer where
  late : Bool
  err : Bool
  deriving DecidableEq, Repr

/-- The two registers a write of which is ignored (R179). -/
inductive FixedReg
  | id | cause
  deriving DecidableEq, Repr

/-- The commands, in the order of spec/opcode_table.json. -/
inductive Instr
  | powerOnReset
  | softReset
  | runSet
  | runClear
  | wbaseWrite (v : Word)
  | wlimitWrite (v : Word)
  | levelsWrite (v : Word)
  | causeRead
  | faultWrite (v : Word)
  | abortZoom
  | abortFocus
  | abortCapture
  | registerWriteIgnored (r : FixedReg) (v : Word)
  | controlBlockReadDone (a : ReadAnswer)
  | lookTimerExpiry
  | lookStart
  | nextFieldReadDone (a : ReadAnswer)
  | planReadDone (a : ReadAnswer)
  | refusalOutcomeWriteDone (a : WriteAnswer)
  | refusalStateWriteDone (a : WriteAnswer)
  | takenWriteError
  | takeStreamStart
  | takeStreamStop
  | takeExposure
  | takeStabOn
  | takeStabOff
  | takeZoom (m : Msense)
  | takeFocus (m : Msense)
  | takeAfSearch (m : Msense)
  | takeReference (m : Msense)
  | takeCapture
  | takeTables
  | takeSync
  | endingResultsWriteDone (k : PlanKind) (w : ResultWrite) (a : WriteAnswer)
  | endingFailureOutcomeWriteDone (k : PlanKind) (a : WriteAnswer)
  | finalStateWriteDone (k : PlanKind) (a : WriteAnswer)
  | mirrorRewriteStart
  | mirrorHeadWriteDone (a : WriteAnswer)
  | mirrorBodyWriteDone (a : WriteAnswer)
  | mirrorTailWriteDone (a : WriteAnswer)
  | frameSync (count : Nat) (swapFirst : Bool)
  | lineSync (px : List Pixel)
  | syncTimerExpiry
  | periodCounterLimit
  | settingsAck
  | dueEntryCreate
  | streamStopComplete
  | metering
  | afuStatsReady (m : Msense)
  | fsuStatsReady
  | inputFilterAccept (ax : Axis) (pa pb ref : Option Bool)
  | controlPeriodExpiry (ax : Axis) (m : Msense) (first : MoveCheck)
  | brakingEnd (ax : Axis)
  | moveSettled (ax : Axis)
  | stallStop (ax : Axis)
  | supplyLowStop (ax : Axis)
  | refNoMotion (ax : Axis)
  | moveTimerExpiry (ax : Axis)
  | pwmPeriodStart (ax : Axis)
  | irisStep (m : Msense)
  | tablesReadDone (a : ReadAnswer)
  | traceWriteDone (i : Nat) (a : WriteAnswer)
  | gyroPacket (p : BitVec 40)
  | gyroPacketDiscard (reasserted : Bool)
  | gyroTimerExpiry
  | centeringDone
  | gyroRecovered
  | panFlagChange (r : Rot)
  | saturationHoldEnd (r : Rot)
  | captureMaxWait
  | qReadDone (a : ReadAnswer)
  | burstResponse (i : Nat) (a : WriteAnswer)
  | recordWriteDone (a : WriteAnswer)
  | pWriteDone (a : WriteAnswer)
  | takingCheckReadDone (a : ReadAnswer)
  deriving DecidableEq, Repr

/-- Whether a command is the answer to an access issued before the last reset (log 32). -/
def Instr.isLate : Instr → Bool
  | .controlBlockReadDone a | .nextFieldReadDone a | .planReadDone a | .tablesReadDone a | .qReadDone a
  | .takingCheckReadDone a => a.late
  | .refusalOutcomeWriteDone a | .refusalStateWriteDone a | .mirrorHeadWriteDone a | .mirrorBodyWriteDone a
  | .mirrorTailWriteDone a | .recordWriteDone a | .pWriteDone a | .endingResultsWriteDone _ _ a
  | .endingFailureOutcomeWriteDone _ a | .finalStateWriteDone _ a | .traceWriteDone _ a | .burstResponse _ a => a.late
  | _ => false

end Sys2Proof
end

