-- ==== Sys2Proof/Config.lean ====
section
/-!
DEFINITION. What the part fixes: constants of the manual. The spec leaves no value of the block open (log 36), so no
free value stands here.
-/

namespace Sys2Proof.Config

/-- The fixed value of ID (R179, Table 74). -/
def idValue : Word := 0x4C580401#32

/-- Bytes in a page of the window (R1). -/
def pageBytes : Nat := 4096

/-- Offset of the frame records in the control block (Table 6). -/
def recordBase : Nat := 0x800

/-- The lowest offset a plan or a table may have (R9, Table 36). -/
def planFloor : Nat := 0x1000

/-- The value at which the period counter stops: 1.2 s in 10 ns units (R25). -/
def periodLimit : Nat := 120000000

/-- The saturation value of the focus accumulators (R42). -/
def focusLimit : Nat := 4294967295

/-- Control period used without tables, in 50 us (R75). -/
def defaultPeriod : Nat := 20

/-- Encoder filter time used without tables, in us (R71, R75). -/
def defaultFilterTime : Nat := 4

/-- Settle time used without tables, as braking time in control periods (R75). -/
def defaultSettleTime : Nat := 8

/-- Low supply samples that stop a move (R84). -/
def supplyLowLimit : Nat := 3

/-- Expiries with an unchanged counter that fail a reference search (R90). -/
def noMotionLimit : Nat := 63

/-- Steps the iris reference stage makes beyond C_travel (R91). -/
def irisExtraSteps : Nat := 8

/-- Most samples in a trace (R115). -/
def traceLimit : Nat := 32

/-- Most frames in the candidate list, the exposure window list and the window-open notes (R113, R143, R169). -/
def listLimit : Nat := 4

/-- The bound of the angle accumulator (R138). -/
def angleBound : Int := 1073741824

/-- The value a saturation hold is set to (R141). -/
def holdSamples : Nat := 32

/-- In-sequence packets that end GYRO_LOST (R132). -/
def recoverRun : Nat := 16

/-- Most bursts in the write buffer (R166). -/
def writeBufferPlaces : Nat := 8

/-- Places of the line buffer (R165). -/
def lineBufferPlaces : Nat := 2

/-- The reflected generator polynomial of the frame CRC (R168). -/
def crcPoly : Word := 0xEDB88320#32

/-- Number of zoom map nodes (chapter 6). -/
def nodeCount : Nat := 33

end Sys2Proof.Config
end

