-- ==== Sys2Proof/Machine/State.lean ====
section
/-!
DEFINITION. The state of the LX4: everything the spec gives the block, as plain data, and the state after power-on
reset. Offsets into the window are Nat; wrapping counts and registers are BitVec; signed quantities are Int.
-/

namespace Sys2Proof.Machine

/-! ### Names -/

/-- Stream states (Table 15, Table 73). -/
inductive StreamState
  | stopped | waitingSync | measuring | running | lost
  deriving DecidableEq, Repr

/-- Exposure modes and entry sources (Table 26, Table 73). -/
inductive ExpMode
  | auto | lock | manual
  deriving DecidableEq, Repr

/-- Axis states (Table 32). -/
inductive AxisState
  | unreferenced | referencing | idle | moving | braking | settling | faulted
  deriving DecidableEq, Repr

/-- Reported SBU states (R134A, Table 73). -/
inductive SbuState
  | off | centering | active | saturated | panning | gyroLost
  deriving DecidableEq, Repr

/-- Base states of the SBU (Table 48). -/
inductive SbuBase
  | off | centering | active | gyroLost
  deriving DecidableEq, Repr

/-- Outcome codes (Table 72); details, CAF outcomes and end causes use them too. -/
inductive PlanOutcome
  | ok | badPlan | noTables | badTable | notReferenced | supplyLow | stall | limit | encoderFault | refFail | noSync
  | syncLost | notStreaming | badPool | poolBusy | busError | window | short | lowContrast | edge | traceFull | found
  | timeout
  deriving DecidableEq, Repr

/-- Fault codes (Table 71). -/
inductive FaultCode
  | none | window | readError | writeError | link | release
  deriving DecidableEq, Repr

/-- Notification causes, in the order of CAUSE's bits (Table 60, Table 74). -/
inductive Cause
  | planEnd | framePublished | slotWait | lensFault | gyroLost | syncLost | windowFault | releaseFault
  deriving DecidableEq, Repr

/-- The causes that are conditions (Table 60). -/
inductive Cond
  | slotWait | gyroLost | syncLost
  deriving DecidableEq, Repr

/-- Resource classes (R5). -/
inductive PClass
  | stream | exposure | stab | zoom | focus | capture
  deriving DecidableEq, Repr

/-- The states a plan ends in (R4, R17). -/
inductive FinalState
  | done | failed | cancelled
  deriving DecidableEq, Repr

/-- Steps of the part that follow from an earlier step at once: when its cause is met a step is due, and it is taken
before any other command (log 2). Each is a row of the command table. -/
inductive DueStep
  | lookStart | mirrorStart | dueEntry | streamStop | captureMaxWait
  | braking (ax : Axis) | settled (ax : Axis) | stall (ax : Axis) | supply (ax : Axis) | noMotion (ax : Axis)
  | centering | recovered | pan (r : Rot) | hold (r : Rot)
  deriving DecidableEq, Repr

/-! ### Accesses of the memory port (R1) -/

/-- A read that awaits its response; `addr` is the address it was issued at, none if it met a window fault. -/
structure ReadAcc where
  offset : Nat
  len : Nat
  addr : Option Nat
  deriving DecidableEq, Repr

/-- A write that awaits its response; `addr` is the address it was issued at, none if it met a window fault. -/
structure WriteAcc where
  offset : Nat
  data : List Byte
  addr : Option Nat
  deriving DecidableEq, Repr

/-! ### Plan parameters (Table 66, with the ranges of the owning chapters) -/

/-- STREAM start (Table 14); it is also the stream format held while the stream runs (R22). -/
structure StreamParams where
  lines : Nat          -- F
  active : Nat         -- A_l
  width : Nat          -- W
  margin : Nat
  latency : Nat        -- L
  s0 : Nat
  g0 : Nat
  c0 : Nat
  deriving DecidableEq, Repr

/-- Exposure parameters (Table 26). -/
structure ExpParams where
  mode : ExpMode
  target : Nat
  comp : Int
  table : Nat
  deadband : Nat
  response : Nat
  stepMax : Nat
  guardZones : Nat
  clip : Nat
  black : Nat
  floor : Nat
  gMax : Nat
  slew : Nat
  bonus : Nat
  sm : Nat
  gm : Nat
  cm : Nat
  deriving DecidableEq, Repr

/-- STAB parameters (Table 47). -/
structure StabParams where
  leak : Nat
  boost : Nat
  biasOn : Bool
  still : Nat
  track : Nat
  panThreshold : Nat
  panCount : Nat
  range : Nat
  centering : Nat
  deriving DecidableEq, Repr

/-- Where a FOCUS plan goes (R87). -/
inductive FocusTarget
  | position (p : Int)
  | distance (u : Nat)
  deriving DecidableEq, Repr

/-- The AF window (Table 20). -/
structure AfWindow where
  x0 : Nat
  x1 : Nat
  y0 : Nat
  y1 : Nat
  deriving DecidableEq, Repr

/-- AF_SEARCH parameters (Table 40). -/
structure AfParams where
  fromPosition : Bool
  start : Int
  near : Bool
  coarse : Nat
  fine : Nat
  drop : Nat           -- q
  contrast : Nat       -- r
  window : AfWindow
  coring : Nat
  trace : Nat
  deriving DecidableEq, Repr

/-- A reference set as a REFERENCE plan's bytes give it; judged by its taking check alone (R89). -/
structure RawRefSet where
  direction : Nat
  edge : Nat
  duty : Nat
  travel : Nat
  offset : Int
  deriving DecidableEq, Repr

/-- A reference set with its fields in range (Table 31). -/
structure RefSet where
  positive : Bool
  rising : Bool
  duty : Nat
  travel : Nat
  offset : Int
  deriving DecidableEq, Repr

/-- REFERENCE parameters (R89). -/
structure RefParams where
  zoom : RawRefSet
  focus : RawRefSet
  cTravel : Nat
  deriving DecidableEq, Repr

/-- CAPTURE parameters (Table 50). -/
structure CapParams where
  count : Nat
  stride : Nat
  settledStart : Bool
  maxWait : Nat
  aeLock : Bool
  caf : Bool
  cafStep : Nat
  cafHyst : Nat
  flip : Bool
  endPolicy : Bool
  notify : Bool
  deriving DecidableEq, Repr

/-- TABLES parameters (Table 36). -/
structure TablesParams where
  mapOff : Nat
  zoomOff : Nat
  focusOff : Nat
  weightOff : Nat
  margin : Nat
  deriving DecidableEq, Repr

/-- The parameters of a plan that passed the range checks of R11. -/
inductive PlanParams
  | streamStart (p : StreamParams)
  | streamStop
  | exposure (p : ExpParams)
  | stabOn (p : StabParams)
  | stabOff
  | zoom (target : Int) (tracking : Bool)
  | focus (t : FocusTarget)
  | afSearch (p : AfParams)
  | reference (p : RefParams)
  | capture (p : CapParams)
  | tables (p : TablesParams)
  | sync
  deriving DecidableEq, Repr

/-- A READY plan as the look read it (R10). -/
structure PlanRec where
  offset : Nat
  detached : Bool
  notify : Bool
  tag : Word
  params : PlanParams
  deriving DecidableEq, Repr

/-- The pool of a capture: N, slot base, slot stride (R146, R147). -/
structure Pool where
  n : Nat
  base : Nat
  stride : Nat
  deriving DecidableEq, Repr

/-- What a control block read made while taking a plan gave (Table 7). -/
inductive CheckVal
  | none
  | timeout (n : Nat)
  | pool (p : Pool)
  deriving DecidableEq, Repr

/-! ### Plan engine (chapter 1) -/

/-- The cursor (1.4). -/
inductive Cursor
  | none
  | atPlan (x : Nat)
  | afterPlan (x : Nat)
  deriving DecidableEq, Repr

/-- The look in progress and the access its step waits for (R8 to R14). -/
inductive Look
  | idle
  | next (x : Nat) (acc : ReadAcc)
  | plan (x : Nat) (acc : ReadAcc)
  | check (p : PlanRec) (acc : ReadAcc)
  | refuseOutcome (x : Nat) (notify : Bool) (acc : WriteAcc)
  | refuseState (x : Nat) (notify : Bool) (acc : WriteAcc)
  | taken (p : PlanRec) (c : CheckVal) (acc : WriteAcc)
  deriving DecidableEq, Repr

/-- The control block read of a RUN start (R6): of the whole host area when the cursor was NONE. -/
structure RunStart where
  first : Bool
  acc : ReadAcc
  deriving DecidableEq, Repr

/-- The failure outcome write of an ending (R18). -/
inductive FailWrite
  | notIssued
  | outstanding (acc : WriteAcc)
  | answered
  deriving DecidableEq, Repr

/-- An ending in steps 1 to 3 of R17: its final state, the result writes not yet answered, the first failure among
them (R18), and how many mirror tails it still waits for. -/
structure EndingProg where
  fin : FinalState
  outstanding : List (ResultWrite × WriteAcc)
  failed : Option FaultCode
  failWrite : FailWrite
  tails : Nat
  deriving DecidableEq, Repr

/-- How far a taken plan is: running; finishing by an abort whose effects are under way (R19); writing results; writing
its final state (R17). -/
inductive Ending
  | running
  | cancelling
  | results (e : EndingProg)
  | finalWrite (acc : WriteAcc)
  deriving DecidableEq, Repr

/-- A taken-plan entry (R5). -/
structure Taken where
  offset : Nat
  kind : PlanKind
  classes : List PClass
  detached : Bool
  notify : Bool
  ending : Ending
  deriving DecidableEq, Repr

/-- The mirror rewrite in progress (R3); `head` keeps the body's values taken when the rewrite began. -/
inductive Mirror
  | idle
  | head (body : List Byte) (acc : WriteAcc)
  | body (acc : WriteAcc)
  | tail (acc : WriteAcc)
  deriving DecidableEq, Repr

/-- State of the plan engine (chapter 1). -/
structure Ple where
  cursor : Cursor
  look : Look
  lookStop : Bool
  lookPending : Bool
  lookTimer : Bool
  lookPeriod : Option Nat
  runStart : Option RunStart
  taken : List Taken
  mirror : Mirror
  mirrorCount : Word
  rewritePending : Bool
  deriving DecidableEq, Repr

/-! ### Registers and notification (chapter 11) -/

/-- FAULT (R178, Table 74). -/
structure FaultReg where
  code : FaultCode
  offset : BitVec 28
  more : Bool
  deriving DecidableEq, Repr

/-- The register port's stored fields (Table 74). -/
structure Regs where
  run : Bool
  wbase : BitVec 20
  wlimit : BitVec 16
  fault : FaultReg
  readData : Word
  deriving DecidableEq, Repr

/-- Notification unit: flags and levels as the registers lay them out, and the truth of the conditions (R175, R176). -/
structure Ntu where
  flags : BitVec 8
  levels : Word
  slotWait : Bool
  gyroLost : Bool
  syncLost : Bool
  deriving DecidableEq, Repr

/-! ### Frame timing (chapter 2) -/

/-- Roles of an entry (R31). -/
inductive Role
  | pending | current | closing
  deriving DecidableEq, Repr

/-- Send states of an entry (Table 16). -/
inductive SendState
  | unsent | sending | acknowledged
  deriving DecidableEq, Repr

/-- A settings pipeline entry (Table 16), with the two releases of R33. -/
structure Entry where
  k : Word
  e : Nat
  g : Nat
  c : Nat
  xTarget : Int
  xApp : Int
  source : ExpMode
  underFlag : Bool
  overFlag : Bool
  slewFlag : Bool
  sbu : SbuState
  zoomPos : Int
  late : Bool
  role : Role
  send : SendState
  meterReleased : Bool
  recordReleased : Bool
  deriving DecidableEq, Repr

/-- An entry that is due (R32): one to be created for frame k, or the copy of R35, whose values are fixed (log 33). -/
inductive DueEntry
  | create (k : Word)
  | copy (e : Entry)
  deriving DecidableEq, Repr

/-- The settings link (R34). -/
inductive Link
  | idle
  | waiting (e g : Nat)
  deriving DecidableEq, Repr

/-- The frame being counted (R26 to R29): LS pulses since its FS, completed active lines, pixels of the active line in
progress, LINE_COUNT so far, frame-end raised, window-open of the next frame raised. -/
structure FrameProg where
  k : Word
  ls : Nat
  done : Nat
  linePx : Option Nat
  short : Bool
  ended : Bool
  opened : Bool
  deriving DecidableEq, Repr

/-- State of the frame timing unit (R36). `first` is the initial entry as the last STREAM start made it (R22). -/
structure Ftu where
  stream : StreamState
  fmt : Option StreamParams
  syncTimeout : Option Nat
  syncTimer : Bool
  frameNo : Word
  frameStarts : Word
  frame : Option FrameProg
  periodRun : Bool
  period : Nat
  prevPeriod : Option Nat
  lineTime : Nat
  lineMeasured : Bool
  pipeline : List Entry
  first : Option Entry
  dueEntry : Option DueEntry
  link : Link
  stopWaiting : Bool
  deriving DecidableEq, Repr

/-! ### Statistics (chapter 3) -/

/-- Zone geometry (R37), with W for the pixel tap. -/
structure Geom where
  width : Nat
  zw : Nat
  zh : Nat
  deriving DecidableEq, Repr

/-- The parameters latched for a frame (R39). -/
structure Latched where
  black : Nat
  clip : Nat
  window : AfWindow
  coring : Nat
  deriving DecidableEq, Repr

/-- The frame in progress in the STU (R41). -/
structure StuFrame where
  k : Word
  periodJump : Bool
  untimed : Bool
  deriving DecidableEq, Repr

/-- The line accumulators of the counted line in progress: its zone row, the eight partial sums, the focus partial sum
(R40, R42). -/
structure LineAcc where
  row : Nat
  sums : List Nat
  focus : Nat
  deriving DecidableEq, Repr

/-- A statistics record (Table 23). `old`: its stream has ended, and its entry left with the pipeline emptied, before a
consumer handled it (R33, R47, R55). -/
structure StatsRecord where
  k : Word
  levels : List Nat
  clipped : Nat
  focus : Nat
  valid : Bool
  untimed : Bool
  periodJump : Bool
  lineCount : Bool
  cut : Bool
  old : Bool
  deriving DecidableEq, Repr

/-- State of the statistics unit (R48). -/
structure Stu where
  geom : Option Geom
  window : AfWindow
  coring : Nat
  latched : Option Latched
  frame : Option StuFrame
  zoneSums : List Nat
  focusAcc : Nat
  line : Option LineAcc
  deriving DecidableEq, Repr

/-! ### Exposure (chapter 4) -/

/-- State of the exposure unit (R70); `inbox` holds stats-ready events raised and not yet handled (R46). -/
structure Exu where
  prm : ExpParams
  lock : Bool
  xTarget : Int
  lastM : Nat
  lastE : Int
  settled : Bool
  inbox : List StatsRecord
  deriving DecidableEq, Repr

/-! ### Lens axes (chapter 5) -/

/-- Axis parameter block (Table 31, Table 69). -/
structure AxisBlock where
  period : Nat
  filter : Nat
  wst : Nat
  tolerance : Nat
  settleTime : Nat
  stallPeriods : Nat
  stallDuty : Nat
  supplyLevel : Nat
  duty1 : Nat
  duty2 : Nat
  duty3 : Nat
  duty4 : Nat
  d1 : Nat
  d2 : Nat
  d3 : Nat
  moveTimeout : Nat
  lo : Int
  hi : Int
  hardMargin : Nat
  ref : RawRefSet
  trackStep : Nat
  deriving DecidableEq, Repr

/-- Who gave a move (5.3, Moves); a FOCUS plan's giver keeps its target for u (R108). -/
inductive Giver
  | zoomPlan
  | focusPlan (t : FocusTarget)
  | search
  | caf
  | tracking
  deriving DecidableEq, Repr

/-- A move in progress: its giver, the DRIVE duty chosen at its previous expiry, its expiries so far (R81, R86). -/
structure Move where
  giver : Giver
  prevDuty : Option Nat
  expiries : Nat
  deriving DecidableEq, Repr

/-- The motor output of an axis (5.3). -/
inductive Motor
  | drive (duty : Nat) (positive : Bool)
  | brake
  | off
  deriving DecidableEq, Repr

/-- A reference search before its edge (R90): the leave leg or the approach, its set, the counter at the previous
expiry, expiries with an unchanged counter. -/
structure RefSearch where
  leaving : Bool
  set : RefSet
  lastCounter : BitVec 16
  still : Nat
  deriving DecidableEq, Repr

/-- The filter time of an axis's inputs, in us (R71): `now` for a level change that begins; a, b and ref are the time under
which a level of that input completes if it was being timed when a swap changed the time. -/
structure FilterTimes where
  now : Nat
  a : Option Nat
  b : Option Nat
  ref : Option Nat
  deriving DecidableEq, Repr

/-- One axis of the lens drive unit (R93). -/
structure AxisUnit where
  filter : FilterTimes
  phaseA : Option Bool
  phaseB : Option Bool
  refLevel : Option Bool
  counter : BitVec 16
  refCount : BitVec 16
  refOffset : BitVec 16
  referenced : Bool
  state : AxisState
  target : Int
  move : Option Move
  moveTimer : Option Nat
  settle : Nat
  stall : Nat
  supplyLow : Nat
  braking : Nat
  stopFaulted : Bool
  output : Motor
  inForce : Motor
  search : Option RefSearch
  lastPos : Int
  period : Nat
  deriving DecidableEq, Repr

/-- The iris (R92): `steps` is signed, positive toward closed; `stage` counts the steps left of a reference stage. -/
structure Iris where
  position : Nat
  referenced : Bool
  cTravel : Nat
  steps : Int
  stage : Option Nat
  deriving DecidableEq, Repr

/-- Stages of a REFERENCE plan (R91). -/
inductive RefStage
  | zoom | iris | focus
  deriving DecidableEq, Repr

/-- A REFERENCE plan in progress: travel used by each search and the reference counts its edges stored (R91). -/
structure RefPlan where
  prm : RefParams
  stage : RefStage
  zoomTravel : Nat
  focusTravel : Nat
  zoomEdge : Option (BitVec 16)
  focusEdge : Option (BitVec 16)
  deriving DecidableEq, Repr

/-- State of the lens drive unit but for the two axes and the iris. -/
structure Ldu where
  refPlan : Option RefPlan
  msense : Msense
  deriving DecidableEq, Repr

/-! ### Zoom map (chapter 6) -/

/-- A zoom map node (Table 35). -/
structure Node where
  p : Int
  focal : Nat
  hand : Nat
  cMax : Nat
  gain : Nat
  inf : Int
  near : Int
  deriving DecidableEq, Repr

/-- One set of tables (R101): a current copy or a shadow copy. -/
structure Tables where
  nodes : List Node
  zoomBlk : AxisBlock
  focusBlk : AxisBlock
  weights : List (List Nat)
  margin : Nat
  deriving DecidableEq, Repr

/-- The stage of a TABLES plan (R97 to R102). -/
inductive Loading
  | idle
  | reading (prm : TablesParams) (got : List (List Byte)) (acc : ReadAcc)
  | aborted (acc : ReadAcc)
  | ready (t : Tables)
  deriving DecidableEq, Repr

/-- A range of positions lo..hi. -/
structure Limits where
  lo : Int
  hi : Int
  deriving DecidableEq, Repr

/-- State of the zoom map (R110). `margin` is the focus limit margin in force (R103). -/
structure Zmap where
  tables : Option Tables
  margin : Nat
  loading : Loading
  zoomLim : Limits
  focusLim : Limits
  u : Nat
  trackEnabled : Bool
  trackActive : Bool
  zLast : Int
  deriving DecidableEq, Repr

/-! ### Focus search (chapter 7) -/

/-- Search phases (Table 41, Table 73). -/
inductive AfPhase
  | start | coarse | fine | final
  deriving DecidableEq, Repr

/-- A trace sample (R115). -/
structure Sample where
  position : Int
  value : Nat
  frame : Word
  phase : AfPhase
  deriving DecidableEq, Repr

/-- A search in progress (R117 to R123). `moveTarget` is the clamped target of its last move; `ended` is set once it
waits for its trace writes to report (R116): final state, outcome, detail. -/
structure Search where
  prm : AfParams
  phase : AfPhase
  moving : Bool
  moveTarget : Int
  fineStart : Int
  fineEnd : Int
  fineIndex : Nat
  finalTarget : Int
  offset : Int
  recorded : Option PlanOutcome
  ended : Option (FinalState × PlanOutcome × PlanOutcome)
  deriving DecidableEq, Repr

/-- A candidate frame (R113). -/
structure Candidate where
  k : Word
  still : Bool
  deriving DecidableEq, Repr

/-- State of the focus search unit (R129). `dir` is the direction of the search in progress or last run (R112). -/
structure Afu where
  search : Option Search
  dir : Int
  trace : List Sample
  best : Option Nat
  below : Nat
  writes : List (Nat × WriteAcc)
  written : Nat
  traceStopped : Bool
  cafActive : Bool
  cafDir : Int
  cafLast : Option Nat
  cafStep : Nat
  cafHyst : Nat
  cafMoving : Bool
  candidates : List Candidate
  inbox : List StatsRecord
  deriving DecidableEq, Repr

/-! ### Stabilization (chapter 8) -/

/-- One gyro axis (Table 46). -/
structure RotUnit where
  b32 : Int
  a : Int
  d : Int
  pan : Bool
  run : Nat
  hold : Nat
  s : Int
  deriving DecidableEq, Repr

/-- A sample in progress on one axis: its rate difference, and whether a filled sample saturated (R138, R140). -/
structure RotSample where
  d : Int
  sat : Bool
  deriving DecidableEq, Repr

/-- A sample whose pan flag changes are due before its integration (R139, log 2), with its leak shift. -/
structure GyroSample where
  h : Nat
  pitch : RotSample
  yaw : RotSample
  deriving DecidableEq, Repr

/-- A frame of the exposure window list (R143). -/
structure ExpWindow where
  k : Word
  peak : Nat
  deriving DecidableEq, Repr

/-- State of the stabilization unit (Table 46, R144). `gyroTimer` is the gyro timeout that the running gyro timer was loaded
with, none while it is stopped; `gyroTimeout` is the one its next restart loads (R132, R133). `rx` counts the bits of a packet in reception (log 31). -/
structure Sbu where
  base : SbuBase
  pitch : RotUnit
  yaw : RotUnit
  lastSeq : Option (BitVec 4)
  centering : Nat
  inSeq : Nat
  gyroTimer : Option Nat
  gyroTimeout : Option Nat
  windows : List ExpWindow
  prm : StabParams
  rx : Option Nat
  sample : Option GyroSample
  deriving DecidableEq, Repr

/-! ### Capture control (chapter 9) -/

/-- Capture states (Table 52). -/
inductive CapState
  | none | armed | storing | draining | ended
  deriving DecidableEq, Repr

/-- Start kinds (Table 53, Table 73). -/
inductive StartKind
  | next | settled | unsettled
  deriving DecidableEq, Repr

/-- State of capture control (R148, R157). `firstFrame` is none until a frame is stored (R152). -/
structure Cap where
  state : CapState
  prm : Option CapParams
  reserved : Nat
  stored : Word
  skipSlot : Word
  skipOther : Word
  busErrs : Nat
  firstFrame : Option Word
  lastFrame : Word
  kFirst : Word
  wait : Nat
  unsettled : Bool
  startKind : StartKind
  endCause : Option PlanOutcome
  cafOutcome : PlanOutcome
  filling : Bool
  deriving DecidableEq, Repr

/-! ### Frame store (chapter 10) -/

/-- The frame being stored (Table 55), or, with `slot` none, the candidate whose slot is not decided yet (R162). `entry` is
the settings entry of a candidate whose frame ended before that decision, so that its record release was given (R172).
`focusOpen` is the focus position at frame-start until the decision, then that of the frame's note, if there is one (R169). -/
structure StoreFrame where
  k : Word
  slot : Option Nat
  index : Nat
  truncated : Bool
  busError : Bool
  periodJump : Bool
  lineCount : Bool
  unsettled : Bool
  focusOpen : Int
  focusEnd : Int
  sbuEnd : SbuState
  peak : Nat
  clipped : Nat
  focusValue : Nat
  m : Nat
  e : Int
  frameEnded : Bool
  statsHandled : Bool
  metered : Bool
  answered : Bool
  entry : Option Entry
  deriving DecidableEq, Repr

/-- A finished line in the line buffer: its place in arrival order, its bytes, its bursts already issued (R165). -/
structure LineBuf where
  row : Nat
  bytes : List Byte
  issued : Nat
  deriving DecidableEq, Repr

/-- A publication whose P write is not yet answered (R170). -/
structure Publication where
  k : Word
  busError : Bool
  notify : Bool
  deriving DecidableEq, Repr

/-- A P write: held while a mirror body write is outstanding (R3), or issued; for a publication or for a RUN start. -/
structure PWrite where
  acc : Option WriteAcc
  pub : Option Publication
  deriving DecidableEq, Repr

/-- A read of Q at a frame-start (R160), with the candidate frame that asks for a slot with it (R161). -/
structure QRead where
  acc : ReadAcc
  request : Option Word
  deriving DecidableEq, Repr

/-- A window-open note (R169). -/
structure Note where
  k : Word
  focus : Int
  deriving DecidableEq, Repr

/-- State of the frame store unit (Table 55, R174). -/
structure Fsu where
  pool : Option Pool
  p : Word
  heldQ : Word
  refusedQ : Option Word
  cur : Option StoreFrame
  line : Option (List Pixel)
  places : List LineBuf
  overrun : Bool
  lines : Nat
  crc : Word
  wbuf : List WriteAcc
  recWrite : Option WriteAcc
  pWrites : List PWrite
  qReads : List QRead
  notes : List Note
  tag : Word
  flip : Bool
  notify : Bool
  inbox : List StatsRecord
  deriving DecidableEq, Repr

/-! ### The block, its queue, and its reset -/

/-- The LX4. -/
structure Block where
  regs : Regs
  ntu : Ntu
  ple : Ple
  ftu : Ftu
  stu : Stu
  exu : Exu
  zoom : AxisUnit
  focus : AxisUnit
  iris : Iris
  ldu : Ldu
  zmap : Zmap
  afu : Afu
  sbu : Sbu
  cap : Cap
  fsu : Fsu
  due : List DueStep
  deriving DecidableEq, Repr

/-- The LX4 with the queue of commands that wait for it, first in, first out. -/
structure State extends Block where
  pending : List Instr
  deriving DecidableEq, Repr

/-- Reasons the machine could stop with a fault. There is none: every error the spec describes is latched in FAULT or
shown by a cause, an outcome or a flag, and the part goes on (log 36; safe). -/
inductive Fault
  deriving DecidableEq, Repr

/-- Reasons the model could refuse a command. -/
inductive Refusal
  /-- No meaning written yet for the command of this mnemonic. Raised by an arm of `exec` alone; safe. No arm does. -/
  | notModelled (mnemonic : String)
  deriving DecidableEq, Repr

/-- FAULT with nothing latched (R178). -/
def FaultReg.clear : FaultReg := { code := .none, offset := 0#28, more := false }

/-- The register port after power-on reset (R180). -/
def Regs.reset : Regs :=
  { run := false, wbase := 0#20, wlimit := 0#16, fault := FaultReg.clear, readData := 0#32 }

/-- The notification unit after power-on reset (R180). -/
def Ntu.reset : Ntu := { flags := 0#8, levels := 0#32, slotWait := false, gyroLost := false, syncLost := false }

/-- The plan engine after either reset (R20). -/
def Ple.reset : Ple :=
  { cursor := .none, look := .idle, lookStop := false, lookPending := false, lookTimer := false, lookPeriod := none,
    runStart := none, taken := [], mirror := .idle, mirrorCount := 0#32, rewritePending := false }

/-- The frame timing unit after either reset (R36). -/
def Ftu.reset : Ftu :=
  { stream := .stopped, fmt := none, syncTimeout := none, syncTimer := false, frameNo := 0#32, frameStarts := 0#32,
    frame := none, periodRun := false, period := 0, prevPeriod := none, lineTime := 0, lineMeasured := false,
    pipeline := [], first := none, dueEntry := none, link := .idle, stopWaiting := false }

/-- The statistics unit after either reset (R48). -/
def Stu.reset : Stu :=
  { geom := none, window := { x0 := 3, x1 := 4, y0 := 3, y1 := 4 }, coring := 8, latched := none, frame := none,
    zoneSums := List.replicate 64 0, focusAcc := 0, line := none }

/-- The exposure parameters after either reset (Table 26). -/
def ExpParams.reset : ExpParams :=
  { mode := .auto, target := 118, comp := 0, table := 0, deadband := 2, response := 2, stepMax := 48, guardZones := 64,
    clip := 250, black := 64, floor := 33, gMax := 96, slew := 8, bonus := 0, sm := 0, gm := 0, cm := 0 }

/-- The exposure unit after either reset (R70). -/
def Exu.reset : Exu :=
  { prm := ExpParams.reset, lock := false, xTarget := 0, lastM := 0, lastE := 0, settled := false, inbox := [] }

/-- The filter times without tables (R71, R75). -/
def FilterTimes.reset : FilterTimes := { now := Config.defaultFilterTime, a := none, b := none, ref := none }

/-- An axis after power-on reset (R93); the input filters have taken no sample yet (R71). -/
def AxisUnit.reset : AxisUnit :=
  { filter := FilterTimes.reset, phaseA := none, phaseB := none, refLevel := none, counter := 0#16, refCount := 0#16,
    refOffset := 0#16,
    referenced := false, state := .unreferenced, target := 0, move := none, moveTimer := none, settle := 0, stall := 0,
    supplyLow := 0, braking := 0, stopFaulted := false, output := .off, inForce := .off, search := none, lastPos := 0,
    period := Config.defaultPeriod }

/-- The iris after power-on reset (R93). -/
def Iris.reset : Iris := { position := 0, referenced := false, cTravel := 0, steps := 0, stage := none }

/-- The rest of the lens drive unit after power-on reset; the MSENSE level is the model's choice (log 30). -/
def Ldu.reset : Ldu := { refPlan := none, msense := 0 }

/-- The whole range of positions: the soft limits without tables (R75, R110). -/
def Limits.whole : Limits := { lo := -32768, hi := 32767 }

/-- The zoom map after either reset (R110). -/
def Zmap.reset : Zmap :=
  { tables := none, margin := 0, loading := .idle, zoomLim := Limits.whole, focusLim := Limits.whole, u := 0,
    trackEnabled := false, trackActive := false, zLast := 0 }

/-- The focus search unit after either reset (R129). -/
def Afu.reset : Afu :=
  { search := none, dir := 1, trace := [], best := none, below := 0, writes := [], written := 0, traceStopped := false,
    cafActive := false, cafDir := 1, cafLast := none, cafStep := 0, cafHyst := 0, cafMoving := false, candidates := [],
    inbox := [] }

/-- A gyro axis after either reset (R144). -/
def RotUnit.reset : RotUnit := { b32 := 0, a := 0, d := 0, pan := false, run := 0, hold := 0, s := 0 }

/-- The STAB parameters after either reset (Table 47). -/
def StabParams.reset : StabParams :=
  { leak := 10, boost := 2, biasOn := true, still := 64, track := 12, panThreshold := 4000, panCount := 16,
    range := 1024, centering := 256 }

/-- The stabilization unit after either reset (R144). -/
def Sbu.reset : Sbu :=
  { base := .off, pitch := RotUnit.reset, yaw := RotUnit.reset, lastSeq := none, centering := 0, inSeq := 0,
    gyroTimer := none, gyroTimeout := none, windows := [], prm := StabParams.reset, rx := none, sample := none }

/-- Capture control after either reset (R157). -/
def Cap.reset : Cap :=
  { state := .none, prm := none, reserved := 0, stored := 0#32, skipSlot := 0#32, skipOther := 0#32, busErrs := 0,
    firstFrame := none, lastFrame := 0#32, kFirst := 0#32, wait := 0, unsettled := false, startKind := .next,
    endCause := none, cafOutcome := .ok, filling := false }

/-- The frame store after either reset (R174). -/
def Fsu.reset : Fsu :=
  { pool := none, p := 0#32, heldQ := 0#32, refusedQ := none, cur := none, line := none, places := [], overrun := false,
    lines := 0, crc := 0#32, wbuf := [], recWrite := none, pWrites := [], qReads := [], notes := [], tag := 0#32,
    flip := false, notify := false, inbox := [] }

/-- The block after power-on reset (R180, and the reset rule of each block's chapter). -/
def Block.reset : Block :=
  { regs := Regs.reset, ntu := Ntu.reset, ple := Ple.reset, ftu := Ftu.reset, stu := Stu.reset, exu := Exu.reset,
    zoom := AxisUnit.reset, focus := AxisUnit.reset, iris := Iris.reset, ldu := Ldu.reset, zmap := Zmap.reset,
    afu := Afu.reset, sbu := Sbu.reset, cap := Cap.reset, fsu := Fsu.reset, due := [] }

/-- The machine right after power-on reset, with no command waiting. -/
def State.reset : State := { toBlock := Block.reset, pending := [] }

end Sys2Proof.Machine
end

