-- ==== Sys2Proof/Machine/Flags.lean ====
section
/-!
DEFINITION. Cause flags, levels, IRQ and IRQL, the conditions, and the fault register (chapter 11).
-/

namespace Sys2Proof.Machine

/-- The bit of a cause in CAUSE, and the number of its nibble in LEVELS (Table 74). -/
def Cause.bit : Cause → Nat
  | .planEnd => 0
  | .framePublished => 1
  | .slotWait => 2
  | .lensFault => 3
  | .gyroLost => 4
  | .syncLost => 5
  | .windowFault => 6
  | .releaseFault => 7

/-- All causes in the order of their bits. -/
def allCauses : List Cause :=
  [.planEnd, .framePublished, .slotWait, .lensFault, .gyroLost, .syncLost, .windowFault, .releaseFault]

/-- The cause of a condition (Table 60). -/
def Cond.cause : Cond → Cause
  | .slotWait => .slotWait
  | .gyroLost => .gyroLost
  | .syncLost => .syncLost

/-- The level of a cause in a LEVELS value: bits 4i + 2 to 4i (Table 74). -/
def levelIn (levels : Word) (c : Cause) : Nat := (levels.extractLsb' (4 * c.bit) 3).toNat

/-- The level of a cause (R175). -/
def levelOf (n : Ntu) (c : Cause) : Nat := levelIn n.levels c

/-- The flag of a cause (R175). -/
def flagOf (n : Ntu) (c : Cause) : Bool := n.flags.getLsbD c.bit

/-- The flag bit of a cause alone. -/
def causeMask (c : Cause) : BitVec 8 := 1#8 <<< c.bit

/-- The truth of a condition (R176). -/
def condOf (n : Ntu) : Cond → Bool
  | .slotWait => n.slotWait
  | .gyroLost => n.gyroLost
  | .syncLost => n.syncLost

/-- Setting a cause's flag, if its level is 1 or more (R175, R176). -/
def setFlag (c : Cause) (n : Ntu) : Ntu :=
  if levelOf n c = 0 then n else { n with flags := n.flags ||| causeMask c }

/-- The stored truth of a condition, changed. -/
def putCond (c : Cond) (v : Bool) (n : Ntu) : Ntu :=
  match c with
  | .slotWait => { n with slotWait := v }
  | .gyroLost => { n with gyroLost := v }
  | .syncLost => { n with syncLost := v }

/-- A condition becomes `v`: its flag is set when it becomes true (R176); becoming false leaves the flag. -/
def setCondIn (c : Cond) (v : Bool) (n : Ntu) : Ntu :=
  if v && !condOf n c then setFlag c.cause (putCond c v n) else putCond c v n

/-- IRQ: asserted while at least one flag is set (R177). -/
def irq (n : Ntu) : Bool := n.flags != 0#8

/-- IRQL: the greatest level among the set flags, 0 with no flag set (R177). -/
def irql (n : Ntu) : Nat :=
  allCauses.foldl (fun acc c => if flagOf n c then max acc (levelOf n c) else acc) 0

/-- The bits of LEVELS that are stored: bit 3 of each nibble is reserved (Table 74, R184). -/
def levelsMask : Word := 0x77777777#32

/-- Whether a cause's flag is set after LEVELS becomes `v`: a level of 0 clears it (R177); a level raised from 0 sets it
while its condition is true (R176). -/
def flagAfterLevels (n : Ntu) (v : Word) (c : Cause) : Bool :=
  if levelIn v c = 0 then false
  else flagOf n c ||
    (levelOf n c == 0 &&
      match c with
      | .slotWait => n.slotWait
      | .gyroLost => n.gyroLost
      | .syncLost => n.syncLost
      | _ => false)

/-- A write of LEVELS (R175 to R177). -/
def writeLevels (v : Word) (n : Ntu) : Ntu :=
  { n with
    levels := v &&& levelsMask
    flags := allCauses.foldl (fun acc c => if flagAfterLevels n v c then acc ||| causeMask c else acc) 0#8 }

/-- The live condition view in bits 8 to 10 of CAUSE (R177, Table 74). -/
def liveView (n : Ntu) : Word :=
  (if n.slotWait then 0x100#32 else 0#32) ||| (if n.gyroLost then 0x200#32 else 0#32)
    ||| (if n.syncLost then 0x400#32 else 0#32)

/-- What a read of CAUSE returns (R177). -/
def causeValue (n : Ntu) : Word := n.flags.setWidth 32 ||| liveView n

/-- An event cause is raised (R175). -/
def raise (c : Cause) (b : Block) : Block := { b with ntu := setFlag c b.ntu }

/-- A condition becomes true or false (R176). -/
def setCond (c : Cond) (v : Bool) (b : Block) : Block := { b with ntu := setCondIn c v b.ntu }

/-- FAULT after a block latches a fault (R178). -/
def latchIn (code : FaultCode) (offset : Nat) (f : FaultReg) : FaultReg :=
  if f.code = .none then { code := code, offset := BitVec.ofNat 28 offset, more := false } else { f with more := true }

/-- A block latches a fault (R178); no cause flag changes by that alone. -/
def latchFault (code : FaultCode) (offset : Nat) (b : Block) : Block :=
  { b with regs := { b.regs with fault := latchIn code offset b.regs.fault } }

/-- A memory fault of a block other than the look: FAULT is latched and WINDOW_FAULT raised; RUN is not cleared
(R3, R18, R98, R116, R159, R160, R167, R171). -/
def memoryFault (code : FaultCode) (offset : Nat) (b : Block) : Block :=
  raise .windowFault (latchFault code offset b)

/-- A memory fault if the access had one. -/
def memoryFault? (code : Option FaultCode) (offset : Nat) (b : Block) : Block :=
  match code with
  | none => b
  | some c => memoryFault c offset b

end Sys2Proof.Machine
end

