-- ==== Sys2Proof/Machine/Operands.lean ====
section
/-!
DEFINITION. The memory formats of chapter 12: reading fields of records, judging plans and tables, and laying out what
the LX4 writes.
-/

namespace Sys2Proof.Machine

/-! ### Fields (R182): little-endian, two's complement -/

/-- The unsigned byte at offset i of a record; a byte a malformed response lacks reads as 0 (log 37). -/
def u8 (bs : List Byte) (i : Nat) : Nat := (bs.getD i 0#8).toNat

/-- The u16 field at offset i. -/
def u16 (bs : List Byte) (i : Nat) : Nat := u8 bs i + 256 * u8 bs (i + 1)

/-- The u32 field at offset i. -/
def u32 (bs : List Byte) (i : Nat) : Nat := u16 bs i + 65536 * u16 bs (i + 2)

/-- A value of n bits read as two's complement. -/
def signed (n v : Nat) : Int := if 2 ^ (n - 1) ≤ v then (v : Int) - (2 ^ n : Nat) else v

/-- The s8 field at offset i. -/
def s8 (bs : List Byte) (i : Nat) : Int := signed 8 (u8 bs i)

/-- The s16 field at offset i. -/
def s16 (bs : List Byte) (i : Nat) : Int := signed 16 (u16 bs i)

/-- The n low bytes of a value, least significant first. -/
def leBytes : Nat → Nat → List Byte
  | 0, _ => []
  | n + 1, v => BitVec.ofNat 8 v :: leBytes n (v / 256)

/-- A signed value in a field of n bytes. -/
def leInt (n : Nat) (x : Int) : List Byte := leBytes n (x % ((256 ^ n : Nat) : Int)).toNat

/-- A 32-bit count in its field. -/
def leWord (w : Word) : List Byte := leBytes 4 w.toNat

/-- n reserved bytes: written as 0 (R182). -/
def reserved (n : Nat) : List Byte := List.replicate n 0#8

/-- A result area: 24 bytes, those the kind does not use 0 (R184). -/
def areaOf (bs : List Byte) : List Byte := (bs ++ reserved 24).take 24

/-- A truth value in a one-byte field. -/
def bit (v : Bool) : Nat := if v then 1 else 0

/-! ### Codes (Tables 71 to 73) -/

def PlanOutcome.code : PlanOutcome → Nat
  | .ok => 0
  | .badPlan => 1
  | .noTables => 2
  | .badTable => 3
  | .notReferenced => 4
  | .supplyLow => 5
  | .stall => 6
  | .limit => 7
  | .encoderFault => 8
  | .refFail => 9
  | .noSync => 10
  | .syncLost => 11
  | .notStreaming => 12
  | .badPool => 13
  | .poolBusy => 14
  | .busError => 15
  | .window => 16
  | .short => 17
  | .lowContrast => 18
  | .edge => 19
  | .traceFull => 20
  | .found => 21
  | .timeout => 22

def FaultCode.code : FaultCode → Nat
  | .none => 0
  | .window => 1
  | .readError => 2
  | .writeError => 3
  | .link => 4
  | .release => 5

/-- The state byte of an ended plan (Table 65). -/
def FinalState.code : FinalState → Nat
  | .done => 3
  | .failed => 4
  | .cancelled => 5

def StreamState.code : StreamState → Nat
  | .stopped => 0
  | .waitingSync => 1
  | .measuring => 2
  | .running => 3
  | .lost => 4

def ExpMode.code : ExpMode → Nat
  | .auto => 0
  | .lock => 1
  | .manual => 2

def AxisState.code : AxisState → Nat
  | .unreferenced => 0
  | .referencing => 1
  | .idle => 2
  | .moving => 3
  | .braking => 4
  | .settling => 5
  | .faulted => 6

def SbuState.code : SbuState → Nat
  | .off => 0
  | .centering => 1
  | .active => 2
  | .saturated => 3
  | .panning => 4
  | .gyroLost => 5

/-- A base state as the SBU state of the same name (Table 73). -/
def SbuBase.toState : SbuBase → SbuState
  | .off => .off
  | .centering => .centering
  | .active => .active
  | .gyroLost => .gyroLost

def AfPhase.code : AfPhase → Nat
  | .start => 0
  | .coarse => 1
  | .fine => 2
  | .final => 3

def StartKind.code : StartKind → Nat
  | .next => 0
  | .settled => 1
  | .unsettled => 2

/-! ### Plan records (Tables 65 and 66): judging a plan under R11 and R183 -/

/-- lo..hi, both ends included. -/
def inRange (lo hi v : Nat) : Bool := decide (lo ≤ v) && decide (v ≤ hi)

/-- A table or trace offset: a multiple of 64 at 0x1000 or above (Tables 36 and 40). -/
def goodOffset (v : Nat) : Bool := v % 64 == 0 && decide (Config.planFloor ≤ v)

/-- A two-valued enumerated field (Table 73). -/
def isFlag (v : Nat) : Bool := decide (v ≤ 1)

/-- The exposure mode a code names (Table 73). -/
def expMode? : Nat → Option ExpMode
  | 0 => some .auto
  | 1 => some .lock
  | 2 => some .manual
  | _ => none

/-- STREAM (R21, Table 14). -/
def parseStream (bs : List Byte) : Option PlanParams :=
  if u8 bs 16 = 1 then some .streamStop
  else if u8 bs 16 = 0 && inRange 64 16383 (u16 bs 22) && inRange 16 (u16 bs 22 - 1) (u16 bs 24)
      && inRange 256 8192 (u16 bs 26) && u16 bs 26 % 16 == 0 && inRange 1 63 (u8 bs 17) && inRange 1 3 (u8 bs 18)
      && inRange 0 192 (u8 bs 20) && inRange 0 96 (u8 bs 21) then
    some (.streamStart { lines := u16 bs 22, active := u16 bs 24, width := u16 bs 26, margin := u8 bs 17,
                         latency := u8 bs 18, s0 := u8 bs 19, g0 := u8 bs 20, c0 := u8 bs 21 })
  else none

/-- EXPOSURE (R51, Table 26). -/
def parseExposure (bs : List Byte) : Option PlanParams :=
  match expMode? (u8 bs 16) with
  | none => none
  | some mode =>
    if inRange 16 240 (u8 bs 17) && decide (-48 ≤ s8 bs 18) && decide (s8 bs 18 ≤ 48) && inRange 0 3 (u8 bs 19)
        && inRange 0 16 (u8 bs 20) && inRange 1 4 (u8 bs 21) && inRange 1 128 (u8 bs 22) && inRange 0 64 (u8 bs 23)
        && inRange 192 255 (u8 bs 24) && inRange 0 192 (u8 bs 25) && inRange 1 32 (u8 bs 26) && inRange 0 4 (u8 bs 27)
        && inRange 0 192 (u8 bs 29) && inRange 0 96 (u8 bs 30) && inRange 0 1023 (u16 bs 32)
        && inRange 1 65535 (u16 bs 34) then
      some (.exposure { mode := mode, target := u8 bs 17, comp := s8 bs 18, table := u8 bs 19, deadband := u8 bs 20,
                        response := u8 bs 21, stepMax := u8 bs 22, guardZones := u8 bs 23, clip := u8 bs 24,
                        black := u16 bs 32, floor := u16 bs 34, gMax := u8 bs 25, slew := u8 bs 26, bonus := u8 bs 27,
                        sm := u8 bs 28, gm := u8 bs 29, cm := u8 bs 30 })
    else none

/-- STAB (R133, Table 47). -/
def parseStab (bs : List Byte) : Option PlanParams :=
  if u8 bs 16 = 0 then some .stabOff
  else if u8 bs 16 = 1 && inRange 6 14 (u8 bs 17) && inRange 0 4 (u8 bs 18) && isFlag (u8 bs 19)
      && inRange 1 4095 (u16 bs 24) && inRange 4 16 (u8 bs 20) && inRange 2 32767 (u16 bs 26) && inRange 1 255 (u8 bs 21)
      && inRange 1 2047 (u16 bs 28) && inRange 64 4096 (u16 bs 30) then
    some (.stabOn { leak := u8 bs 17, boost := u8 bs 18, biasOn := u8 bs 19 == 1, still := u16 bs 24, track := u8 bs 20,
                    panThreshold := u16 bs 26, panCount := u8 bs 21, range := u16 bs 28, centering := u16 bs 30 })
  else none

/-- ZOOM (R86). -/
def parseZoom (bs : List Byte) : Option PlanParams :=
  if isFlag (u8 bs 18) then some (.zoom (s16 bs 16) (u8 bs 18 == 1)) else none

/-- FOCUS (R87). -/
def parseFocus (bs : List Byte) : Option PlanParams :=
  if u8 bs 16 = 0 then some (.focus (.position (s16 bs 18)))
  else if u8 bs 16 = 1 && inRange 0 1024 (u16 bs 20) then some (.focus (.distance (u16 bs 20)))
  else none

/-- AF_SEARCH (R111, Tables 20 and 40). -/
def parseAfSearch (bs : List Byte) : Option PlanParams :=
  if isFlag (u8 bs 16) && isFlag (u8 bs 17) && inRange 2 4095 (u16 bs 20) && inRange 1 (u16 bs 20 / 2) (u16 bs 22)
      && inRange 8 15 (u8 bs 18) && inRange 17 255 (u8 bs 19) && decide (u8 bs 26 ≤ u8 bs 27) && inRange 0 7 (u8 bs 27)
      && decide (u8 bs 28 ≤ u8 bs 29) && inRange 0 7 (u8 bs 29) && (u32 bs 32 == 0 || goodOffset (u32 bs 32)) then
    some (.afSearch { fromPosition := u8 bs 16 == 1, start := s16 bs 24, near := u8 bs 17 == 0, coarse := u16 bs 20,
                      fine := u16 bs 22, drop := u8 bs 18, contrast := u8 bs 19,
                      window := { x0 := u8 bs 26, x1 := u8 bs 27, y0 := u8 bs 28, y1 := u8 bs 29 },
                      coring := u8 bs 30, trace := u32 bs 32 })
  else none

/-- A reference set at offset i of a REFERENCE plan (Table 66). -/
def refSetAt (bs : List Byte) (i : Nat) : RawRefSet :=
  { direction := u8 bs i, edge := u8 bs (i + 1), duty := u8 bs (i + 2), travel := u16 bs (i + 4), offset := s16 bs (i + 6) }

/-- REFERENCE (R89): its sets are not judged here. -/
def parseReference (bs : List Byte) : Option PlanParams :=
  if inRange 96 255 (u8 bs 32) then
    some (.reference { zoom := refSetAt bs 16, focus := refSetAt bs 24, cTravel := u8 bs 32 })
  else none

/-- CAPTURE (R145, Table 50): the CAF fields are judged under CONTINUOUS alone. -/
def parseCapture (bs : List Byte) : Option PlanParams :=
  if inRange 1 8 (u8 bs 17) && isFlag (u8 bs 18) && inRange 1 255 (u8 bs 19) && isFlag (u8 bs 20) && isFlag (u8 bs 21)
      && isFlag (u8 bs 24) && isFlag (u8 bs 25) && isFlag (u8 bs 26)
      && (u8 bs 21 == 0 || (inRange 1 255 (u8 bs 22) && inRange 1 255 (u8 bs 23))) then
    some (.capture { count := u8 bs 16, stride := u8 bs 17, settledStart := u8 bs 18 == 1, maxWait := u8 bs 19,
                     aeLock := u8 bs 20 == 0, caf := u8 bs 21 == 1, cafStep := u8 bs 22, cafHyst := u8 bs 23,
                     flip := u8 bs 24 == 1, endPolicy := u8 bs 25 == 1, notify := u8 bs 26 == 1 })
  else none

/-- TABLES (R97, Table 36). -/
def parseTables (bs : List Byte) : Option PlanParams :=
  if goodOffset (u32 bs 16) && goodOffset (u32 bs 20) && goodOffset (u32 bs 24) && goodOffset (u32 bs 28)
      && inRange 0 4095 (u16 bs 32) then
    some (.tables { mapOff := u32 bs 16, zoomOff := u32 bs 20, focusOff := u32 bs 24, weightOff := u32 bs 28,
                    margin := u16 bs 32 })
  else none

/-- The parameters of a plan, by its kind byte (Table 73); none for a plan that R11 refuses by its own bytes. -/
def parseParams (bs : List Byte) : Option PlanParams :=
  match u8 bs 1 with
  | 1 => parseStream bs
  | 2 => parseExposure bs
  | 3 => parseStab bs
  | 4 => parseZoom bs
  | 5 => parseFocus bs
  | 6 => parseAfSearch bs
  | 7 => parseReference bs
  | 8 => parseCapture bs
  | 9 => parseTables bs
  | 10 => some .sync
  | _ => none

/-- DETACHED and NOTIFY: bits 0 and 1 of the flags byte; the others are ignored (Table 65, R184). -/
def planDetached (bs : List Byte) : Bool := (bs.getD 2 0#8).getLsbD 0
def planNotify (bs : List Byte) : Bool := (bs.getD 2 0#8).getLsbD 1

/-- The tag of a plan (Table 65). -/
def planTag (bs : List Byte) : Word := BitVec.ofNat 32 (u32 bs 4)

/-- The state READY (Table 65). -/
def stateReady : Nat := 1

/-- The state TAKEN (Table 65). -/
def stateTaken : Nat := 2

/-- The kind of a plan's parameters (Table 9). -/
def PlanParams.kind : PlanParams → PlanKind
  | .streamStart _ => .streamStart
  | .streamStop => .streamStop
  | .exposure _ => .exposure
  | .stabOn _ => .stab
  | .stabOff => .stab
  | .zoom _ _ => .zoom
  | .focus _ => .focus
  | .afSearch _ => .afSearch
  | .reference _ => .reference
  | .capture _ => .capture
  | .tables _ => .tables
  | .sync => .sync

/-- The classes a plan holds while it runs (Table 9). -/
def PlanParams.classes : PlanParams → List PClass
  | .streamStart _ => [.stream]
  | .streamStop => [.stream]
  | .exposure _ => [.exposure]
  | .stabOn _ => [.stab]
  | .stabOff => [.stab]
  | .zoom _ _ => [.zoom]
  | .focus _ => [.focus]
  | .afSearch _ => [.focus, .zoom]
  | .reference _ => [.zoom, .focus]
  | .capture p => if p.caf then [.capture, .zoom, .focus] else [.capture, .zoom]
  | .tables _ => [.zoom, .focus, .capture]
  | .sync => []

/-! ### Table blocks (Tables 68 and 69, R99) -/

/-- Node j of the map block (Table 68). -/
def nodeAt (bs : List Byte) (j : Nat) : Node :=
  let o := 16 * j
  { p := s16 bs o, focal := u16 bs (o + 2), hand := u16 bs (o + 4), cMax := u8 bs (o + 6), gain := u16 bs (o + 8),
    inf := s16 bs (o + 10), near := s16 bs (o + 12) }

/-- The 33 nodes of a map block. -/
def parseNodes (bs : List Byte) : List Node := (List.range Config.nodeCount).map (nodeAt bs)

/-- An axis parameter block (Table 69). -/
def parseAxisBlock (bs : List Byte) : AxisBlock :=
  { period := u8 bs 0, filter := u8 bs 1, wst := u8 bs 2, tolerance := u8 bs 3, settleTime := u8 bs 4,
    stallPeriods := u8 bs 5, stallDuty := u8 bs 6, supplyLevel := u8 bs 7, duty1 := u8 bs 8, duty2 := u8 bs 9,
    duty3 := u8 bs 10, duty4 := u8 bs 11, d1 := u16 bs 0x0C, d2 := u16 bs 0x0E, d3 := u16 bs 0x10,
    moveTimeout := u16 bs 0x12, lo := s16 bs 0x14, hi := s16 bs 0x16, hardMargin := u16 bs 0x18,
    ref := { direction := u8 bs 0x1A, edge := u8 bs 0x1B, duty := u8 bs 0x1C, travel := u16 bs 0x1E,
             offset := s16 bs 0x20 },
    trackStep := u16 bs 0x22 }

/-- The four weight tables of a weight block: table t in bytes t × 64 to t × 64 + 63. -/
def parseWeights (bs : List Byte) : List (List Nat) :=
  (List.range 4).map fun t => (List.range 64).map fun z => u8 bs (64 * t + z)

/-- A reference set whose fields are in the ranges of Table 31, or none. -/
def RawRefSet.check (r : RawRefSet) : Option RefSet :=
  if isFlag r.direction && isFlag r.edge && inRange 1 255 r.duty && inRange 1 65535 r.travel then
    some { positive := r.direction == 1, rising := r.edge == 0, duty := r.duty, travel := r.travel, offset := r.offset }
  else none

/-- The rows of Table 31, counted from 1, each with whether the block's fields of that row lie in the numeric bounds
(checks 3 and 5 of Table 37); the soft limits take any value, the tracking step is judged for the focus axis alone. -/
def blockRows (ax : Axis) (a : AxisBlock) : List (Nat × Bool) :=
  [(1, inRange 2 40 a.period), (2, inRange 1 15 a.filter),
   (3, inRange 1 32767 a.d1 && inRange 1 32767 a.d2 && inRange 1 32767 a.d3),
   (4, inRange 0 255 a.duty1 && inRange 0 255 a.duty2 && inRange 0 255 a.duty3 && inRange 0 255 a.duty4),
   (5, inRange 1 255 a.wst), (6, inRange 0 255 a.tolerance), (7, inRange 1 63 a.settleTime),
   (8, inRange 1 65535 a.moveTimeout), (9, inRange 2 63 a.stallPeriods), (10, inRange 0 255 a.stallDuty), (11, true),
   (12, inRange 0 32767 a.hardMargin), (13, inRange 0 7 a.supplyLevel), (14, isFlag a.ref.direction),
   (15, isFlag a.ref.edge), (16, inRange 1 255 a.ref.duty), (17, inRange 1 65535 a.ref.travel), (18, true),
   (19, ax == .zoom || inRange 1 4095 a.trackStep)]

/-- The orders of an axis block (checks 4 and 6 of Table 37); lo < hi is judged for the zoom axis alone. -/
def blockOrders (ax : Axis) (a : AxisBlock) : List (Nat × Bool) :=
  [(1, decide (a.d1 < a.d2) && decide (a.d2 < a.d3)),
   (2, decide (a.duty1 ≤ a.duty2) && decide (a.duty2 ≤ a.duty3) && decide (a.duty3 ≤ a.duty4)),
   (3, decide (a.tolerance ≤ a.wst)),
   (4, ax == .focus || decide (a.lo < a.hi))]

/-- The index of the first entry of a list of judgements that fails. -/
def firstFailed (l : List (Nat × Bool)) : Option Nat := (l.find? fun r => !r.2).map (·.1)

/-- Check 1 of Table 37: the first node whose position is not above the one before it; `j` is the number of the node
that follows `prev`. -/
def nodesAscend : Nat → Node → List Node → Option Nat
  | _, _, [] => none
  | j, prev, n :: rest => if n.p ≤ prev.p then some j else nodesAscend (j + 1) n rest

/-- Check 1 over the whole map. -/
def checkAscent : List Node → Option Nat
  | [] => none
  | n :: rest => nodesAscend 1 n rest

/-- Check 2 of Table 37. -/
def checkNodes (ns : List Node) : Option Nat := ns.findIdx? fun n => n.hand == 0 || decide (96 < n.cMax)

/-- The position of the first node. -/
def firstPos (ns : List Node) : Int := (ns.head?.map (·.p)).getD 0

/-- The position of the last node. -/
def lastPos (ns : List Node) : Int := (ns.getLast?.map (·.p)).getD 0

/-- Checks 8 and 9 of Table 37 on the weights. -/
def checkWeights (ws : List (List Nat)) : Option Nat := ws.flatten.findIdx? fun w => decide (15 < w)
def checkWeightSums (ws : List (List Nat)) : Option Nat := ws.findIdx? fun t => t.all (· == 0)

/-- Validation of a shadow set: the number of the first check of Table 37 that fails, and its index (R99). Where several
nodes, rows, orders, weights or tables fail that check, the index is that of the lowest one (the model's choice, log 62). -/
def validateTables (t : Tables) : Option (Nat × Nat) :=
  ((checkAscent t.nodes).map fun i => (1, i)) <|>
  ((checkNodes t.nodes).map fun i => (2, i)) <|>
  ((firstFailed (blockRows .zoom t.zoomBlk)).map fun i => (3, i)) <|>
  ((firstFailed (blockOrders .zoom t.zoomBlk)).map fun i => (4, i)) <|>
  ((firstFailed (blockRows .focus t.focusBlk)).map fun i => (5, i)) <|>
  ((firstFailed (blockOrders .focus t.focusBlk)).map fun i => (6, i)) <|>
  (if min t.zoomBlk.hi (lastPos t.nodes) < max t.zoomBlk.lo (firstPos t.nodes) then some (7, 0) else none) <|>
  ((checkWeights t.weights).map fun i => (8, i)) <|>
  ((checkWeightSums t.weights).map fun i => (9, i))

/-- The tables that four blocks, in the order of Table 36, and a focus limit margin make (R98). -/
def parseTableSet (blocks : List (List Byte)) (margin : Nat) : Tables :=
  { nodes := parseNodes (blocks.getD 0 []), zoomBlk := parseAxisBlock (blocks.getD 1 []),
    focusBlk := parseAxisBlock (blocks.getD 2 []), weights := parseWeights (blocks.getD 3 []), margin := margin }

/-- Offset and length of block i of a TABLES plan (Table 36). -/
def tableBlock (p : TablesParams) : Nat → Nat × Nat
  | 0 => (p.mapOff, 528)
  | 1 => (p.zoomOff, 64)
  | 2 => (p.focusOff, 64)
  | _ => (p.weightOff, 256)

/-! ### The host area (Table 63) -/

def chainStartOf (bs : List Byte) : Nat := u32 bs 0
def releasedOf (bs : List Byte) : Word := BitVec.ofNat 32 (u32 bs 4)
def lookPeriodOf (bs : List Byte) : Nat := u8 bs 0x11

/-- The offset of Q, the field read at each frame-start (Table 63, R160). -/
def offQ : Nat := 0x004

/-- The offsets of the host fields that a look or a later RUN start reads (Table 63). Where the accesses begin is the model's
choice: each byte field is read alone, the pool fields together (DESIGN CHOICE, log 69). -/
def offPool : Nat := 0x008
def offLookPeriod : Nat := 0x011
def offSyncTimeout : Nat := 0x012
def offGyroTimeout : Nat := 0x013

/-- The pool fields: slot base, slot stride and N are the nine bytes from 0x008 (Table 63), read together (log 69). -/
def poolOf (bs : List Byte) : Pool := { base := u32 bs 0, stride := u32 bs 4, n := u8 bs 8 }

/-! ### What the LX4 writes -/

/-- The limit flags byte of an entry: bit 0 UNDER, bit 1 OVER, bit 2 IRIS_SLEW (12.4). -/
def limitFlags (e : Entry) : Nat := bit e.underFlag + 2 * bit e.overFlag + 4 * bit e.slewFlag

/-- The newest-entry fields of the mirror, 0x060 to 0x06F; 0 while the pipeline is empty (Table 64, R182). -/
def mirrorEntry : Option Entry → List Byte
  | none => reserved 16
  | some e =>
    leWord e.k ++ leBytes 2 e.e ++ leBytes 1 e.g ++ leBytes 1 e.c ++ leInt 2 e.xTarget ++ leInt 2 e.xApp
      ++ leBytes 1 e.source.code ++ leBytes 1 (limitFlags e) ++ leBytes 1 e.sbu.code ++ leBytes 1 (bit e.late)

/-- Results of a STREAM plan (Table 66): the frame period. -/
def streamArea (period : Nat) : List Byte := areaOf (leBytes 4 period)

/-- Results of a STAB plan (Table 66): the biases b and the base state. -/
def stabArea (pitch yaw : Int) (base : SbuBase) : List Byte :=
  areaOf (leInt 4 pitch ++ leInt 4 yaw ++ leBytes 1 base.toState.code)

/-- Results of a ZOOM plan, and with u of a FOCUS plan (Table 66). -/
def moveArea (target : Int) (detail : PlanOutcome) (expiries : Nat) (u : Nat) : List Byte :=
  areaOf (leInt 2 target ++ leBytes 1 detail.code ++ reserved 1 ++ leBytes 2 expiries ++ leBytes 2 u)

/-- Results of a REFERENCE plan (Table 66). -/
def referenceArea (focusPos : Int) (zoomCount focusCount : BitVec 16) (zoomTravel focusTravel : Nat) : List Byte :=
  areaOf (leInt 2 focusPos ++ leBytes 2 zoomCount.toNat ++ leBytes 2 focusCount.toNat ++ reserved 2
    ++ leBytes 4 zoomTravel ++ leBytes 4 focusTravel)

/-- Results of a TABLES plan (Table 66). -/
def tablesArea (swapFrameStart : Bool) (frame : Word) (index : Nat) (offset : Nat) : List Byte :=
  areaOf (leBytes 1 (bit swapFrameStart) ++ reserved 3 ++ leWord frame ++ leBytes 2 index ++ reserved 2 ++ leBytes 4 offset)

/-- Results of a CAPTURE plan (Table 66). -/
def captureArea (c : Cap) : List Byte :=
  areaOf (leWord c.skipSlot ++ leWord c.skipOther ++ leWord (c.firstFrame.getD 0) ++ leWord c.lastFrame
    ++ leBytes 1 c.busErrs ++ leBytes 1 c.startKind.code ++ leBytes 1 c.cafOutcome.code ++ leBytes 1 ((c.endCause.map (·.code)).getD 0))

/-- A trace sample (Table 70). -/
def sampleBytes (s : Sample) : List Byte :=
  leInt 2 s.position ++ leBytes 1 s.phase.code ++ reserved 1 ++ leBytes 4 s.value ++ leWord s.frame ++ reserved 4

/-- The record flags of a stored frame (12.4); CRC_VALID is set when BUS_ERROR is clear (R168). -/
def recordFlags (f : StoreFrame) (late : Bool) : Nat :=
  bit f.truncated + 2 * bit f.busError + 4 * bit (!f.busError) + 8 * bit late + 16 * bit f.periodJump
    + 32 * bit f.lineCount + 64 * bit f.unsettled

/-- The 64-byte frame record (Table 67) of frame f with its settings entry e, the focal length at its zoom position, its
lines written and the CRC register, which is inverted (R168). -/
def recordBytes (f : StoreFrame) (tag : Word) (e : Entry) (focal lines : Nat) (crc : Word) : List Byte :=
  leWord f.k ++ leWord tag ++ leBytes 1 f.index ++ leBytes 1 e.source.code ++ leBytes 1 (limitFlags e)
    ++ leBytes 1 f.clipped ++ leBytes 2 e.e ++ leBytes 1 e.g ++ leBytes 1 e.c ++ leInt 2 e.xApp ++ leInt 2 e.xTarget
    ++ leBytes 1 f.m ++ leBytes 1 e.sbu.code ++ leInt 2 f.e ++ leBytes 4 f.focusValue ++ leInt 2 f.focusOpen
    ++ leInt 2 f.focusEnd ++ leInt 2 e.zoomPos ++ leBytes 2 focal ++ leBytes 1 f.sbuEnd.code ++ reserved 1
    ++ leBytes 2 f.peak ++ leBytes 2 lines ++ leBytes 2 (recordFlags f e.late) ++ leWord (~~~ crc) ++ reserved 16

/-- Offset of the record of slot i (R158). -/
def recordOffset (slot : Nat) : Nat := Config.recordBase + 64 * slot

/-- The first word of a status mirror rewrite, its P field, and its last word (Table 64). -/
def offMirrorHead : Nat := 0x040
def offMirrorP : Nat := 0x044
def offMirrorTail : Nat := 0x0FC

/-! ### Pixels and gyro packets -/

/-- A pixel in memory: its 12 bits in the low bits of a little-endian 16-bit value (R163). -/
def pixelBytes (p : Pixel) : List Byte := leBytes 2 p.toNat

/-- The bytes of a line, pixel 0 first (R163). -/
def lineBytes (px : List Pixel) : List Byte := px.flatMap pixelBytes

/-- Pixels 0 to W − 1 of a line as the taps take them: missing pixels are 0, pixels beyond W are not taken (R27). -/
def takeLine (width : Nat) (px : List Pixel) : List Pixel := (px ++ List.replicate (width - px.length) 0#12).take width

/-- Fields of a gyro packet; bit 39 is the first on the link (Table 47A). -/
def packetSeq (p : BitVec 40) : BitVec 4 := p.extractLsb' 36 4
def packetPitch (p : BitVec 40) : Int := (p.extractLsb' 16 8 ++ p.extractLsb' 24 8 : BitVec 16).toInt
def packetYaw (p : BitVec 40) : Int := (p.extractLsb' 0 8 ++ p.extractLsb' 8 8 : BitVec 16).toInt

/-! ### Registers (Table 62, Table 74) -/

/-- Names of the eight registers. -/
inductive RegName
  | id | ctrl | wbase | wlimit | cause | levels | abort | fault
  deriving DecidableEq, Repr

/-- FAULT as its register value (Table 74). -/
def faultValue (f : FaultReg) : Word := BitVec.ofBool f.more ++ BitVec.ofNat 3 f.code.code ++ f.offset

end Sys2Proof.Machine
end

