-- ==== Sys2Proof/Machine/Ops.lean ====
section
/-!
DEFINITION. Operations that several blocks share: the window check and the accesses of the memory port, due steps,
requests of looks and mirror rewrites, the taken-plan table, and the ending of a plan.
-/

namespace Sys2Proof.Machine

/-! ### Arithmetic of the manual (00_scope, Rounding) -/

/-- Clamp(x, a, b). -/
def clamp (x lo hi : Int) : Int := max lo (min x hi)

/-- num / den rounded to nearest, halves away from zero; den is not 0. -/
def roundHalfAway (num den : Int) : Int :=
  let q : Int := ((2 * num.natAbs + den.natAbs) / (2 * den.natAbs) : Nat)
  if (num < 0) = (den < 0) then q else -q

/-! ### The memory port (R1) -/

/-- The window in bytes. -/
def windowBytes (b : Block) : Nat := b.regs.wlimit.toNat * Config.pageBytes

/-- Whether an access lies inside the window (R1). -/
def inWindow (b : Block) (offset len : Nat) : Bool := decide (offset + len ≤ windowBytes b)

/-- WBASE: its low 12 bits are 0. -/
def windowBase (b : Block) : Nat := b.regs.wbase.toNat * Config.pageBytes

/-- The address an access is issued at, or none for a window fault (R1). -/
def accessAddr (b : Block) (offset len : Nat) : Option Nat :=
  if inWindow b offset len then some (windowBase b + offset) else none

/-- A read the block asks for (R1). -/
def readAt (b : Block) (offset len : Nat) : ReadAcc := { offset := offset, len := len, addr := accessAddr b offset len }

/-- A write the block asks for (R1). -/
def writeAt (b : Block) (offset : Nat) (data : List Byte) : WriteAcc :=
  { offset := offset, data := data, addr := accessAddr b offset data.length }

/-- What a block that asked for a read gets back: a window fault in place of a response if it was not issued, an error
response, or the bytes (R1). -/
def ReadAcc.result (a : ReadAcc) (r : ReadResp) : Except FaultCode (List Byte) :=
  match a.addr, r with
  | none, _ => .error .window
  | some _, .error => .error .readError
  | some _, .data bs => .ok bs

/-- The fault of a write that is answered, if it has one (R1). -/
def WriteAcc.fault (a : WriteAcc) (err : Bool) : Option FaultCode :=
  match a.addr with
  | none => some .window
  | some _ => if err then some .writeError else none

/-! ### Due steps (log 2) -/

/-- A step becomes due. -/
def markDue (d : DueStep) (b : Block) : Block := if d ∈ b.due then b else { b with due := b.due ++ [d] }

/-- A step is no longer due. -/
def dropDue (d : DueStep) (b : Block) : Block := { b with due := b.due.filter (· != d) }

/-! ### Looks and rewrites (R3, R7) -/

/-- Whether a look is in progress, or starts at once. -/
def lookBusy (b : Block) : Bool := b.ple.look != .idle || decide (DueStep.lookStart ∈ b.due)

/-- A look is requested: dropped while RUN is 0 (R6), pending if a look is in progress, else a look starts (R7). -/
def requestLook (b : Block) : Block :=
  if b.regs.run then
    if lookBusy b then { b with ple := { b.ple with lookPending := true } } else markDue .lookStart b
  else b

/-- Whether a mirror rewrite is in progress, or begins at once. -/
def mirrorBusy (b : Block) : Bool := b.ple.mirror != .idle || decide (DueStep.mirrorStart ∈ b.due)

/-- A status mirror rewrite is requested: pending if one is in progress (R3). -/
def requestMirror (b : Block) : Block :=
  if mirrorBusy b then { b with ple := { b.ple with rewritePending := true } } else markDue .mirrorStart b

/-- How many tails must be written until a rewrite requested now has written its own: the one in progress too (R3). -/
def tailsToWait (b : Block) : Nat := if mirrorBusy b then 2 else 1

/-! ### The taken-plan table (R5) -/

/-- The taken plan of a kind. -/
def takenOf (b : Block) (k : PlanKind) : Option Taken := b.ple.taken.find? fun t => t.kind == k

/-- The class-busy set: the classes of the taken plans (R5). -/
def classBusy (b : Block) (c : PClass) : Bool := b.ple.taken.any fun t => t.classes.contains c

/-- The plan that holds a class (R19). -/
def holderOf (b : Block) (c : PClass) : Option Taken := b.ple.taken.find? fun t => t.classes.contains c

/-- How far the taken plan of a kind is, changed. -/
def setEnding (k : PlanKind) (e : Ending) (b : Block) : Block :=
  { b with ple := { b.ple with taken := b.ple.taken.map fun t => if t.kind = k then { t with ending := e } else t } }

/-! ### Plan endings (R17, R18) -/

/-- Offsets of a plan's header fields (Table 65). -/
def offOutcome : Nat := 3
def offResultWord : Nat := 12
def offResultArea : Nat := 40
def offNext : Nat := 8

/-- Steps 1 and 2 of an ending: the result writes are issued and a mirror rewrite is requested (R17). -/
def startEnding (t : Taken) (fin : FinalState) (o : PlanOutcome) (word area : List Byte) (b : Block) : Block :=
  requestMirror
    (setEnding t.kind
      (.results
        { fin := fin
          outstanding :=
            [(.outcome, writeAt b (t.offset + offOutcome) (leBytes 1 o.code)),
             (.word, writeAt b (t.offset + offResultWord) word),
             (.area, writeAt b (t.offset + offResultArea) area)]
          failed := none
          failWrite := .notIssued
          tails := tailsToWait b }) b)

/-- The owner of a kind reports its plan's end, or has done its abort effects. A plan that is not finishing ends as
reported; one that an abort made finishing ends CANCELLED with outcome OK (R19); any other report finds nothing to do. -/
def endPlan (k : PlanKind) (fin : FinalState) (o : PlanOutcome) (word area : List Byte) (b : Block) : Block :=
  match takenOf b k with
  | none => b
  | some t =>
    match t.ending with
    | .running => startEnding t fin o word area b
    | .cancelling => startEnding t .cancelled .ok word area b
    | _ => b

/-- Whether a plan of a kind is taken and neither reported nor aborted. -/
def planRunning (b : Block) (k : PlanKind) : Bool :=
  match takenOf b k with
  | some t => t.ending == .running
  | none => false

/-- Whether an abort of the plan of a kind is under way. -/
def planCancelling (b : Block) (k : PlanKind) : Bool :=
  match takenOf b k with
  | some t => t.ending == .cancelling
  | none => false

/-- The outcome an ending with a failed result write records (R18). -/
def failOutcome : FaultCode → PlanOutcome
  | .window => .window
  | _ => .busError

/-- The next step of an ending in steps 1 to 3: after the result writes are answered, the failure outcome is written if
one of them failed (R18); then, once the mirror tail it waits for is written, the final state (R17 step 4). -/
def advanceEnding (b : Block) (t : Taken) (e : EndingProg) : Ending :=
  if e.outstanding = [] then
    match e.failed, e.failWrite with
    | some c, .notIssued =>
      .results { e with
        failWrite := .outstanding (writeAt b (t.offset + offOutcome) (leBytes 1 (failOutcome c).code)) }
    | _, .outstanding _ => .results e
    | f, _ =>
      if e.tails = 0 then
        .finalWrite (writeAt b t.offset (leBytes 1 (if f.isSome then FinalState.failed else e.fin).code))
      else .results e
  else .results e

/-- A mirror tail has been written: every ending that waits for one counts it (R17 step 3). -/
def countTail (b : Block) (t : Taken) : Taken :=
  match t.ending with
  | .results e => { t with ending := advanceEnding b t { e with tails := e.tails - 1 } }
  | _ => t

end Sys2Proof.Machine
end

