-- ==== Sys2Proof/Machine/ZoomMap.lean ====
section
/-!
DEFINITION. The values the zoom map gives (chapter 6): interpolation, conservative values, soft limits, the tracking
target and the distance fraction. The operations that move the focus axis are in Lens.lean.
-/

namespace Sys2Proof.Machine

/-! ### Values at a zoom position (R95, R96) -/

/-- The bracketing nodes of a position that is not below the first node: the largest j with p_j ≤ z, and j + 1; the last
two nodes at the end of the map (R95). -/
def bracket : List Node → Int → Option (Node × Node)
  | a :: b :: rest, z => if z < b.p ∨ rest = [] then some (a, b) else bracket (b :: rest) z
  | _, _ => none

/-- The bracketing nodes of z, clamped into p_0..p_32 (R95). -/
def bracketAt (ns : List Node) (z : Int) : Option (Node × Node × Int) :=
  let zc := clamp z (firstPos ns) (lastPos ns)
  (bracket ns zc).map fun ab => (ab.1, ab.2, zc)

/-- An interpolated value at z (R95); 0 with no nodes. -/
def interpolate (v : Node → Int) (ns : List Node) (z : Int) : Int :=
  match bracketAt ns z with
  | none => 0
  | some (a, b, zc) => v a + roundHalfAway ((v b - v a) * (zc - a.p)) (b.p - a.p)

/-- A conservative value at z: the smaller of the two bracketing nodes' values (R96). -/
def conservative (v : Node → Nat) (ns : List Node) (z : Int) : Nat :=
  match bracketAt ns z with
  | none => 0
  | some (a, b, _) => min (v a) (v b)

/-- The least value over all nodes (R96, R103). -/
def minOver (v : Node → Int) : List Node → Int
  | [] => 0
  | n :: rest => rest.foldl (fun acc m => min acc (v m)) (v n)

/-- The greatest value over all nodes (R103). -/
def maxOver (v : Node → Int) : List Node → Int
  | [] => 0
  | n :: rest => rest.foldl (fun acc m => max acc (v m)) (v n)

/-- The nodes of the current map; none before the first successful TABLES (R95). -/
def nodesOf (b : Block) : List Node := (b.zmap.tables.map (·.nodes)).getD []

/-- inf(z), near(z), g and focal length at z (R95). -/
def infAt (b : Block) (z : Int) : Int := interpolate (·.inf) (nodesOf b) z
def nearAt (b : Block) (z : Int) : Int := interpolate (·.near) (nodesOf b) z
def gainAt (b : Block) (z : Int) : Int := interpolate (fun n => (n.gain : Int)) (nodesOf b) z
def focalAt (b : Block) (z : Int) : Int := interpolate (fun n => (n.focal : Int)) (nodesOf b) z

/-- Position of an axis: counter − reference count + reference offset modulo 2^16, read as signed (R74). -/
def position (a : AxisUnit) : Int := (a.counter - a.refCount + a.refOffset).toInt

/-- The conservative hand_us at the zoom position, none without tables; over all nodes while the zoom axis is not
referenced (R64, R96). -/
def handLimit (b : Block) : Option Nat :=
  b.zmap.tables.map fun t =>
    if b.zoom.referenced then conservative (·.hand) t.nodes (position b.zoom)
    else (minOver (fun n => (n.hand : Int)) t.nodes).toNat

/-- The conservative C_max at the zoom position; 0 without tables (R64, R96). -/
def irisMax (b : Block) : Nat :=
  match b.zmap.tables with
  | none => 0
  | some t =>
    if b.zoom.referenced then conservative (·.cMax) t.nodes (position b.zoom)
    else (minOver (fun n => (n.cMax : Int)) t.nodes).toNat

/-! ### Soft limits (R103, R104) -/

/-- Positions are signed 16-bit. -/
def clamp16 (x : Int) : Int := clamp x (-32768) 32767

/-- The zoom soft limits (R104). -/
def zoomLimits (b : Block) : Limits :=
  match b.zmap.tables with
  | none => Limits.whole
  | some t => { lo := max t.zoomBlk.lo (firstPos t.nodes), hi := min t.zoomBlk.hi (lastPos t.nodes) }

/-- The focus soft limits (R103). -/
def focusLimits (b : Block) : Limits :=
  match b.zmap.tables with
  | none => Limits.whole
  | some t =>
    let m : Int := b.zmap.margin
    if b.zoom.referenced then
      let i := infAt b (position b.zoom)
      let n := nearAt b (position b.zoom)
      { lo := clamp16 (min i n - m), hi := clamp16 (max i n + m) }
    else
      { lo := clamp16 (minOver (fun n => min n.inf n.near) t.nodes - m),
        hi := clamp16 (maxOver (fun n => max n.inf n.near) t.nodes + m) }

/-! ### Tracking target and distance fraction (R106, R108, R109) -/

/-- The focus position that a distance fraction gives at z (R106, R109). -/
def focusAtFraction (b : Block) (z : Int) (u : Nat) : Int :=
  infAt b z + roundHalfAway ((nearAt b z - infAt b z) * u) 1024

/-- The distance fraction of a focus position at z; unchanged when near(z) = inf(z) or the zoom axis is not referenced
(R108). -/
def fractionOf (b : Block) : Nat :=
  let z := position b.zoom
  let i := infAt b z
  let n := nearAt b z
  if n = i ∨ b.zoom.referenced = false then b.zmap.u
  else (clamp (roundHalfAway ((position b.focus - i) * 1024) (n - i)) 0 1024).toNat

/-- u recomputed from the focus position (R108). -/
def recomputeU (b : Block) : Block := { b with zmap := { b.zmap with u := fractionOf b } }

end Sys2Proof.Machine
end

