-- ==== Sys2Proof/Machine/Exposure.lean ====
section
/-!
DEFINITION. The exposure unit (chapter 4): the step conversions, metering, the program line, the initial entries, and
the hand-over of an EXPOSURE plan.
-/

namespace Sys2Proof.Machine

/-! ### Steps (R49, R50) -/

/-- lg16(n), n in 1..65535 (R49). -/
def lg16 (n : Nat) : Nat :=
  let k := Nat.log2 n
  16 * k + 16 * (n - 2 ^ k) / 2 ^ k

/-- ex16(s), s in 0..255 (R50). -/
def ex16 (s : Nat) : Nat := (16 + s % 16) * 2 ^ (s / 16) / 16

/-! ### Modes (R54) -/

/-- The effective mode: LOCK while the capture lock is set in AUTO, else the configured mode (R54). -/
def effectiveMode (x : Exu) : ExpMode := if x.lock && x.prm.mode == .auto then .lock else x.prm.mode

/-! ### Reported SBU state (R134A) -/

/-- The reported SBU state: the base state, refined in ACTIVE by the pan flags and the saturation holds (R134A). -/
def reportedState (s : Sbu) : SbuState :=
  match s.base with
  | .active =>
    if s.pitch.pan || s.yaw.pan then .panning
    else if decide (0 < s.pitch.hold) || decide (0 < s.yaw.hold) then .saturated
    else .active
  | base => base.toState

/-! ### Metering (R55 to R62) -/

/-- The weight table in force: weight 1 for every zone before the first successful TABLES (R56). -/
def weightsOf (b : Block) : List Nat :=
  match b.zmap.tables with
  | none => List.replicate 64 1
  | some t => t.weights.getD b.exu.prm.table []

/-- M, the weighted mean of the zone levels rounded half up (R56). -/
def meteredLevel (weights levels : List Nat) : Nat :=
  let wt := weights.sum
  let sg := (List.zipWith (· * ·) weights levels).sum
  (2 * sg + wt) / (2 * wt)

/-- The metering error e (R57). -/
def meterError (p : ExpParams) (m : Nat) : Int :=
  if m = 0 then 128 else (lg16 p.target : Int) + p.comp - lg16 m

/-- The correction: deadband, response, highlight guard (R58). -/
def correction (p : ExpParams) (clipped : Nat) (e : Int) : Int :=
  if e.natAbs ≤ p.deadband then 0
  else
    let c := clamp ((e * p.response).tdiv 4) (-(p.stepMax : Int)) p.stepMax
    if p.guardZones < clipped ∧ 0 < c then 0 else c

/-- Frame number order within a stream: a lies above b (00_scope, Counts and wrap: differences are modulo 2^32). -/
def frameAbove (a b : Word) : Bool := a != b && decide ((a - b).toNat < 2 ^ 31)

/-- The hold test: every entry above k carries entry k's X_target (R60). -/
def holdTest (pipeline : List Entry) (en : Entry) : Bool :=
  pipeline.all fun x => !frameAbove x.k en.k || x.xTarget == en.xTarget

/-- The entry of a frame. -/
def entryOf (b : Block) (k : Word) : Option Entry := b.ftu.pipeline.find? fun e => e.k == k

/-- The exposure unit after metering a valid frame with its entry (R56 to R62). -/
def meterFrame (b : Block) (r : StatsRecord) (en : Entry) : Exu :=
  let x := b.exu
  let m := meteredLevel (weightsOf b) r.levels
  let e := meterError x.prm m
  let apply := effectiveMode x == .auto && holdTest b.ftu.pipeline en
  { x with
    lastM := m
    lastE := e
    settled := decide (e.natAbs ≤ x.prm.deadband)
    xTarget := if apply then en.xApp + correction x.prm r.clipped e else x.xTarget }

/-! ### The program line (R64 to R68) -/

/-- Inputs of the program line, as they stand when the entry is created (R64); hand is none without tables. -/
structure LineIn where
  lineTime : Nat
  eMax : Nat
  hand : Option Nat
  cMax : Nat
  sbu : SbuState
  prm : ExpParams
  mode : ExpMode
  xTarget : Int
  cPrev : Nat
  deriving DecidableEq, Repr

/-- The settings the program line chooses. -/
structure LineOut where
  s : Nat
  g : Nat
  c : Nat
  xTarget : Int
  xApp : Int
  underFlag : Bool
  overFlag : Bool
  slewFlag : Bool
  deriving DecidableEq, Repr

/-- The stabilization bonus: only while the SBU state is ACTIVE (R65 step 2). -/
def bonusOf (i : LineIn) : Nat := if i.sbu = .active then i.prm.bonus else 0

/-- E_hand, clamped to 1..65535 (R65 step 3). -/
def handLines (i : LineIn) (hand : Nat) : Nat :=
  if i.lineTime = 0 then 65535 else max 1 (min 65535 (hand * 100 * 2 ^ bonusOf i / i.lineTime))

/-- S_hand; 255 without tables (R64, R65 step 4). -/
def handSteps (i : LineIn) : Nat :=
  match i.hand with
  | none => 255
  | some h => lg16 (handLines i h)

/-- S_lim (R65 step 5). -/
def shutterLimit (i : LineIn) : Nat :=
  if i.mode = .manual then lg16 i.eMax else min (lg16 i.eMax) (handSteps i)

/-- S_floor' (R65 step 6). -/
def floorSteps (i : LineIn) : Nat := min (lg16 i.prm.floor) (shutterLimit i)

/-- X, the requested exposure (R66). -/
def requested (i : LineIn) : Int :=
  if i.mode = .manual then (i.prm.sm : Int) + i.prm.gm - i.prm.cm else i.xTarget

/-- C_target (R66). -/
def irisTarget (i : LineIn) : Int :=
  if i.mode = .manual then min (i.prm.cm : Int) i.cMax
  else if requested i < floorSteps i then min ((floorSteps i : Int) - requested i) i.cMax else 0

/-- The iris change within the slew (R66). -/
def irisChange (i : LineIn) : Int := clamp (irisTarget i - i.cPrev) (-(i.prm.slew : Int)) i.prm.slew

/-- C_app (R66). -/
def irisApplied (i : LineIn) : Int := min (i.cPrev + irisChange i) i.cMax

/-- S (R67, R68). -/
def shutterOf (i : LineIn) : Int :=
  if i.mode = .manual then clamp ((i.prm.sm : Int) + irisApplied i - i.prm.cm) 0 (lg16 i.eMax)
  else clamp (requested i + irisApplied i) 0 (shutterLimit i)

/-- G (R67, R68). -/
def gainOf (i : LineIn) : Int := clamp (requested i + irisApplied i - shutterOf i) 0 i.prm.gMax

/-- The program line (R67, R68). -/
def programLine (i : LineIn) : LineOut :=
  let xApp := shutterOf i + gainOf i - irisApplied i
  { s := (shutterOf i).toNat
    g := (gainOf i).toNat
    c := (irisApplied i).toNat
    xTarget := requested i
    xApp := xApp
    underFlag := decide (xApp < requested i)
    overFlag := decide (requested i < xApp)
    slewFlag := decide (irisChange i ≠ irisTarget i - i.cPrev) }

/-- E_max = F − margin (2.1). -/
def eMaxOf (f : StreamParams) : Nat := f.lines - f.margin

/-- C_prev: the C of the newest entry, or the iris position, 0 while the iris is not referenced (R66). -/
def prevIris (b : Block) : Nat :=
  match b.ftu.pipeline.getLast? with
  | some e => e.c
  | none => if b.iris.referenced then b.iris.position else 0

/-- The inputs of the program line in a state, with the running stream's format (R64). -/
def lineInputs (b : Block) (f : StreamParams) : LineIn :=
  { lineTime := b.ftu.lineTime, eMax := eMaxOf f, hand := handLimit b, cMax := irisMax b, sbu := reportedState b.sbu,
    prm := b.exu.prm, mode := effectiveMode b.exu, xTarget := b.exu.xTarget, cPrev := prevIris b }

/-- A pipeline entry as it is when it joins: pending and released by nobody. -/
def newEntry (k : Word) (e g c : Nat) (xTarget xApp : Int) (source : ExpMode) (under over' slew : Bool) (sbu : SbuState)
    (z : Int) (send : SendState) : Entry :=
  { k := k, e := e, g := g, c := c, xTarget := xTarget, xApp := xApp, source := source, underFlag := under,
    overFlag := over', slewFlag := slew, sbu := sbu, zoomPos := z, late := false, role := .pending, send := send,
    meterReleased := false, recordReleased := false }

/-- The entry that the program line makes for frame k (R67). -/
def programEntry (b : Block) (f : StreamParams) (k : Word) : Entry :=
  let i := lineInputs b f
  let o := programLine i
  newEntry k (ex16 o.s) o.g o.c o.xTarget o.xApp i.mode o.underFlag o.overFlag o.slewFlag i.sbu (position b.zoom) .unsent

/-- S of an initial entry: min(S0, lg16(E_max)) (R22). -/
def initialShutter (f : StreamParams) : Nat := min f.s0 (lg16 (eMaxOf f))

/-- An initial entry for frame k (R22). -/
def initialEntry (b : Block) (f : StreamParams) (send : SendState) (k : Word) : Entry :=
  let s := initialShutter f
  let g := min f.g0 b.exu.prm.gMax
  let c := min f.c0 (irisMax b)
  let xApp : Int := (s : Int) + g - c
  let asked : Int := (f.s0 : Int) + f.g0 - f.c0
  newEntry k (ex16 s) g c xApp xApp .manual (decide (xApp < asked)) (decide (asked < xApp)) false (reportedState b.sbu)
    (position b.zoom) send

/-! ### EXPOSURE (R51 to R53) -/

/-- X_target after the mode change of an EXPOSURE hand-over (R53). -/
def modeChangeTarget (b : Block) (m : ExpMode) : Int :=
  if b.exu.prm.mode = .manual ∧ m ≠ .manual then
    match b.ftu.pipeline.getLast? with
    | some e => e.xApp
    | none => b.exu.xTarget
  else b.exu.xTarget

/-- The hand-over of an EXPOSURE plan: mode change, parameters, settled flag (R51). -/
def exposureHandOver (p : ExpParams) (b : Block) : Block :=
  { b with exu := { b.exu with xTarget := modeChangeTarget b p.mode, prm := p, settled := false } }

end Sys2Proof.Machine
end

