-- ==== Sys2Proof/Machine/Lens.lean ====
section
/-!
DEFINITION. The lens drive unit (chapter 5) and the parts of the zoom map that move the focus axis (chapter 6): axis
states, braking, move starts, limits and clamps, tracking, counting, the band output, the iris.
-/

namespace Sys2Proof.Machine

/-! ### Access to the axes -/

/-- An axis unit. -/
def axisOf (b : Block) : Axis → AxisUnit
  | .zoom => b.zoom
  | .focus => b.focus

/-- An axis unit, changed. -/
def setAxis (ax : Axis) (a : AxisUnit) (b : Block) : Block :=
  match ax with
  | .zoom => { b with zoom := a }
  | .focus => { b with focus := a }

/-- The current parameter block of an axis, none without tables (R75). -/
def blockOf (b : Block) (ax : Axis) : Option AxisBlock :=
  b.zmap.tables.map fun t =>
    match ax with
    | .zoom => t.zoomBlk
    | .focus => t.focusBlk

/-- The soft limits in force (R78). -/
def limitsOf (b : Block) : Axis → Limits
  | .zoom => b.zmap.zoomLim
  | .focus => b.zmap.focusLim

/-- Settle time, which is also the braking time (R75, R76). -/
def settleTimeOf (b : Block) (ax : Axis) : Nat :=
  ((blockOf b ax).map (·.settleTime)).getD Config.defaultSettleTime

/-- Control period in force (R75). -/
def periodOf (b : Block) (ax : Axis) : Nat := ((blockOf b ax).map (·.period)).getD Config.defaultPeriod

/-- A supply sample is low when MSENSE is below the threshold of the axis's supply level (R75): the thresholds at or
below MSENSE do not reach that level's (log 18). -/
def supplyIsLow (b : Block) (ax : Axis) : Bool :=
  decide (b.ldu.msense.val ≤ ((blockOf b ax).map (·.supplyLevel)).getD 0)

/-- The MSENSE pin as a step finds it. -/
def setMsense (m : Msense) (b : Block) : Block := { b with ldu := { b.ldu with msense := m } }

/-- Standing states (Table 32). -/
def AxisState.standing : AxisState → Bool
  | .unreferenced | .idle | .faulted => true
  | _ => false

/-! ### State changes (R76, R113) -/

/-- The AFU clears the still mark of every candidate (R113). -/
def spoilCandidates (b : Block) : Block :=
  { b with afu := { b.afu with candidates := b.afu.candidates.map fun c => { c with still := false } } }

/-- An axis unit is replaced; when that takes the focus axis out of IDLE, the candidates are spoiled (R113). -/
def putAxis (ax : Axis) (a : AxisUnit) (b : Block) : Block :=
  if ax = .focus ∧ b.focus.state = .idle ∧ a.state ≠ .idle then spoilCandidates (setAxis ax a b) else setAxis ax a b

/-- An axis unit after its move or search is stopped: braked, in BRAKING for the braking time (R76). -/
def braked (b : Block) (ax : Axis) (faulted : Bool) : AxisUnit :=
  { axisOf b ax with
    state := .braking, output := .brake, braking := settleTimeOf b ax, stopFaulted := faulted, move := none,
    moveTimer := none, search := none }

/-- A running move or search is stopped: the axis is braked and enters BRAKING (R76). -/
def brake (ax : Axis) (faulted : Bool) (b : Block) : Block := putAxis ax (braked b ax faulted) b

/-- The axis's target clamped into its soft limits (R78). -/
def clampTarget (ax : Axis) (b : Block) : Block :=
  let a := axisOf b ax
  let l := limitsOf b ax
  setAxis ax { a with target := clamp a.target l.lo l.hi } b

/-- The focus limits are re-evaluated and the focus target is clamped into them (R104). -/
def updateFocusLimits (b : Block) : Block :=
  clampTarget .focus { b with zmap := { b.zmap with focusLim := focusLimits b } }

/-- The zoom limits are computed and the zoom target is clamped into them (R101 step 1, R104). -/
def updateZoomLimits (b : Block) : Block :=
  clampTarget .zoom { b with zmap := { b.zmap with zoomLim := zoomLimits b } }

/-! ### Move starts (R77) -/

/-- The axis unit of a move that starts (R77): target clamped, timer loaded, counts set, MOVING, output unchanged. -/
def startedAxis (b : Block) (ax : Axis) (giver : Giver) (target : Int) : AxisUnit :=
  let l := limitsOf b ax
  { axisOf b ax with
    state := .moving
    target := clamp target l.lo l.hi
    move := some { giver := giver, prevDuty := none, expiries := 0 }
    moveTimer := (blockOf b ax).map (·.moveTimeout)
    settle := settleTimeOf b ax
    stall := 0
    supplyLow := 0
    braking := 0
    stopFaulted := false }

/-- A move is given to an axis (R77): refused with NOT_REFERENCED or SUPPLY_LOW, else started. A move already running on
the axis is taken over with no report. -/
def startMove (ax : Axis) (giver : Giver) (target : Int) (b : Block) : Block × Option PlanOutcome :=
  if (axisOf b ax).referenced = false then (b, some .notReferenced)
  else if supplyIsLow b ax then (raise .lensFault b, some .supplyLow)
  else (putAxis ax (startedAxis b ax giver target) b, none)

/-- Whether the focus axis runs an unattached tracking move (R105). -/
def trackingMove (b : Block) : Bool :=
  match b.focus.move with
  | some m => m.giver == .tracking
  | none => false

/-! ### Tracking (R105 to R107) -/

/-- The conditions under which tracking is active (R105). -/
def trackWanted (b : Block) : Bool :=
  b.zmap.trackEnabled && b.zoom.referenced && b.focus.referenced && !classBusy b .focus

/-- A tracking move in flight is ended with no report and the focus axis braked (R105). -/
def stopTracking (b : Block) : Block := if trackingMove b then brake .focus false b else b

/-- Tracking becomes active or inactive as its conditions say (R105); when it becomes inactive, a tracking move in flight
is left to the take-over of the plan move that follows (`takeOver`), or braked. -/
def retrack (takeOver : Bool) (b : Block) : Block :=
  if trackWanted b then
    if b.zmap.trackActive then b
    else { b with zmap := { b.zmap with trackActive := true, zLast := position b.zoom } }
  else if b.zmap.trackActive then
    let b' := { b with zmap := { b.zmap with trackActive := false } }
    if takeOver then b' else stopTracking b'
  else b

/-- A tracking move ended FAILED: the tracking-enabled flag is cleared (R107). -/
def trackFailed (b : Block) : Block :=
  retrack false { b with zmap := { b.zmap with trackEnabled := false } }

/-- A tracking target is computed at the zoom position, and the focus axis is given a move to it if it differs from its
current target (R106). -/
def trackTarget (b : Block) : Block :=
  let z := position b.zoom
  let target := focusAtFraction b z b.zmap.u
  let b' := { b with zmap := { b.zmap with zLast := z } }
  if target = b'.focus.target then b'
  else
    let r := startMove .focus .tracking target b'
    if r.2.isNone then r.1 else trackFailed r.1

/-- A zoom control-period expiry found the zoom position changed (R79): the focus limits are re-evaluated (R104), and
tracking computes a target once the zoom has moved by the tracking step (R106). -/
def zoomMoved (b : Block) : Block :=
  let b' := updateFocusLimits b
  let step := ((blockOf b' .focus).map (·.trackStep)).getD 0
  if b'.zmap.trackActive && decide (step ≤ (position b'.zoom - b'.zmap.zLast).natAbs) then trackTarget b' else b'

/-- The zoom axis gained or lost its reference: limits and tracking follow (R104, R105). The focus axis changes tracking
alone. -/
def referenceChanged (ax : Axis) (b : Block) : Block :=
  match ax with
  | .zoom => retrack false (updateFocusLimits b)
  | .focus => retrack false b

/-! ### Counting (R72, R73) -/

/-- The place of an accepted pair (A, B) in the order (0,0), (1,0), (1,1), (0,1) (R72). -/
def phaseIndex (pa pb : Bool) : Nat :=
  match pa, pb with
  | false, false => 0
  | true, false => 1
  | true, true => 2
  | false, true => 3

/-- The count of one accepted change: +1 for the next pair of the order, −1 for the one before (R72). -/
def countStep (pa pb pa' pb' : Bool) : BitVec 16 :=
  if (phaseIndex pa pb + 1) % 4 = phaseIndex pa' pb' then 1#16 else -1#16

/-! ### The band output (R79, R80) -/

/-- The duty of a distance above the stop window (R79). -/
def bandDuty (p : AxisBlock) (dist : Nat) : Nat :=
  if dist ≤ p.d1 then p.duty1 else if dist ≤ p.d2 then p.duty2 else if dist ≤ p.d3 then p.duty3 else p.duty4

/-- The axis unit after an expiry of a move whose checks passed: output and state (R79), settle counter (R80). -/
def bandStep (p : AxisBlock) (a : AxisUnit) : AxisUnit :=
  let d := a.target - position a
  let settle := if d.natAbs ≤ p.tolerance then a.settle - 1 else p.settleTime
  if d.natAbs ≤ p.wst then { a with state := .settling, output := .brake, settle := settle }
  else { a with state := .moving, output := .drive (bandDuty p d.natAbs) (decide (0 < d)), settle := settle }

/-- The DRIVE duty of a motor output. -/
def Motor.duty? : Motor → Option Nat
  | .drive n _ => some n
  | _ => none

/-- The stall count of an expiry (R81): the duty chosen at the previous expiry of the move was DRIVE at the stall duty or
more, and the position equals that of the previous expiry. -/
def stallCount (p : AxisBlock) (a : AxisUnit) (m : Move) : Nat :=
  match m.prevDuty with
  | some n => if p.stallDuty ≤ n ∧ position a = a.lastPos then a.stall + 1 else 0
  | none => 0

/-- The hard limit check (R83); not made without tables (R75). -/
def beyondHardLimit (b : Block) (ax : Axis) : Bool :=
  match blockOf b ax with
  | none => false
  | some p =>
    let l := limitsOf b ax
    let z := position (axisOf b ax)
    decide (z < l.lo - p.hardMargin) || decide (l.hi + p.hardMargin < z)

/-! ### The iris (R91, R92) -/

/-- The FTU requests the iris toward C with the slew in force (R92). -/
def irisRequest (c : Nat) (b : Block) : Block :=
  if b.iris.referenced = true ∧ b.iris.stage = none then
    { b with iris := { b.iris with
        steps := clamp ((c : Int) - b.iris.position) (-(b.exu.prm.slew : Int)) b.exu.prm.slew } }
  else b

/-- One scheduled iris step is issued; a step below 0 or above C_travel is not, and the steps after it are dropped
(R92). -/
def irisScheduled (i : Iris) : Iris :=
  if 0 < i.steps then
    if i.position < i.cTravel then { i with position := i.position + 1, steps := i.steps - 1 } else { i with steps := 0 }
  else if i.steps < 0 then
    if 0 < i.position then { i with position := i.position - 1, steps := i.steps + 1 } else { i with steps := 0 }
  else i

/-! ### Reference searches (R90) -/

/-- The reference set a search uses: the current block's fields after a successful TABLES, else the plan's (R89). -/
def refSetOf (b : Block) (ax : Axis) (p : RefParams) : RefSet :=
  let plan :=
    match ax with
    | .zoom => p.zoom
    | .focus => p.focus
  let raw := ((blockOf b ax).map (·.ref)).getD plan
  raw.check.getD { positive := false, rising := true, duty := 0, travel := 0, offset := 0 }

/-- The axis unit of a reference search that starts (R90): reference cleared, REFERENCING; the leave leg drives against
the reference direction if the accepted level is already the one that follows the edge. The first expiry compares the
counter with its value here (the model's choice, log 51). -/
def searchStarted (a : AxisUnit) (set : RefSet) : AxisUnit :=
  let leaving := a.refLevel == some set.rising
  { a with
    referenced := false, state := .referencing,
    output := .drive set.duty (if leaving then !set.positive else set.positive),
    move := none, moveTimer := none, braking := 0, stopFaulted := false, supplyLow := 0,
    search := some { leaving := leaving, set := set, lastCounter := a.counter, still := 0 } }

/-- The axis unit at its reference edge (R74, R90 step 3): count and offset stored, referenced, braked; its target is the
position at the edge, clamped by the caller. -/
def atEdge (b : Block) (ax : Axis) (set : RefSet) : AxisUnit :=
  let a := axisOf b ax
  let a' := { braked b ax false with
    refCount := a.counter, refOffset := BitVec.ofInt 16 set.offset, referenced := true }
  { a' with target := position a' }

end Sys2Proof.Machine
end

