-- ==== Sys2Proof/Machine/Search.lean ====
section
/-!
DEFINITION. The focus search unit (chapter 7): candidates, the trace, the phases of a search, its endings, and
continuous AF.
-/

namespace Sys2Proof.Machine

/-- The focus search unit, changed. -/
def setAfu (f : Afu → Afu) (b : Block) : Block := { b with afu := f b.afu }

/-- The search, changed. -/
def setSearch (s : Option Search) (b : Block) : Block := { b with afu := { b.afu with search := s } }

/-! ### Candidates (R113) -/

/-- At window-open(k) the AFU adds frame k, still if the focus axis is IDLE; the oldest of four leaves first (R113). -/
def addCandidate (k : Word) (b : Block) : Block :=
  let l := b.afu.candidates
  let l' := if l.length < Config.listLimit then l else l.drop 1
  { b with afu := { b.afu with candidates := l' ++ [{ k := k, still := b.focus.state == .idle }] } }

/-! ### The trace (R115, R116) -/

/-- The value of the best sample, 0 with none. -/
def bestValue (a : Afu) : Nat :=
  match a.best with
  | none => 0
  | some i => ((a.trace[i]?).map (·.value)).getD 0

/-- The position of the best sample. -/
def bestPosition (a : Afu) : Int :=
  match a.best with
  | none => 0
  | some i => ((a.trace[i]?).map (·.position)).getD 0

/-- The lowest value in the trace, 0 with no samples (R122). -/
def minValue (a : Afu) : Nat :=
  match a.trace with
  | [] => 0
  | s :: rest => rest.foldl (fun acc x => min acc x.value) s.value

/-- A sample joins the trace: best is the greatest value, the first taken on equal values (R115). -/
def recordSample (x : Sample) (a : Afu) : Afu :=
  { a with
    trace := a.trace ++ [x]
    best := if a.best = none ∨ bestValue a < x.value then some a.trace.length else a.best }

/-- The below count after a coarse sample of value v, judged against best as it stood before it (R119). -/
def belowAfter (a : Afu) (q v : Nat) : Nat :=
  if bestValue a < v then 0 else if v * 16 < bestValue a * q then a.below + 1 else 0

/-- The sample just recorded is written to memory when the plan has a trace offset and no write has failed (R116). -/
def writeSample (s : Search) (x : Sample) (b : Block) : Block :=
  let i := b.afu.trace.length - 1
  if s.prm.trace = 0 ∨ b.afu.traceStopped then b
  else { b with afu := { b.afu with
    writes := b.afu.writes ++ [(i, writeAt b (s.prm.trace + 16 * i) (sampleBytes x))] } }

/-! ### Endings (R116, R122, R124, R125) -/

/-- Results of an AF_SEARCH plan (Table 42, Table 66). -/
def afArea (b : Block) (s : Search) (detail : PlanOutcome) : List Byte :=
  areaOf (leInt 2 s.finalTarget ++ leBytes 1 b.afu.trace.length ++ leBytes 1 b.afu.written ++ leBytes 4 (bestValue b.afu)
    ++ leBytes 4 (minValue b.afu) ++ leBytes 1 (b.afu.best.getD 0) ++ leBytes 1 s.phase.code ++ leInt 2 s.offset
    ++ leBytes 1 detail.code)

/-- The AFU reports the plan's ending once its trace writes are answered; u is recomputed before the results are written
when it ends DONE (R108, R116, R122). The result word is the focus position at the report, also when the report has waited
for trace writes (the model's choice, log 52). -/
def searchReport (b : Block) : Block :=
  match b.afu.search with
  | none => b
  | some s =>
    match s.ended with
    | none => b
    | some (fin, o, detail) =>
      if b.afu.writes = [] then
        let b' := if fin = .done then recomputeU b else b
        setSearch none (endPlan .afSearch fin o (leInt 4 (position b'.focus)) (afArea b' s detail) b')
      else b

/-- The response to the write of trace sample i (R116): a write that failed stops further trace writes, any other is
counted; an ending that waits for the last one is reported. -/
def traceResponse (i : Nat) (err : Bool) (b : Block) : Block :=
  match b.afu.writes.find? (fun w => w.1 == i) with
  | none => b
  | some (_, acc) =>
    let c := acc.fault err
    searchReport (memoryFault? c acc.offset (setAfu (fun a => { a with
      writes := a.writes.filter (fun w => w.1 != i)
      written := if c.isNone then a.written + 1 else a.written
      traceStopped := a.traceStopped || c.isSome }) b))

/-- A search ends: it takes no further sample, and reports when its trace writes are answered. -/
def searchEnd (s : Search) (fin : FinalState) (o detail : PlanOutcome) (b : Block) : Block :=
  searchReport (setSearch (some { s with moving := false, ended := some (fin, o, detail) }) b)

/-- The search gives the focus axis a move (R77); a refusal ends the plan FAILED (R124). -/
def giveSearchMove (s : Search) (target : Int) (b : Block) : Block :=
  let r := startMove .focus .search target b
  match r.2 with
  | none => setSearch (some { s with moving := true, moveTarget := r.1.focus.target }) r.1
  | some o => searchEnd s .failed o o (stopTracking r.1)

/-- The search enters FINAL and moves to its final target, recorded as the move start clamps it (R122). -/
def enterFinal (s : Search) (target : Int) (b : Block) : Block :=
  let l := limitsOf b .focus
  giveSearchMove { s with phase := .final, finalTarget := clamp target l.lo l.hi } target b

/-! ### Phases (R118 to R123) -/

/-- Position x lies strictly beyond y in direction dir. -/
def beyond (dir x y : Int) : Bool := decide (0 < (x - y) * dir)

/-- The fine samples of the trace. -/
def fineSamples (a : Afu) : List Sample := a.trace.filter fun x => x.phase == .fine

/-- The fine sample of greatest value, the first taken on equal values (R121). -/
def fineBest (l : List Sample) : Option Sample :=
  l.foldl (fun acc x =>
    match acc with
    | none => some x
    | some y => if y.value < x.value then some x else acc) none

/-- The value of the fine sample at a position. -/
def fineValueAt (l : List Sample) (p : Int) : Option Nat := (l.find? fun x => x.position == p).map (·.value)

/-- The offset of the vertex of the parabola through a, b, c, in counts along the direction of travel (R121). -/
def vertexOffset (fine : Nat) (a b c : Int) : Int :=
  let den := a - 2 * b + c
  if 0 ≤ den then 0
  else clamp (((fine : Int) * (a - c)).tdiv (2 * den)) (-(fine / 2 : Nat)) (fine / 2 : Nat)

/-- The search computes the final target from its fine samples and enters FINAL (R121). -/
def finishFine (s : Search) (b : Block) : Block :=
  let l := fineSamples b.afu
  match fineBest l with
  | none => enterFinal s (bestPosition b.afu) b
  | some m =>
    let step : Int := s.prm.fine * b.afu.dir
    let off :=
      match fineValueAt l (m.position - step), fineValueAt l (m.position + step) with
      | some a, some c => vertexOffset s.prm.fine a m.value c
      | _, _ => 0
    enterFinal { s with offset := off } (m.position + off * b.afu.dir) b

/-- The search enters FINE around best's position and moves to f_0 (R120). -/
def enterFine (s : Search) (b : Block) : Block :=
  let l := limitsOf b .focus
  let p := bestPosition b.afu
  let span : Int := s.prm.coarse * b.afu.dir
  let f0 := clamp (p - span) l.lo l.hi
  giveSearchMove { s with
    phase := .fine, fineStart := f0, fineEnd := clamp (p + span) l.lo l.hi, fineIndex := 0 } f0 b

/-- The move after a fine sample at `last`: the next fine position, unless it passes f_end or its clamped target is not
strictly beyond the last sample, which ends the range (R120). -/
def fineNext (s : Search) (last : Int) (b : Block) : Block :=
  let l := limitsOf b .focus
  let i := s.fineIndex + 1
  let f := s.fineStart + (i : Int) * (s.prm.fine * b.afu.dir)
  if beyond b.afu.dir f s.fineEnd || !beyond b.afu.dir (clamp f l.lo l.hi) last then finishFine s b
  else giveSearchMove { s with fineIndex := i } f b

/-- The decision after sample 0 and after each coarse sample, from the last sample at `last` (R119). -/
def coarseDecide (s : Search) (last : Int) (b : Block) : Block :=
  let l := limitsOf b .focus
  let n := last + s.prm.coarse * b.afu.dir
  if b.afu.below = 2 then enterFine s b
  else if (decide (l.hi < n) && b.afu.dir == 1) || (decide (n < l.lo) && b.afu.dir == -1)
      || !beyond b.afu.dir (clamp n l.lo l.hi) last then
    if b.afu.best = some (b.afu.trace.length - 1) then
      enterFinal { s with recorded := some .edge } (bestPosition b.afu) b
    else enterFine s b
  else giveSearchMove { s with phase := .coarse } n b

/-- A clean frame becomes a sample of the search (R117 to R123). -/
def searchSample (s : Search) (r : StatsRecord) (b : Block) : Block :=
  let x : Sample := { position := s.moveTarget, value := r.focus, frame := r.k, phase := s.phase }
  let below :=
    match s.phase with
    | .coarse => belowAfter b.afu s.prm.drop r.focus
    | _ => b.afu.below
  let b' := writeSample s x (setAfu (fun a => { recordSample x a with below := below }) b)
  if Config.traceLimit ≤ b'.afu.trace.length then
    enterFinal { s with recorded := some .traceFull } (bestPosition b'.afu) b'
  else
    match s.phase with
    | .fine => fineNext s x.position b'
    | _ => coarseDecide s x.position b'

/-- The outcome of a search whose final move has ended DONE (R122). -/
def searchOutcome (s : Search) (a : Afu) : PlanOutcome :=
  match s.recorded with
  | some o => o
  | none =>
    if minValue a < bestValue a ∧ minValue a * s.prm.contrast ≤ bestValue a * 16 then .found else .lowContrast

/-- A move of the search ended DONE (R117, R122). -/
def searchMoveDone (b : Block) : Block :=
  match b.afu.search with
  | none => b
  | some s =>
    match s.phase with
    | .final => searchEnd s .done (searchOutcome s b.afu) .ok b
    | _ => setSearch (some { s with moving := false }) b

/-- A move of the search ended FAILED (R124). -/
def searchMoveFailed (o detail : PlanOutcome) (b : Block) : Block :=
  match b.afu.search with
  | none => b
  | some s => searchEnd s .failed o detail b

/-- Whether the focus axis runs a move of the search. -/
def searchMoving (b : Block) : Bool :=
  match b.focus.move with
  | some m => m.giver == .search
  | none => false

/-- A search is stopped from outside: its move in flight is braked, and it ends (R124, R125). -/
def searchStop (fin : FinalState) (o detail : PlanOutcome) (b : Block) : Block :=
  match b.afu.search with
  | none => b
  | some s => searchEnd s fin o detail (if searchMoving b then brake .focus false b else b)

/-- The stream enters STOPPED during a search that has not ended yet (R124). -/
def searchStreamStopped (b : Block) : Block :=
  match b.afu.search with
  | none => b
  | some s => if s.ended = none then searchStop .failed .notStreaming .notStreaming b else b

/-- The hand-over of an AF_SEARCH plan (R112); the statistics unit stores the window and the coring threshold (R38). -/
def searchHandOver (p : AfParams) (b : Block) : Block :=
  let z := position b.zoom
  let up := decide (infAt b z ≤ nearAt b z)
  let s : Search :=
    { prm := p, phase := .start, moving := true, moveTarget := 0, fineStart := 0,
      fineEnd := 0, fineIndex := 0, finalTarget := 0, offset := 0, recorded := none, ended := none }
  let b' := { b with
    stu := { b.stu with window := p.window, coring := p.coring }
    afu := { b.afu with
      search := some s, dir := if p.near = up then 1 else -1, trace := [], best := none, below := 0, writes := [],
      written := 0, traceStopped := false } }
  giveSearchMove s (if p.fromPosition then p.start else position b'.focus) b'

/-! ### Continuous AF (R126 to R128) -/

/-- Continuous AF becomes active at the hand-over of a CAPTURE plan (R126). -/
def cafStart (p : CapParams) (b : Block) : Block :=
  let z := position b.zoom
  { b with afu := { b.afu with
      cafActive := true, cafLast := none, cafStep := p.cafStep, cafHyst := p.cafHyst, cafMoving := false,
      cafDir := if infAt b z ≤ nearAt b z then 1 else -1 } }

/-- A CAF move ended FAILED: continuous AF stops for the rest of the plan, and capture control records the outcome
(R128). -/
def cafFailed (o : PlanOutcome) (b : Block) : Block :=
  { b with
    afu := { b.afu with cafActive := false, cafMoving := false }
    cap := { b.cap with cafOutcome := o } }

/-- A step of continuous AF from the focus axis's position, in the CAF direction (R127). -/
def cafStep (b : Block) : Block :=
  let l := limitsOf b .focus
  let z := position b.focus
  let t := z + b.afu.cafStep * b.afu.cafDir
  if clamp t l.lo l.hi = z then { b with afu := { b.afu with cafDir := -b.afu.cafDir } }
  else
    let r := startMove .focus .caf t b
    match r.2 with
    | none => { r.1 with afu := { r.1.afu with cafMoving := true } }
    | some o => cafFailed o r.1

/-- A clean frame of value v handed to continuous AF (R127). -/
def cafFrame (v : Nat) (b : Block) : Block :=
  match b.afu.cafLast with
  | none => { b with afu := { b.afu with cafLast := some v } }
  | some last =>
    let dir := if (last : Int) * b.afu.cafHyst < ((last : Int) - v) * 16 then -b.afu.cafDir else b.afu.cafDir
    cafStep { b with afu := { b.afu with cafLast := some v, cafDir := dir } }

/-- Continuous AF is stopped at the capture's ending: a CAF move in flight is braked with no report (R128). -/
def cafStop (b : Block) : Block :=
  let b' := { b with afu := { b.afu with cafActive := false, cafMoving := false } }
  match b'.focus.move with
  | some m => if m.giver = .caf then brake .focus false b' else b'
  | none => b'

/-! ### Stats-ready (R114) -/

/-- Whether frame k is clean (R114); the candidates of an ended stream are gone (R113). -/
def isClean (b : Block) (r : StatsRecord) : Bool :=
  !r.old && r.valid && b.afu.candidates.any fun c => c.k == r.k && c.still

/-- A clean frame goes to a search that waits for a sample, or to continuous AF, or is passed over (R114, R117). -/
def cleanFrame (r : StatsRecord) (b : Block) : Block :=
  match b.afu.search with
  | some s => if s.moving = false ∧ s.ended = none then searchSample s r b else b
  | none => if b.afu.cafActive then cafFrame r.focus b else b

/-- The AFU handles the oldest stats-ready it has not handled (R114). One of an ended stream removes no candidate: those in
the list are of the stream that follows it (the model's choice, log 59). -/
def afuHandle (b : Block) : Block :=
  match b.afu.inbox with
  | [] => b
  | r :: rest =>
    let clean := isClean b r
    let b' := { b with afu := { b.afu with
      inbox := rest, candidates := b.afu.candidates.filter fun c => r.old || frameAbove c.k r.k } }
    if clean then cleanFrame r b' else b'

end Sys2Proof.Machine
end

