-- ==== Sys2Proof/Machine/Motion.lean ====
section
/-!
DEFINITION. The events of the lens drive unit (chapter 5): endings of moves and their reports, control-period expiries,
encoder and reference inputs, reference searches with the iris stage, the iris steps, and the lens plans.
-/

namespace Sys2Proof.Machine

/-! ### Reports of moves (R85, R86, R87, R107, R117, R124, R128) -/

/-- The position of an axis as a result word, sign-extended (R86). -/
def positionWord (b : Block) (ax : Axis) : List Byte := leInt 4 (position (axisOf b ax))

/-- The report of a ZOOM plan's move (R86). -/
def zoomReport (fin : FinalState) (o detail : PlanOutcome) (target : Int) (expiries : Nat) (b : Block) : Block :=
  endPlan .zoom fin o (positionWord b .zoom) (moveArea target detail expiries 0) b

/-- The report of a FOCUS plan's move, with u as it stands (R87). -/
def focusReport (fin : FinalState) (o detail : PlanOutcome) (target : Int) (expiries : Nat) (b : Block) : Block :=
  endPlan .focus fin o (positionWord b .focus) (moveArea target detail expiries b.zmap.u) b

/-- u at a FOCUS plan's ending DONE (R108). -/
def focusDoneU (t : FocusTarget) (b : Block) : Block :=
  match t with
  | .position _ => recomputeU b
  | .distance u => { b with zmap := { b.zmap with u := u } }

/-- A move that ended DONE is reported to its giver. -/
def reportDone (g : Giver) (target : Int) (expiries : Nat) (b : Block) : Block :=
  match g with
  | .zoomPlan => zoomReport .done .ok .ok target expiries b
  | .focusPlan t => focusReport .done .ok .ok target expiries (focusDoneU t b)
  | .search => searchMoveDone b
  | .caf => { b with afu := { b.afu with cafMoving := false } }
  | .tracking => b

/-- A move that ended FAILED is reported to its giver. -/
def reportFailed (g : Giver) (o detail : PlanOutcome) (target : Int) (expiries : Nat) (b : Block) : Block :=
  match g with
  | .zoomPlan => zoomReport .failed o detail target expiries b
  | .focusPlan _ => focusReport .failed o detail target expiries b
  | .search => searchMoveFailed o detail b
  | .caf => cafFailed o b
  | .tracking => trackFailed b

/-- An axis unit after its move has ended DONE (R80). -/
def arrived (a : AxisUnit) : AxisUnit :=
  { a with state := .idle, output := .off, move := none, moveTimer := none }

/-- The settle counter has reached 0: the move ends DONE (R80); the end of a zoom move asks tracking for a target (R106). The
target reported is the axis's target at the ending, as the limits have clamped it since the move start (the model's choice,
log 61). -/
def moveDone (ax : Axis) (b : Block) : Block :=
  let a := axisOf b ax
  match a.move with
  | none => b
  | some m =>
    let b' := reportDone m.giver a.target m.expiries (putAxis ax (arrived a) b)
    if ax = .zoom ∧ b'.zmap.trackActive = true then trackTarget b' else b'

/-- A move is stopped by a failure (R81 to R84, R73): braked, LENS_FAULT, reported with the target at the ending (log 61). -/
def failMove (ax : Axis) (o detail : PlanOutcome) (b : Block) : Block :=
  let a := axisOf b ax
  match a.move with
  | none => b
  | some m =>
    reportFailed m.giver o detail a.target m.expiries (raise .lensFault (brake ax (decide (o ≠ .encoderFault)) b))

/-! ### Reference searches (R89 to R91) -/

/-- The lens drive unit's REFERENCE plan, changed. -/
def setRef (r : Option RefPlan) (b : Block) : Block := { b with ldu := { b.ldu with refPlan := r } }

/-- The REFERENCE plan ends, with its results (R91). -/
def refEnd (r : RefPlan) (fin : FinalState) (o : PlanOutcome) (b : Block) : Block :=
  endPlan .reference fin o (positionWord b .zoom)
    (referenceArea (position b.focus) (r.zoomEdge.getD b.zoom.counter) (r.focusEdge.getD b.focus.counter) r.zoomTravel
      r.focusTravel)
    (setRef none b)

/-- The REFERENCE plan fails with LENS_FAULT (R90, R91). -/
def refFail (o : PlanOutcome) (b : Block) : Block :=
  match b.ldu.refPlan with
  | none => b
  | some r => refEnd r .failed o (raise .lensFault b)

/-- A reference search fails: the axis is braked, and the plan ends FAILED (R90). -/
def searchFail (ax : Axis) (o : PlanOutcome) (b : Block) : Block :=
  match (axisOf b ax).search with
  | none => b
  | some _ => refFail o (brake ax false b)

/-- A reference search of an axis starts with one supply sample (R90). -/
def startSearch (ax : Axis) (b : Block) : Block :=
  match b.ldu.refPlan with
  | none => b
  | some r =>
    if supplyIsLow b ax then refFail .supplyLow b
    else referenceChanged ax (putAxis ax (searchStarted (axisOf b ax) (refSetOf b ax r.prm)) b)

/-- The stage of a REFERENCE plan in which an axis searches. -/
def stageOf : Axis → RefStage
  | .zoom => .zoom
  | .focus => .focus

/-- The search of an axis has succeeded: the iris stage follows the zoom search, and the plan ends DONE after the focus
search (R91). Iris steps still scheduled from an earlier request are dropped (the model's choice, log 64). -/
def searchSucceeded (ax : Axis) (b : Block) : Block :=
  match b.ldu.refPlan with
  | none => b
  | some r =>
    match ax with
    | .zoom =>
      { setRef (some { r with stage := .iris }) b with
        iris := { b.iris with referenced := false, steps := 0, stage := some (r.prm.cTravel + Config.irisExtraSteps) } }
    | .focus => refEnd r .done .ok b

/-- Whether the REFERENCE plan is in the stage of an axis. -/
def inStageOf (ax : Axis) (b : Block) : Bool :=
  match b.ldu.refPlan with
  | none => false
  | some r => r.stage == stageOf ax

/-- The reference edge of an axis in the approach (R90 step 3): the axis is referenced and braked, its target clamped, and
limits and tracking follow. -/
def takeEdge (ax : Axis) (set : RefSet) (b : Block) : Block :=
  let b1 := referenceChanged ax (clampTarget ax (putAxis ax (atEdge b ax set) b))
  match b1.ldu.refPlan with
  | none => b1
  | some r =>
    let count := (axisOf b1 ax).refCount
    match ax with
    | .zoom => setRef (some { r with zoomEdge := some count }) b1
    | .focus => setRef (some { r with focusEdge := some count }) b1

/-- The travel used by the search of an axis. -/
def travelOf (b : Block) (ax : Axis) : Nat :=
  match b.ldu.refPlan, ax with
  | some r, .zoom => r.zoomTravel
  | some r, .focus => r.focusTravel
  | none, _ => 0

/-- One count during a search adds one to its travel used (R90). -/
def addTravel (ax : Axis) (b : Block) : Block :=
  match b.ldu.refPlan, (axisOf b ax).search with
  | some r, some _ =>
    match ax with
    | .zoom => setRef (some { r with zoomTravel := r.zoomTravel + 1 }) b
    | .focus => setRef (some { r with focusTravel := r.focusTravel + 1 }) b
  | _, _ => b

/-! ### Encoder and reference inputs (R71 to R73) -/

/-- The levels an input filter event accepts on an axis: an input with no new level keeps its own; the next level of an
input that takes one is timed by the filter time in force (R71). -/
def acceptLevels (pa pb ref : Option Bool) (a : AxisUnit) : AxisUnit :=
  { a with
    phaseA := pa <|> a.phaseA, phaseB := pb <|> a.phaseB, refLevel := ref <|> a.refLevel
    filter := { a.filter with
      a := if pa.isSome then none else a.filter.a
      b := if pb.isSome then none else a.filter.b
      ref := if ref.isSome then none else a.filter.ref } }

/-- Whether an accepted level is a change: the first level an input takes is not one (R71). -/
def changed (old new : Option Bool) : Bool :=
  match old, new with
  | some x, some y => x != y
  | _, _ => false

/-- The count of an accepted change of one phase (R72); both phases must have been sampled before. -/
def countOf (a : AxisUnit) (pa pb : Option Bool) : Option (BitVec 16) :=
  match a.phaseA, a.phaseB with
  | some x, some y =>
    if changed (some x) pa != changed (some y) pb then some (countStep x y (pa.getD x) (pb.getD y)) else none
  | _, _ => none

/-- Whether both phases change at one sample (R73). -/
def illegalTransition (a : AxisUnit) (pa pb : Option Bool) : Bool := changed a.phaseA pa && changed a.phaseB pb

/-- The effect of an illegal transition on the axis, by its state (R73); the reference is cleared already. -/
def illegalEffect (ax : Axis) (b : Block) : Block :=
  let a := axisOf b ax
  match a.state with
  | .moving | .settling => failMove ax .encoderFault .encoderFault b
  | .referencing => searchFail ax .encoderFault b
  | .braking => if inStageOf ax b then refFail .encoderFault b else b
  | .idle | .faulted => putAxis ax { a with state := .unreferenced } b
  | .unreferenced => b

/-- An illegal transition (R73). -/
def illegal (ax : Axis) (b : Block) : Block :=
  let a := axisOf b ax
  referenceChanged ax (illegalEffect ax (raise .lensFault (setAxis ax { a with referenced := false } b)))

/-- Whether an accepted reference level is the edge a search looks for (R90): a change to the level that follows the edge,
in the approach. -/
def edgeFound (a : AxisUnit) (ref : Option Bool) : Option RefSet :=
  match a.search with
  | none => none
  | some s => if changed a.refLevel ref && s.leaving == false && ref == some s.set.rising then some s.set else none

/-- New levels are accepted on the inputs of an axis at one sample (R71 to R73, R90). An illegal transition comes before a
reference edge of the same sample: it ends the search, and the edge is not stored (the model's choice, log 65). -/
def filterAccept (ax : Axis) (pa pb ref : Option Bool) (b : Block) : Block :=
  let a := axisOf b ax
  let b1 := setAxis ax (acceptLevels pa pb ref a) b
  let b2 :=
    if illegalTransition a pa pb then illegal ax b1
    else
      match countOf a pa pb with
      | none => b1
      | some d =>
        let a1 := axisOf b1 ax
        addTravel ax (setAxis ax { a1 with counter := a1.counter + d } b1)
  match edgeFound { axisOf b2 ax with refLevel := a.refLevel } ref with
  | none => b2
  | some set => takeEdge ax set b2

/-! ### Control-period expiries (R76, R79 to R84, R90) -/

/-- The supply-low count after a sample (R84). -/
def supplyCount (b : Block) (ax : Axis) : Nat := if supplyIsLow b ax then (axisOf b ax).supplyLow + 1 else 0

/-- The check that stops something at this expiry: the one the part takes first, if it stops, else whichever stops
(R79, R85). -/
def stoppedBy (first : MoveCheck) (stall limit supply : Bool) : Option MoveCheck :=
  let hit : MoveCheck → Bool := fun c =>
    match c with
    | .stall => stall
    | .limit => limit
    | .supply => supply
  if hit first then some first
  else if limit then some .limit
  else if stall then some .stall
  else if supply then some .supply
  else none

/-- An expiry of a move (R79 to R84): its checks, then the band output and the settle counter. A stall, a supply stop and
an arrival are due steps. -/
def moveExpiry (ax : Axis) (first : MoveCheck) (p : AxisBlock) (m : Move) (b : Block) : Block :=
  let a := axisOf b ax
  let m' := { m with expiries := min 65535 (m.expiries + 1) }
  let a' := { a with stall := stallCount p a m, supplyLow := supplyCount b ax, move := some m' }
  let b' := setAxis ax a' b
  match stoppedBy first (decide (p.stallPeriods ≤ a'.stall)) (beyondHardLimit b ax)
      (decide (Config.supplyLowLimit ≤ a'.supplyLow)) with
  | some .stall => markDue (.stall ax) b'
  | some .supply => markDue (.supply ax) b'
  | some .limit => failMove ax .limit .limit b'
  | none =>
    let a2 := bandStep p a'
    let b2 := putAxis ax { a2 with move := some { m' with prevDuty := a2.output.duty? } } b
    if a2.settle = 0 then markDue (.settled ax) b2 else b2

/-- The axis unit of a search after the leave leg has been looked at: the output reverses once the level has returned
(R90 step 1). -/
def leaveStep (a : AxisUnit) (s : RefSearch) : AxisUnit :=
  if s.leaving = true ∧ a.refLevel ≠ some s.set.rising then
    { a with search := some { s with leaving := false }, output := .drive s.set.duty s.set.positive }
  else { a with search := some s }

/-- An expiry of a reference search (R90): supply sample, travel and motion, then the leave leg. -/
def searchExpiry (ax : Axis) (first : MoveCheck) (s : RefSearch) (b : Block) : Block :=
  let a := axisOf b ax
  let s' := { s with lastCounter := a.counter, still := if a.counter = s.lastCounter then s.still + 1 else 0 }
  let a' := { a with supplyLow := supplyCount b ax, search := some s' }
  let b' := setAxis ax a' b
  match stoppedBy first (decide (Config.noMotionLimit ≤ s'.still)) (decide (s.set.travel < travelOf b ax))
      (decide (Config.supplyLowLimit ≤ a'.supplyLow)) with
  | some .stall => markDue (.noMotion ax) b'
  | some .supply => markDue (.supply ax) b'
  | some .limit => searchFail ax .refFail b'
  | none => setAxis ax (leaveStep a' s') b

/-- An expiry in BRAKING counts the braking time (R76). -/
def brakingExpiry (ax : Axis) (b : Block) : Block :=
  let a := axisOf b ax
  let b' := setAxis ax { a with braking := a.braking - 1 } b
  if a.braking ≤ 1 then markDue (.braking ax) b' else b'

/-- What the expiry does by the state of the axis (R76, R79, R90). -/
def axisExpiry (ax : Axis) (first : MoveCheck) (b : Block) : Block :=
  let a := axisOf b ax
  match a.state, a.move, a.search, blockOf b ax with
  | .moving, some m, _, some p | .settling, some m, _, some p => moveExpiry ax first p m b
  | .referencing, _, some s, _ => searchExpiry ax first s b
  | .braking, _, _, _ => brakingExpiry ax b
  | _, _, _, _ => b

/-- A control-period expiry of an axis (R75, R79): the timer restarts with the period in force, the axis acts, and the
zoom map is told of zoom motion. -/
def controlExpiry (ax : Axis) (first : MoveCheck) (b : Block) : Block :=
  let old := (axisOf b ax).lastPos
  let b1 := axisExpiry ax first (setAxis ax { axisOf b ax with period := periodOf b ax } b)
  let now := position (axisOf b1 ax)
  let b2 := setAxis ax { axisOf b1 ax with lastPos := now } b1
  if ax = .zoom ∧ now ≠ old then zoomMoved b2 else b2

/-- The state an axis enters when BRAKING ends (R76). -/
def afterBraking (a : AxisUnit) : AxisState :=
  if a.referenced = false then .unreferenced else if a.stopFaulted then .faulted else .idle

/-- The braking count has reached 0 (R76); a search whose axis is referenced has succeeded (R90). -/
def brakingEnd (ax : Axis) (b : Block) : Block :=
  let a := axisOf b ax
  if a.state = .braking then
    let b' := putAxis ax { a with state := afterBraking a, output := .off, braking := 0, stopFaulted := false } b
    if a.referenced && inStageOf ax b' then searchSucceeded ax b' else b'
  else b

/-- The supply-low count has reached 3: a move or a search fails with SUPPLY_LOW (R84, R90). -/
def supplyStop (ax : Axis) (b : Block) : Block :=
  match (axisOf b ax).search with
  | some _ => searchFail ax .supplyLow b
  | none => failMove ax .supplyLow .supplyLow b

/-- The move timer expires (R82). -/
def moveTimeout (ax : Axis) (b : Block) : Block :=
  if (axisOf b ax).moveTimer.isSome then failMove ax .stall .timeout b else b

/-- A PWM period starts: the output last set takes effect (R76). -/
def pwmStart (ax : Axis) (b : Block) : Block := setAxis ax { axisOf b ax with inForce := (axisOf b ax).output } b

/-! ### The iris (R91, R92) -/

/-- The iris after its reference stage (R91). -/
def irisReferenced (i : Iris) (cTravel : Nat) : Iris :=
  { i with position := 0, referenced := true, cTravel := cTravel, steps := 0, stage := none }

/-- The iris step interval elapses (R91, R92): a step of the reference stage, or a scheduled step. The opening steps of the
reference stage leave the position as it was until the last one sets it to 0 (the model's choice, log 67). -/
def irisStep (b : Block) : Block :=
  match b.iris.stage, b.ldu.refPlan with
  | some n, some r =>
    if n ≤ 1 then
      startSearch .focus (setRef (some { r with stage := .focus }) { b with iris := irisReferenced b.iris r.prm.cTravel })
    else { b with iris := { b.iris with stage := some (n - 1) } }
  | some _, none => b
  | none, _ => { b with iris := irisScheduled b.iris }

/-! ### Lens plans (R86, R87, R91) -/

/-- The clamp of a target into the soft limits of an axis; the target a refused move's results show (log 21). -/
def clamped (b : Block) (ax : Axis) (target : Int) : Int := clamp target (limitsOf b ax).lo (limitsOf b ax).hi

/-- The hand-over of a ZOOM plan (R86): the tracking setting, then the move. -/
def zoomHandOver (target : Int) (tracking : Bool) (b : Block) : Block :=
  let b1 := retrack false { b with zmap := { b.zmap with trackEnabled := tracking } }
  let r := startMove .zoom .zoomPlan target b1
  match r.2 with
  | none => r.1
  | some o => zoomReport .failed o o (clamped r.1 .zoom target) 0 r.1

/-- The target of a FOCUS plan (R87, R109). -/
def focusTarget (b : Block) : FocusTarget → Int
  | .position p => p
  | .distance u => focusAtFraction b (position b.zoom) u

/-- The hand-over of a FOCUS plan (R87): its move takes over a tracking move; a refused one lets that move be braked
(log 22). -/
def focusHandOver (t : FocusTarget) (b : Block) : Block :=
  let target := focusTarget b t
  let r := startMove .focus (.focusPlan t) target b
  match r.2 with
  | none => r.1
  | some o => focusReport .failed o o (clamped r.1 .focus target) 0 (stopTracking r.1)

/-- The hand-over of a REFERENCE plan (R91): its zoom search starts. -/
def referenceHandOver (p : RefParams) (b : Block) : Block :=
  startSearch .zoom
    (setRef (some { prm := p, stage := .zoom, zoomTravel := 0, focusTravel := 0, zoomEdge := none, focusEdge := none }) b)

/-! ### Abort effects (R88, R91) -/

/-- A plan's move is stopped by an abort: its axis is braked (R88). -/
def abortMove (ax : Axis) (b : Block) : Block :=
  match (axisOf b ax).move with
  | none => b
  | some _ => brake ax false b

/-- The expiries of an axis's move so far. -/
def expiriesOf (a : AxisUnit) : Nat := (a.move.map (·.expiries)).getD 0

/-- The abort effects of a ZOOM plan (R88). -/
def zoomAbort (b : Block) : Block :=
  zoomReport .cancelled .ok .ok b.zoom.target (expiriesOf b.zoom) (abortMove .zoom b)

/-- The abort effects of a FOCUS plan (R88), reported with the target at the abort (log 61). -/
def focusAbort (b : Block) : Block :=
  focusReport .cancelled .ok .ok b.focus.target (expiriesOf b.focus) (abortMove .focus b)

/-- A search in progress on an axis is braked. -/
def abortSearch (ax : Axis) (b : Block) : Block :=
  match (axisOf b ax).search with
  | none => b
  | some _ => brake ax false b

/-- The abort effects of a REFERENCE plan (R91): an iris stage in progress leaves the iris unreferenced. -/
def referenceAbort (b : Block) : Block :=
  match b.ldu.refPlan with
  | none => b
  | some r =>
    let b1 := abortSearch .focus (abortSearch .zoom b)
    let b2 := if b1.iris.stage.isSome then { b1 with iris := { b1.iris with referenced := false, stage := none } } else b1
    refEnd r .cancelled .ok b2

end Sys2Proof.Machine
end

