-- ==== Sys2Proof/Machine/Pipeline.lean ====
section
/-!
DEFINITION. The settings pipeline and the settings link (2.4, 2.5), with window-open, which a created entry can raise
(R29).
-/

namespace Sys2Proof.Machine

/-- The frame timing unit, changed. -/
def setFtu (f : Ftu → Ftu) (b : Block) : Block := { b with ftu := f b.ftu }

/-- The settings latency of the format, 0 while it is unset (R36). -/
def latencyOf (b : Block) : Nat := (b.ftu.fmt.map (·.latency)).getD 0

/-- The number of the frame in progress or last started. -/
def curFrame (b : Block) : Word := b.ftu.frameNo

/-! ### Window-open (R29, R113, R143, R169) -/

/-- The larger of the magnitudes of the pair standing on the shift output port (R143). -/
def standingPeak (s : Sbu) : Nat := max s.pitch.s.natAbs s.yaw.s.natAbs

/-- At window-open(k) the SBU adds frame k with the peak of the standing pair; the oldest of four leaves first (R143). -/
def addWindow (k : Word) (b : Block) : Block :=
  let l := b.sbu.windows
  let l' := if l.length < Config.listLimit then l else l.drop 1
  { b with sbu := { b.sbu with windows := l' ++ [{ k := k, peak := standingPeak b.sbu }] } }

/-- At window-open(k) the FSU notes the focus position; the oldest of four leaves first (R169). -/
def addNote (k : Word) (b : Block) : Block :=
  let l := b.fsu.notes
  let l' := if l.length < Config.listLimit then l else l.drop 1
  { b with fsu := { b.fsu with notes := l' ++ [{ k := k, focus := position b.focus }] } }

/-- Window-open(k) reaches the AFU, the SBU and the FSU. -/
def windowOpen (k : Word) (b : Block) : Block := addNote k (addWindow k (addCandidate k b))

/-- Window-open of the frame after the one in progress is raised, once (R29). -/
def raiseWindowOpen (f : FrameProg) (b : Block) : Block :=
  windowOpen (f.k + 1) (setFtu (fun u => { u with frame := some { f with opened := true } }) b)

/-- The line of the frame in progress at which the window of the next frame opens: F − E of its entry (R29). -/
def openLine (fmt : StreamParams) (e : Entry) : Nat := fmt.lines - e.e

/-- An entry made after its window line has begun raises its window-open when it is made (R29). -/
def lateWindowOpen (b : Block) : Block :=
  match b.ftu.frame, b.ftu.fmt with
  | some f, some fmt =>
    match entryOf b (f.k + 1) with
    | some e => if f.opened = false ∧ openLine fmt e < f.ls then raiseWindowOpen f b else b
    | none => b
  | _, _ => b

/-! ### The link (R34) -/

/-- The send of an unsent entry starts when the link is idle (R34). -/
def startSend (b : Block) : Block :=
  match b.ftu.link with
  | .waiting _ _ => b
  | .idle =>
    match b.ftu.pipeline.find? fun e => e.send == .unsent with
    | none => b
    | some e =>
      setFtu (fun u => { u with
        link := .waiting e.e e.g
        pipeline := u.pipeline.map fun x => if x.send = .unsent ∧ x.k = e.k then { x with send := .sending } else x }) b

/-- An ACK completes the send in flight; a send that was put off then starts, unless the stream is STOPPED (R34). The ACK of
a send that a stop abandoned completes the send of the next stream if that one waits by then (the model's choice, log 58). -/
def acknowledge (b : Block) : Block :=
  match b.ftu.link with
  | .idle => b
  | .waiting _ _ =>
    let b' := setFtu (fun u => { u with
      link := .idle
      pipeline := u.pipeline.map fun x => if x.send = .sending then { x with send := .acknowledged } else x }) b
    if b'.ftu.stream = .stopped then b' else startSend b'

/-! ### Creation (R30, R32) -/

/-- An entry takes its place in ascending frame order (R31). -/
def insertEntry (e : Entry) : List Entry → List Entry
  | [] => [e]
  | x :: rest => if frameAbove x.k e.k then e :: x :: rest else x :: insertEntry e rest

/-- The initial entry as the STREAM start made it, with the values of its take (R22, R69); the program line stands in for it
where no take has made one, which no run reaches. -/
def firstEntry (b : Block) (f : StreamParams) (k : Word) : Entry :=
  match b.ftu.first with
  | some e => { e with k := k, send := .unsent }
  | none => programEntry b f k

/-- The entry for frame k: an initial entry in MEASURING while the line time is not measured, else the program line's
(R30 step 3). -/
def makeEntry (b : Block) (f : StreamParams) (k : Word) : Entry :=
  if b.ftu.stream = .measuring ∧ b.ftu.lineMeasured = false then firstEntry b f k else programEntry b f k

/-- The entry a call for a new entry makes, with the values current when it is made (R32). -/
def entryFor (b : Block) (f : StreamParams) : DueEntry → Entry
  | .create k => makeEntry b f k
  | .copy e => e

/-- The frame number of a due entry. -/
def DueEntry.key : DueEntry → Word
  | .create k => k
  | .copy e => e.k

/-- An entry joins the pipeline; the send of a created entry starts (R30, R32, R34), a copy starts none (R35). -/
def joinEntry (f : StreamParams) (d : DueEntry) (b : Block) : Block :=
  let b' := setFtu (fun u => { u with pipeline := insertEntry (entryFor b f d) u.pipeline }) b
  match d with
  | .create _ => startSend b'
  | .copy _ => b'

/-- A call for a new entry: made while the pipeline holds at most L entries, else due (R32). -/
def callEntry (d : DueEntry) (b : Block) : Block :=
  match b.ftu.fmt with
  | none => b
  | some f =>
    if b.ftu.pipeline.length ≤ f.latency then joinEntry f d b
    else setFtu (fun u => { u with dueEntry := some d }) b

/-- The due entry is made when a retirement leaves room, or dropped if its frame has passed (R32). -/
def makeDueEntry (b : Block) : Block :=
  match b.ftu.dueEntry, b.ftu.fmt with
  | some d, some f =>
    if b.ftu.stream = .lost ∨ f.latency < b.ftu.pipeline.length then b
    else
      let b' := setFtu (fun u => { u with dueEntry := none }) b
      if frameAbove d.key (curFrame b) then lateWindowOpen (joinEntry f d b') else b'
  | _, _ => b

/-! ### Retirement (R33) -/

/-- Whether an entry is closing with both releases. -/
def Entry.retired (e : Entry) : Bool := e.role == .closing && e.meterReleased && e.recordReleased

/-- Entries with both releases leave; room for a due entry makes its creation due, but not in LOST (R32, R33). An
entry with both releases leaves also while an older one stays (the model's choice, log 49). -/
def retire (b : Block) : Block :=
  let b' := setFtu (fun u => { u with pipeline := u.pipeline.filter fun e => !e.retired }) b
  if b'.ftu.dueEntry.isSome ∧ b'.ftu.stream ≠ .lost ∧ b'.ftu.pipeline.length ≤ latencyOf b'
      ∧ b'.ftu.pipeline.length < b.ftu.pipeline.length then markDue .dueEntry b'
  else b'

/-- The record release of frame k (R33, R172); ignored without an entry. -/
def recordRelease (k : Word) (b : Block) : Block :=
  retire (setFtu (fun u => { u with
    pipeline := u.pipeline.map fun e => if e.k = k then { e with recordReleased := true } else e }) b)

/-- The metering release of frame k reaches the pipeline (R33). -/
def meterRelease (k : Word) (b : Block) : Block :=
  retire (setFtu (fun u => { u with
    pipeline := u.pipeline.map fun e => if e.k = k then { e with meterReleased := true } else e }) b)

/-- The pipeline is emptied: every entry leaves, and the wait for an ACK is abandoned (R31, R34). -/
def emptyPipeline (b : Block) : Block :=
  dropDue .dueEntry (setFtu (fun u => { u with pipeline := [], dueEntry := none, link := .idle }) b)

/-! ### Late acknowledge (R35) -/

/-- Whether an entry is late: its send is not acknowledged. -/
def Entry.isLate (e : Entry) : Bool := e.send != .acknowledged

/-- The copy that fills frame k from the entry of frame k − 1 (R35). -/
def copyEntry (src : Entry) (k : Word) : Entry :=
  { src with k := k, late := true, role := .pending, meterReleased := false, recordReleased := false }

/-- A late entry at frame-start(k) is re-keyed to k + L, and the entry of k + L − 2 is copied to k + L − 1 (R35). -/
def rekeyLate (k : Word) (b : Block) : Block :=
  let l := BitVec.ofNat 32 (latencyOf b)
  let src := entryOf b (k + l - 2)
  let b' := setFtu (fun u => { u with
    pipeline := u.pipeline.map fun e => if e.isLate then { e with k := k + l } else e }) b
  match src with
  | none => b'
  | some e => callEntry (.copy (copyEntry e (k + l - 1))) b'

/-- Whether frame-start(k) finds a late entry (R35). -/
def findsLate (b : Block) : Bool := b.ftu.pipeline.any Entry.isLate

/-- The pipeline work of frame-start(k) (R30): an entry still due is dropped (R32), the late case, the current entry, the
creation for k + L with its send, the iris request toward the entry of k + 1. -/
def pipelineWork (k : Word) (b : Block) : Block :=
  let b0 := dropDue .dueEntry (setFtu (fun u => { u with dueEntry := none }) b)
  let late := findsLate b0
  let b1 := if late then rekeyLate k b0 else b0
  let b2 := setFtu (fun u => { u with
    pipeline := u.pipeline.map fun e => if e.k = k then { e with role := .current } else e }) b1
  let b3 := if late then b2 else callEntry (.create (k + BitVec.ofNat 32 (latencyOf b2))) b2
  match entryOf b3 (k + 1) with
  | some e => irisRequest e.c b3
  | none => b3

end Sys2Proof.Machine
end

