-- ==== Sys2Proof/Machine/Capture.lean ====
section
/-!
DEFINITION. Capture control (chapter 9): starting, picking candidates, draining and ending a burst.
-/

namespace Sys2Proof.Machine

/-- Capture control, changed. -/
def setCap (f : Cap → Cap) (b : Block) : Block := { b with cap := f b.cap }

/-- The frame store, changed. -/
def setFsu (f : Fsu → Fsu) (b : Block) : Block := { b with fsu := f b.fsu }

/-- Whether a cause ends a plan FAILED (R153). -/
def failedCause : PlanOutcome → Bool
  | .busError | .syncLost => true
  | _ => false

/-- The end cause after another arrives: a FAILED cause replaces one of DONE, else the first stands (R153). -/
def mergeCause (old : Option PlanOutcome) (new : PlanOutcome) : PlanOutcome :=
  match old with
  | none => new
  | some c => if failedCause c = false ∧ failedCause new = true then new else c

/-- Whether the capture plan held the focus class for continuous AF. -/
def capHeldFocus (c : Cap) : Bool :=
  match c.prm with
  | some p => p.caf
  | none => false

/-- The ending of a CAPTURE plan (R153): continuous AF stops and u is recomputed (R108, R128), the report with its
results (Table 53), the capture lock and SLOT_WAIT cleared, ENDED. -/
def capFinish (b : Block) : Block :=
  let b1 := cafStop b
  let b2 := if capHeldFocus b1.cap && b1.focus.referenced then recomputeU b1 else b1
  let cause := if planCancelling b2 .capture then .ok else b2.cap.endCause.getD .ok
  let b3 := setCap (fun c => { c with endCause := some cause }) b2
  let fin := if failedCause cause then FinalState.failed else FinalState.done
  let b4 := endPlan .capture fin cause (leWord b3.cap.stored) (captureArea b3.cap) b3
  let b5 := setCond .slotWait false { b4 with exu := { b4.exu with lock := false } }
  setCap (fun c => { c with state := .ended }) b5

/-- A candidate whose slot is not decided yet is withdrawn as its plan ends: the request is dropped, its lines are discarded,
and neither skipped count takes it (the model's choice, log 66). -/
def withdrawRequest (b : Block) : Block :=
  match b.fsu.cur with
  | none => b
  | some f =>
    match f.slot with
    | some _ => b
    | none =>
      setFsu (fun u => { u with
        cur := none, line := none, places := [], overrun := false
        qReads := u.qReads.map fun q => { q with request := none } }) b

/-- The plan drains for a cause, and ends at once when no slot is FILLING (R152 to R155). -/
def capDrain (cause : PlanOutcome) (b : Block) : Block :=
  let b' := setCap (fun c => { c with state := .draining, endCause := some (mergeCause c.endCause cause) }) b
  if b'.cap.filling then b' else capFinish (withdrawRequest b')

/-- Whether a capture plan runs: ARMED, STORING or DRAINING (Table 52). -/
def capRunning (c : Cap) : Bool :=
  match c.state with
  | .armed | .storing | .draining => true
  | _ => false

/-- Capture control is told that the stream is lost or stopped (R155). -/
def capStreamEnd (b : Block) : Block := if capRunning b.cap then capDrain .syncLost b else b

/-- The abort effects of a CAPTURE plan (R156). -/
def capAbort (b : Block) : Block :=
  let b' := setCap (fun c => { c with state := .draining }) b
  if b'.cap.filling then b' else capFinish (withdrawRequest b')

/-- A publication reaches capture control (R152, R154). -/
def capPublished (k : Word) (bus : Bool) (b : Block) : Block :=
  let b' := setCap (fun c => { c with
    stored := c.stored + 1
    firstFrame := c.firstFrame <|> some k
    lastFrame := k
    filling := false
    busErrs := if bus then c.busErrs + 1 else c.busErrs }) b
  if bus ∧ 2 ≤ b'.cap.busErrs ∧ capRunning b'.cap then capDrain .busError b'
  else if b'.cap.state = .draining then capFinish b'
  else b'

/-- Whether capture control reports STORING for the recording window (R137, 9.2): in STORING, and in DRAINING until the
frame-end of the frame that fills. -/
def capReportsStoring (b : Block) : Bool :=
  match b.cap.state with
  | .storing => true
  | .draining =>
    match b.fsu.cur with
    | some f => f.slot.isSome && !f.frameEnded
    | none => false
  | _ => false

/-- The focus position of the note of frame k, if there is one (R169). -/
def noteOf (b : Block) (k : Word) : Option Int := (b.fsu.notes.find? fun n => n.k == k).map (·.focus)

/-- The notes of frame k and every lower frame are removed (R169). -/
def pruneNotes (k : Word) (b : Block) : Block :=
  setFsu (fun u => { u with notes := u.notes.filter fun n => frameAbove n.k k }) b

/-- Whether a candidate waits for the decision on its slot (R161, R162). -/
def slotPending (b : Block) : Bool := b.fsu.cur.any fun f => f.slot.isNone

/-- The notes at the frame-start of a frame that asks for no slot: those of its number and below are removed (the model's
choice, log 68), but all are kept while a candidate waits for its slot decision (R169). -/
def dropPassedNotes (k : Word) (b : Block) : Block := if slotPending b then b else pruneNotes k b

/-- The frame store's record of a candidate that asks for a slot (R161, R162, R169). It holds the focus position at
frame-start; the note of the frame, if there is one then, replaces it when the slot is given. -/
def candidateFrame (b : Block) (k : Word) (periodJump : Bool) : StoreFrame :=
  { k := k, slot := none, index := 0, truncated := false, busError := false, periodJump := periodJump,
    lineCount := false, unsettled := b.cap.unsettled && !b.exu.settled,
    focusOpen := position b.focus, focusEnd := 0, sbuEnd := .off, peak := 0, clipped := 0,
    focusValue := 0, m := 0, e := 0, frameEnded := false, statsHandled := false, metered := false, answered := false,
    entry := none }

/-- The frame is not stored, for want of an entry or while a slot fills (R150). -/
def skipOther (b : Block) : Block := setCap (fun c => { c with skipOther := c.skipOther + 1 }) b

/-- The newest read of Q carries the request of frame k (R160, R161). -/
def attachRequest (k : Word) (l : List QRead) : List QRead :=
  match l.reverse with
  | [] => []
  | q :: rest => ({ q with request := some k } :: rest).reverse

/-- Frame k, whose frame-start carried PERIOD_JUMP or not, is handled as a candidate if it is on the stride (R150). -/
def candidate (k : Word) (periodJump : Bool) (b : Block) : Block :=
  let stride := (b.cap.prm.map (·.stride)).getD 1
  if (k - b.cap.kFirst).toNat % stride ≠ 0 then dropPassedNotes k b
  else if (entryOf b k).isNone ∨ b.cap.filling = true ∨ b.fsu.cur.isSome then dropPassedNotes k (skipOther b)
  else
    setFsu (fun u => { u with
      cur := some (candidateFrame b k periodJump), line := none, places := [], overrun := false
      qReads := attachRequest k u.qReads }) b

/-- The plan enters STORING with k_first = k, and frame k is handled as a candidate (R149). -/
def capBegin (k : Word) (periodJump : Bool) (kind : StartKind) (b : Block) : Block :=
  candidate k periodJump
    (setCap (fun c => { c with
      state := .storing, kFirst := k, startKind := kind, unsettled := decide (kind = .unsettled) }) b)

/-- Capture control at frame-start(k) (R149, R150). A wait that reaches max wait makes CAPTURE_MAX_WAIT due. The notes
of a frame that asks for no slot follow dropPassedNotes (R169). -/
def capFrameStart (k : Word) (periodJump : Bool) (b : Block) : Block :=
  match b.cap.state with
  | .armed =>
    match b.cap.prm with
    | none => dropPassedNotes k b
    | some p =>
      if p.settledStart = false then capBegin k periodJump .next b
      else if b.exu.settled then capBegin k periodJump .settled b
      else
        let b' := setCap (fun c => { c with wait := c.wait + 1 }) b
        if p.maxWait ≤ b'.cap.wait then markDue .captureMaxWait b' else dropPassedNotes k b'
  | .storing => candidate k periodJump b
  | _ => dropPassedNotes k b

/-- The wait count of a SETTLED start has reached max wait: the burst starts with the started-unsettled mark (R149). -/
def capMaxWait (b : Block) : Block :=
  if b.cap.state = .armed then
    let jump := (b.stu.frame.map (·.periodJump)).getD false
    capBegin (curFrame b) jump .unsettled b
  else b

/-- The hand-over of a CAPTURE plan (R147, R148). The start kind stands at NEXT until the burst starts (the model's choice,
log 60). -/
def captureHandOver (tag : Word) (p : CapParams) (pool : Pool) (b : Block) : Block :=
  let b1 := setCap (fun _ => { Cap.reset with state := .armed, prm := some p }) b
  let b2 := setFsu (fun u => { u with pool := some pool, tag := tag, flip := p.flip, notify := p.notify }) b1
  let b3 := if p.aeLock then { b2 with exu := { b2.exu with lock := true } } else b2
  if p.caf then cafStart p b3 else b3

end Sys2Proof.Machine
end

