-- ==== Sys2Proof/Machine/Store.lean ====
section
/-!
DEFINITION. The frame store (chapter 10): the slot pool, the released count, lines, bursts, the CRC, and publication.
-/

namespace Sys2Proof.Machine

/-! ### The frame CRC (R168) -/

/-- One shift of the CRC register. -/
def crcShift (c : Word) : Word := if c.getLsbD 0 then (c >>> 1) ^^^ Config.crcPoly else c >>> 1

/-- One byte enters the CRC register. -/
def crcByte (c : Word) (x : Byte) : Word :=
  (List.range 8).foldl (fun a _ => crcShift a) (c ^^^ x.setWidth 32)

/-- Bytes enter in the order they are written. -/
def crcBytes (c : Word) (bs : List Byte) : Word := bs.foldl crcByte c

/-! ### P writes (R3, R159, R170) -/

/-- A P write falls due: it is held while a mirror body write is outstanding (R3). -/
def queuePWrite (pub : Option Publication) (b : Block) : Block :=
  let acc :=
    match b.ple.mirror with
    | .body _ => none
    | _ => some (writeAt b offMirrorP (leWord b.fsu.p))
  setFsu (fun u => { u with pWrites := u.pWrites ++ [{ acc := acc, pub := pub }] }) b

/-- The body write is answered: held P writes are issued with P as it stands (R3). -/
def releasePWrites (b : Block) : Block :=
  setFsu (fun u => { u with
    pWrites := u.pWrites.map fun w =>
      if w.acc.isNone then { w with acc := some (writeAt b offMirrorP (leWord u.p)) } else w }) b

/-- At the first RUN after a reset the FSU takes Q, sets P to it and writes P (R159). -/
def firstQ (q : Word) (b : Block) : Block :=
  queuePWrite none (setFsu (fun u => { u with heldQ := q, p := q, refusedQ := none }) b)

/-! ### Bursts (R163 to R167) -/

/-- Number of bursts of a line: 64 bytes each, the last one chopped to 32 when the line is not a multiple of 64 (R164). -/
def burstCount (bytes : List Byte) : Nat := (bytes.length + 63) / 64

/-- The offset of line j of the filling frame (R158, R163). -/
def lineOffset (pool : Pool) (flip : Bool) (active slot j len : Nat) : Nat :=
  pool.base + slot * pool.stride + (if flip then active - 1 - j else j) * len

/-- The next burst of a line in the line buffer (R164). -/
def nextBurst (b : Block) (pool : Pool) (slot : Nat) (l : LineBuf) : WriteAcc :=
  let active := (b.ftu.fmt.map (·.active)).getD 0
  writeAt b (lineOffset pool b.fsu.flip active slot l.row l.bytes.length + 64 * l.issued)
    ((l.bytes.drop (64 * l.issued)).take 64)

/-- The line counts as written: it enters the CRC and its place becomes empty (R165, R168). -/
def lineWritten (f : StoreFrame) (l : LineBuf) (rest : List LineBuf) (b : Block) : Block :=
  setFsu (fun u => { u with
    places := rest, cur := some f, lines := u.lines + 1, crc := crcBytes u.crc l.bytes }) b

/-- One burst is issued, if the write buffer has room and a line waits (R165 to R167); a burst that meets a window fault
is not issued and counts as answered at once. None when there is nothing to issue. -/
def issueBurst (b : Block) : Option Block :=
  match b.fsu.cur, b.fsu.pool, b.fsu.places with
  | some f, some pool, l :: rest =>
    match f.slot with
    | none => none
    | some slot =>
      if Config.writeBufferPlaces ≤ b.fsu.wbuf.length then none
      else
        let acc := nextBurst b pool slot l
        let failed := acc.addr.isNone
        let f' := if failed then { f with busError := true } else f
        let l' := { l with issued := l.issued + 1 }
        let b1 := setFsu (fun u => { u with
          cur := some f', places := l' :: rest, wbuf := if failed then u.wbuf else u.wbuf ++ [acc] }) b
        let b2 := if failed then memoryFault .window acc.offset b1 else b1
        some (if l'.issued < burstCount l.bytes then b2 else lineWritten f' l' rest b2)
  | _, _, _ => none

/-- Bursts are issued as long as there is room (R166); the fuel bounds the bursts of the line buffer. -/
def issueBursts : Nat → Block → Block
  | 0, b => b
  | n + 1, b =>
    match issueBurst b with
    | none => b
    | some b' => issueBursts n b'

/-- Bursts not yet issued of the lines in the line buffer. -/
def burstsLeft (b : Block) : Nat := (b.fsu.places.map fun l => burstCount l.bytes).sum

/-! ### Publication (R169, R170, R173) -/

/-- The settings entry of the filling frame: the one kept at a frame-end before its slot was given, else the closing one,
which is still in the pipeline (R170 step 1). In a state without it, which no run reaches, the record carries zeros
(log 38). -/
def recordEntry (b : Block) (f : StoreFrame) : Entry :=
  (f.entry <|> entryOf b f.k).getD (newEntry f.k 0 0 0 0 0 .auto false false false .off 0 .acknowledged)

/-- The record of the filling frame (R173). -/
def frameRecord (b : Block) (f : StoreFrame) : List Byte :=
  let e := recordEntry b f
  recordBytes f b.fsu.tag e (focalAt b e.zoomPos).toNat b.fsu.lines b.fsu.crc

/-- Whether the four publication marks are set (R169). -/
def StoreFrame.ready (f : StoreFrame) : Bool := f.frameEnded && f.statsHandled && f.metered && f.answered

/-- The frame is published once its marks are set: the record is built and written (R170 steps 1 and 2). -/
def tryPublish (b : Block) : Block :=
  match b.fsu.cur with
  | none => b
  | some f =>
    match f.slot with
    | none => b
    | some slot =>
      if f.ready && b.fsu.recWrite.isNone then
        setFsu (fun u => { u with recWrite := some (writeAt b (recordOffset slot) (frameRecord b f)) }) b
      else b

/-- The burst condition of publication: after the frame-end every written line is issued and answered (R166, R169). -/
def checkAnswered (b : Block) : Block :=
  match b.fsu.cur with
  | none => b
  | some f =>
    if f.slot.isSome && f.frameEnded && b.fsu.places.isEmpty && b.fsu.wbuf.isEmpty then
      setFsu (fun u => { u with cur := some { f with answered := true } }) b
    else b

/-- Bursts go out as room allows, and the publication conditions are looked at. -/
def pump (b : Block) : Block := tryPublish (checkAnswered (issueBursts (burstsLeft b) b))

/-! ### Lines (R162, R165) -/

/-- Whether the FSU takes the lines of frame k: it fills or awaits its slot, has not ended, and has not overrun. -/
def takesLines (b : Block) (k : Word) : Bool :=
  match b.fsu.cur with
  | some f => f.k == k && !f.frameEnded && !b.fsu.overrun
  | none => false

/-- An active line of frame k begins in the line assembly, as the tap gives it (R162). -/
def storeLineBegin (k : Word) (width : Nat) (px : List Pixel) (b : Block) : Block :=
  if takesLines b k then setFsu (fun u => { u with line := some (takeLine width px) }) b else b

/-- Lines written of the frame whose lines are taken; none while its slot is not decided (R162). -/
def writtenLines (b : Block) : Nat :=
  match b.fsu.cur with
  | some f => if f.slot.isSome then b.fsu.lines else 0
  | none => 0

/-- The line in the assembly is finished: it moves to an empty place, or overruns (R162, R165). -/
def storeLineEnd (b : Block) : Block :=
  match b.fsu.line, b.fsu.cur with
  | some px, some f =>
    if b.fsu.places.length < Config.lineBufferPlaces then
      let row := writtenLines b + b.fsu.places.length
      pump (setFsu (fun u => { u with
        line := none, places := u.places ++ [{ row := row, bytes := lineBytes px, issued := 0 }] }) b)
    else
      setFsu (fun u => { u with line := none, overrun := true, cur := some { f with truncated := true } }) b
  | _, _ => setFsu (fun u => { u with line := none }) b

/-- Frame-end(k) at the frame store: the filling frame collects its values (R162, R169); any other frame's record release
is given at once (R172). A candidate whose slot is undecided keeps its entry and collects too (log 26). -/
def storeFrameEnd (k : Word) (cut : Bool) (state : SbuState) (peak : Nat) (b : Block) : Block :=
  match b.fsu.cur with
  | some f =>
    if f.k = k then
      let f' := { f with
        frameEnded := true, truncated := f.truncated || cut, focusEnd := position b.focus, sbuEnd := state, peak := peak }
      match f.slot with
      | some _ => pump (setFsu (fun u => { u with line := none, cur := some f' }) b)
      | none =>
        recordRelease k (setFsu (fun u => { u with line := none, cur := some { f' with entry := entryOf b k } }) b)
    else recordRelease k b
  | none => recordRelease k b

/-- The FSU handles the oldest stats-ready it has not handled (R169). One of an ended stream closes no frame of the stream
that follows it (the model's choice, log 59). -/
def storeStats (b : Block) : Block :=
  match b.fsu.inbox with
  | [] => b
  | r :: rest =>
    let b' := setFsu (fun u => { u with inbox := rest }) b
    match b'.fsu.cur with
    | some f =>
      if f.k = r.k ∧ r.old = false then
        tryPublish (setFsu (fun u => { u with
          cur := some { f with
            clipped := r.clipped, focusValue := r.focus, lineCount := r.lineCount, statsHandled := true } }) b')
      else b'
    | none => b'

/-- The metering release of frame k with its result reaches the FSU (R62, R169). -/
def storeMetered (k : Word) (m : Nat) (e : Int) (b : Block) : Block :=
  match b.fsu.cur with
  | some f =>
    if f.k = k then tryPublish (setFsu (fun u => { u with cur := some { f with m := m, e := e, metered := true } }) b)
    else b
  | none => b

/-! ### The released count and the slots (R160, R161, R151) -/

/-- The FSU takes a value of Q read at a frame-start (R160). -/
def takeQ (q : Word) (b : Block) : Block :=
  let a := (q - b.fsu.heldQ).toNat
  let h := (b.fsu.p - b.fsu.heldQ).toNat
  if a = 0 then setFsu (fun u => { u with refusedQ := none }) b
  else if a ≤ h then setFsu (fun u => { u with heldQ := q, refusedQ := none }) b
  else if b.fsu.refusedQ = some q then b
  else latchFault .release offQ (raise .releaseFault (setFsu (fun u => { u with refusedQ := some q }) b))

/-- 1 while a frame is filling (R161). -/
def fillingCount (b : Block) : Nat :=
  match b.fsu.cur with
  | some f => if f.slot.isSome then 1 else 0
  | none => 0

/-- The free-slot count (R161); 0 without a pool record (R158). -/
def freeSlots (b : Block) : Nat :=
  match b.fsu.pool with
  | none => 0
  | some p => p.n - (b.fsu.p - b.fsu.heldQ).toNat - fillingCount b

/-- A slot is given to the candidate (R161, R151), and the count may be reached (R152). A flag that the candidate has
already is kept: TRUNCATED by an overrun or a cut before the decision (the model's choice, log 56). The note of its frame
moves to it, and the notes of that frame and below are removed (R169); without a note now, the position at frame-start
stands, also where four later notes have removed it (the model's reading, log 70). -/
def giveSlot (f : StoreFrame) (pool : Pool) (b : Block) : Block :=
  let b1 := setFsu (fun u => { u with
    cur := some { f with
      slot := some (u.p.toNat % pool.n), index := b.cap.reserved, focusOpen := (noteOf b f.k).getD f.focusOpen }
    lines := 0, crc := 0xFFFFFFFF#32 }) b
  let b2 := setCap (fun c => { c with reserved := c.reserved + 1, filling := true }) b1
  let b3 := pump (pruneNotes f.k (setCond .slotWait false b2))
  let count := (b3.cap.prm.map (·.count)).getD 0
  if count ≠ 0 ∧ b3.cap.reserved = count then capDrain .ok b3 else b3

/-- No slot is free: the slot policy decides (R151). The notes kept for the decision are removed as for a frame that is
reserved (R169; the model's choice, log 68). -/
def noSlot (f : StoreFrame) (b : Block) : Block :=
  let b' := pruneNotes f.k (withdrawRequest b)
  if (b'.cap.prm.map (·.endPolicy)).getD false then capDrain .short b'
  else setCond .slotWait true (setCap (fun c => { c with skipSlot := c.skipSlot + 1 }) b')

/-- The slot request of frame k is decided with the held Q as the read left it (R161). -/
def decideSlot (k : Word) (b : Block) : Block :=
  match b.fsu.cur, b.fsu.pool with
  | some f, some pool =>
    if f.k = k ∧ f.slot = none then
      if 1 ≤ freeSlots b then giveSlot f pool b else noSlot f b
    else b
  | _, _ => b

/-- The response to the oldest read of Q (R160), which settles the slot request that waits for it (R161). A failed read
leaves the refused Q (the model's choice, log 54), and two reads are answered in their order (log 55). -/
def qResponse (r : ReadResp) (b : Block) : Block :=
  match b.fsu.qReads with
  | [] => b
  | q :: rest =>
    let b1 := setFsu (fun u => { u with qReads := rest }) b
    let b2 :=
      match q.acc.result r with
      | .error c => memoryFault c q.acc.offset b1
      | .ok bs => takeQ (BitVec.ofNat 32 (u32 bs 0)) b1
    match q.request with
    | none => b2
    | some k => decideSlot k b2

/-! ### Responses of writes (R166, R167, R170, R171) -/

/-- A burst write response (R166, R167). -/
def burstResponse (i : Nat) (err : Bool) (b : Block) : Block :=
  match b.fsu.wbuf[i]? with
  | none => b
  | some acc =>
    let b1 := setFsu (fun u => { u with wbuf := u.wbuf.eraseIdx i }) b
    let b2 :=
      if err then
        memoryFault .writeError acc.offset
          (setFsu (fun u => { u with cur := u.cur.map fun f => { f with busError := true } }) b1)
      else b1
    pump b2

/-- The response to the record write (R170 step 3, R171): P is incremented, the filling frame cleared, P written. -/
def recordResponse (err : Bool) (b : Block) : Block :=
  match b.fsu.recWrite, b.fsu.cur with
  | some acc, some f =>
    let c := acc.fault err
    let b1 := memoryFault? c acc.offset b
    queuePWrite (some { k := f.k, busError := f.busError || c.isSome, notify := b.fsu.notify })
      (setFsu (fun u => { u with
        p := u.p + 1, cur := none, line := none, places := [], overrun := false, recWrite := none }) b1)
  | _, _ => b

/-- Steps 4 to 6 of a publication (R170). -/
def finishPublication (p : Publication) (b : Block) : Block :=
  capPublished p.k p.busError (recordRelease p.k (if p.notify then raise .framePublished b else b))

/-- The response to the oldest P write (R159, R170, R171). -/
def pResponse (err : Bool) (b : Block) : Block :=
  match b.fsu.pWrites with
  | [] => b
  | w :: rest =>
    match w.acc with
    | none => b
    | some acc =>
      let b1 := memoryFault? (acc.fault err) acc.offset (setFsu (fun u => { u with pWrites := rest }) b)
      match w.pub with
      | none => b1
      | some p => finishPublication p b1

/-- The FSU reads Q at a frame-start, whatever the value of RUN (R160). -/
def readQ (b : Block) : Block :=
  setFsu (fun u => { u with qReads := u.qReads ++ [{ acc := readAt b offQ 4, request := none }] }) b

end Sys2Proof.Machine
end

