-- ==== Sys2Proof/Machine/Stab.lean ====
section
/-!
DEFINITION. The stabilization unit (chapter 8): gyro packets, loss and recovery, the sample in ACTIVE, the shift
output, the exposure window list at a frame-end, and the hand-overs of STAB plans.
-/

namespace Sys2Proof.Machine

/-- The stabilization unit, changed. -/
def setSbu (f : Sbu → Sbu) (b : Block) : Block := { b with sbu := f b.sbu }

/-- A gyro axis of the unit. -/
def rotOf (s : Sbu) : Rot → RotUnit
  | .pitch => s.pitch
  | .yaw => s.yaw

/-- A gyro axis, changed. -/
def setRot (r : Rot) (u : RotUnit) (s : Sbu) : Sbu :=
  match r with
  | .pitch => { s with pitch := u }
  | .yaw => { s with yaw := u }

/-! ### The shift output (R142, R143) -/

/-- A pair is sent: it replaces the one standing on the port, and the peaks in the window list follow it (R142, R143). -/
def sendPair (pitch yaw : Int) (s : Sbu) : Sbu :=
  { s with
    pitch := { s.pitch with s := pitch }
    yaw := { s.yaw with s := yaw }
    windows := s.windows.map fun w => { w with peak := max w.peak (max pitch.natAbs yaw.natAbs) } }

/-- An axis with A, pan flag and run, hold and last difference cleared; bias and shift output stay. -/
def clearRot (u : RotUnit) : RotUnit := { u with a := 0, d := 0, pan := false, run := 0, hold := 0 }

/-- Both axes cleared. -/
def clearRots (s : Sbu) : Sbu := { s with pitch := clearRot s.pitch, yaw := clearRot s.yaw }

/-! ### Loss and recovery (R132, R135) -/

/-- A loss (R132); the in-sequence run is 1 when a packet found it, 0 when the timer did. -/
def gyroLoss (inSeq : Nat) (b : Block) : Block :=
  setCond .gyroLost true
    (setSbu (fun s => { sendPair 0 0 (clearRots s) with base := .gyroLost, inSeq := inSeq, sample := none }) b)

/-- A complete packet in GYRO_LOST (R131, R132): the run advances, or restarts at 1; at 16 the recovery is due. -/
def lostPacket (gap : Nat) (b : Block) : Block :=
  let run := if gap = 0 then b.sbu.inSeq + 1 else 1
  let b' := setSbu (fun s => { sendPair 0 0 s with inSeq := run }) b
  if Config.recoverRun ≤ run then markDue .recovered b' else b'

/-- The in-sequence run has reached 16: the base state becomes CENTERING and the GYRO_LOST condition false (R132, R135). -/
def gyroRecover (b : Block) : Block :=
  if b.sbu.base = .gyroLost then
    setCond .gyroLost false (setSbu (fun s => { s with base := .centering, centering := 0 }) b)
  else b

/-! ### CENTERING (R135) -/

/-- The bias after a rate r with a track shift (R135, R136); the floor rounds toward minus infinity. -/
def trackBias (shift : Nat) (r : Int) (b32 : Int) : Int := b32 + (r * 256 - b32) / ((2 ^ shift : Nat) : Int)

/-- A packet processed in CENTERING (R135); the end of centering is due when the count reaches its parameter. -/
def centeringPacket (pitch yaw : Int) (b : Block) : Block :=
  let b' := setSbu (fun s =>
    let s' := sendPair 0 0 s
    { s' with
      pitch := { s'.pitch with b32 := trackBias 4 pitch s'.pitch.b32, a := 0 }
      yaw := { s'.yaw with b32 := trackBias 4 yaw s'.yaw.b32, a := 0 }
      centering := s'.centering + 1 }) b
  if b'.sbu.prm.centering ≤ b'.sbu.centering then markDue .centering b' else b'

/-- The centering count has reached its parameter: ACTIVE, with both axes cleared (R135). -/
def centeringDone (b : Block) : Block :=
  if b.sbu.base = .centering then setSbu (fun s => { clearRots s with base := .active }) b else b

/-! ### A sample in ACTIVE (R136 to R141) -/

/-- The bias of an axis in rate units (R136). -/
def biasOf (u : RotUnit) : Int := u.b32 / 256

/-- Whether a recording window is open (R137). -/
def recordingWindow (b : Block) : Bool := !b.sbu.windows.isEmpty && capReportsStoring b

/-- The leak shift of a sample (R137). -/
def leakShift (b : Block) : Nat :=
  if recordingWindow b then b.sbu.prm.leak else max (b.sbu.prm.leak - b.sbu.prm.boost) 4

/-- One integration: the new A, and whether it was set to a bound (R138). -/
def integrate (h : Nat) (d a : Int) : Int × Bool :=
  let x := a - a / ((2 ^ h : Nat) : Int) + d
  if Config.angleBound ≤ x then (Config.angleBound, true)
  else if x ≤ -Config.angleBound then (-Config.angleBound, true)
  else (x, false)

/-- `n` lost samples filled on an axis with its last difference (R140): A, and whether one of them saturated. -/
def fillGap : Nat → Nat → RotUnit → Int × Bool
  | 0, _, u => (u.a, false)
  | n + 1, h, u =>
    if u.pan then (u.a, false)
    else
      let x := integrate h u.d u.a
      let y := fillGap n h { u with a := x.1 }
      (y.1, x.2 || y.2)

/-- The bias after a sample's bias tracking (R136). -/
def sampleBias (p : StabParams) (r d : Int) (u : RotUnit) : Int :=
  if p.biasOn = true ∧ d.natAbs < p.still then trackBias p.track r u.b32 else u.b32

/-- Whether a sample of difference d counts toward a change of the pan flag (R139). -/
def panSample (p : StabParams) (d : Int) (u : RotUnit) : Bool :=
  if u.pan then decide (d.natAbs < p.panThreshold / 2) else decide (p.panThreshold < d.natAbs)

/-- An axis after the gap fill, the bias tracking and the pan run count of a sample (R136, R139, R140), with what the
rest of the sample needs. -/
def beginRot (p : StabParams) (gap h : Nat) (r : Int) (u : RotUnit) : RotUnit × RotSample :=
  let f := fillGap gap h u
  let d := r - biasOf u
  ({ u with a := f.1, b32 := sampleBias p r d u, run := if panSample p d u then u.run + 1 else 0 },
   { d := d, sat := f.2 })

/-- The shift before the clamp (R141). -/
def rawShift (a g : Int) : Int := (a * g + 524288) / 1048576

/-- An axis after the integration, shift and hold of a sample (R138, R141), with its new shift; a hold that would reach 0
stays at 1 for the hold's end, which is due. -/
def finishRot (p : StabParams) (h : Nat) (g : Int) (x : RotSample) (u : RotUnit) : RotUnit × Int :=
  let i := if u.pan then (0, false) else integrate h x.d u.a
  let raw := rawShift i.1 g
  let s := clamp raw (-(p.range : Int)) p.range
  let sat := x.sat || i.2 || decide (s ≠ raw)
  ({ u with a := i.1, d := x.d, hold := if sat then Config.holdSamples else if 1 < u.hold then u.hold - 1 else u.hold },
   s)

/-- Whether the hold of an axis ends with a sample: it stood at 1 and the sample did not saturate. -/
def holdEnds (u v : RotUnit) : Bool := u.hold == 1 && v.hold == 1

/-- The rest of a sample, once its pan flag changes are made: integration, shifts, holds, and the pair (R138, R141,
R142). -/
def finishSample (g : GyroSample) (b : Block) : Block :=
  let gain := gainAt b (position b.zoom)
  let p := finishRot b.sbu.prm g.h gain g.pitch b.sbu.pitch
  let y := finishRot b.sbu.prm g.h gain g.yaw b.sbu.yaw
  let b1 := setSbu (fun s => sendPair p.2 y.2 { s with pitch := p.1, yaw := y.1, sample := none }) b
  let b2 := if holdEnds b.sbu.pitch p.1 then markDue (.hold .pitch) b1 else b1
  if holdEnds b.sbu.yaw y.1 then markDue (.hold .yaw) b2 else b2

/-- Whether a pan flag change is due. -/
def panDue (b : Block) : Bool := decide (DueStep.pan .pitch ∈ b.due) || decide (DueStep.pan .yaw ∈ b.due)

/-- The sample goes on when no pan flag change is due. -/
def resumeSample (b : Block) : Block :=
  match b.sbu.sample with
  | none => b
  | some g => if panDue b then b else finishSample g b

/-- The run count of an axis reached the pan count: the change of its pan flag is due (R139). -/
def markPan (r : Rot) (b : Block) : Block :=
  if b.sbu.prm.panCount ≤ (rotOf b.sbu r).run then markDue (.pan r) b else b

/-- A packet processed in ACTIVE (R136 to R141), after `gap` lost samples. -/
def activePacket (gap : Nat) (pitch yaw : Int) (b : Block) : Block :=
  let h := leakShift b
  let p := beginRot b.sbu.prm gap h pitch b.sbu.pitch
  let y := beginRot b.sbu.prm gap h yaw b.sbu.yaw
  resumeSample (markPan .yaw (markPan .pitch (setSbu (fun s => { s with
    pitch := p.1, yaw := y.1, sample := some { h := h, pitch := p.2, yaw := y.2 } }) b)))

/-- The pan flag of an axis changes, with A = 0 while it is set (R139); then its sample goes on. -/
def panChange (r : Rot) (b : Block) : Block :=
  match b.sbu.sample with
  | none => b
  | some _ =>
    resumeSample (setSbu (fun s => setRot r { rotOf s r with pan := !(rotOf s r).pan, run := 0, a := 0 } s) b)

/-- An axis's saturation hold counts down to 0 (R141). -/
def holdEnd (r : Rot) (b : Block) : Block := setSbu (fun s => setRot r { rotOf s r with hold := 0 } s) b

/-! ### Packets (R130, R131) -/

/-- The gap of a packet (R131). -/
def packetGap (last : Option (BitVec 4)) (seq : BitVec 4) : Nat :=
  match last with
  | none => 0
  | some l => (seq - l - 1#4).toNat

/-- A complete packet (R130, R131); it restarts the gyro timer with the gyro timeout loaded last (R132, R133). -/
def gyroPacket (p : BitVec 40) (b : Block) : Block :=
  let b0 := setSbu (fun s => { s with rx := none }) b
  match b0.sbu.base with
  | .off => b0
  | base =>
    let gap := packetGap b0.sbu.lastSeq (packetSeq p)
    let b1 := setSbu (fun s => { s with lastSeq := some (packetSeq p), gyroTimer := s.gyroTimeout }) b0
    match base with
    | .gyroLost => lostPacket gap b1
    | .centering => if 4 ≤ gap then gyroLoss 1 b1 else centeringPacket (packetPitch p) (packetYaw p) b1
    | _ => if 4 ≤ gap then gyroLoss 1 b1 else activePacket gap (packetPitch p) (packetYaw p) b1

/-- The packet in reception is discarded; a new assertion of select begins a new packet (R130). -/
def gyroDiscard (reasserted : Bool) (b : Block) : Block :=
  setSbu (fun s => { s with rx := if reasserted then some 0 else none }) b

/-- The gyro timer expires (R132). -/
def gyroTimeout (b : Block) : Block :=
  if b.sbu.gyroTimer.isSome then
    let b' := setSbu (fun s => { s with gyroTimer := none }) b
    match b'.sbu.base with
    | .off => b'
    | .gyroLost => setSbu (fun s => { s with inSeq := 0 }) b'
    | _ => gyroLoss 0 b'
  else b

/-! ### Frame-end (R143) -/

/-- The peak of frame k, 0 if the window list does not hold it (R143). -/
def peakOf (s : Sbu) (k : Word) : Nat := ((s.windows.find? fun w => w.k == k).map (·.peak)).getD 0

/-- At frame-end(k) the SBU drops frame k and lower frames from its window list (R143). -/
def closeWindow (k : Word) (b : Block) : Block :=
  setSbu (fun s => { s with windows := s.windows.filter fun w => frameAbove w.k k }) b

/-! ### STAB plans (R133, R134) -/

/-- The report of a STAB plan (R133, R134). -/
def stabReport (b : Block) : Block :=
  endPlan .stab .done .ok (leBytes 4 (reportedState b.sbu).code)
    (stabArea (biasOf b.sbu.pitch) (biasOf b.sbu.yaw) b.sbu.base) b

/-- A standing pair cut into a smaller shift range (R142). -/
def cutPair (range : Nat) (s : Sbu) : Sbu :=
  let p := clamp s.pitch.s (-(range : Int)) range
  let y := clamp s.yaw.s (-(range : Int)) range
  if p = s.pitch.s ∧ y = s.yaw.s then s else sendPair p y s

/-- The SBU after the hand-over of a STAB ON plan (R133, R142). The gyro timer starts in OFF alone: one that runs already
keeps its load. -/
def stabOnState (p : StabParams) (timeout : Nat) (s : Sbu) : Sbu :=
  let s' := { s with prm := p, gyroTimeout := some timeout }
  match s.base with
  | .off => { clearRots s' with base := .centering, centering := 0, lastSeq := none, gyroTimer := some timeout }
  | .active => cutPair p.range s'
  | _ => s'

/-- The hand-over of a STAB ON plan (R133). -/
def stabOnHandOver (p : StabParams) (timeout : Nat) (b : Block) : Block :=
  stabReport (setSbu (stabOnState p timeout) b)

/-- The hand-over of a STAB OFF plan (R134). -/
def stabOffHandOver (b : Block) : Block :=
  stabReport (setCond .gyroLost false
    (setSbu (fun s => { sendPair 0 0 (clearRots s) with
      base := .off, gyroTimer := none, lastSeq := none, sample := none }) b))

end Sys2Proof.Machine
end

