-- ==== Sys2Proof/Machine/TableLoad.lean ====
section
/-!
DEFINITION. The TABLES plan (section 6.2): reading the four blocks, validation, the swap, and its abort effects.
-/

namespace Sys2Proof.Machine

/-- The zoom map unit, changed. -/
def setZmap (f : Zmap → Zmap) (b : Block) : Block := { b with zmap := f b.zmap }

/-- The read of block i of a TABLES plan (R98). -/
def blockRead (b : Block) (p : TablesParams) (i : Nat) : ReadAcc :=
  readAt b (tableBlock p i).1 (tableBlock p i).2

/-- The hand-over of a TABLES plan: the shadow copies are cleared, and the first read is issued (R97, R98). -/
def tablesHandOver (p : TablesParams) (b : Block) : Block :=
  setZmap (fun z => { z with loading := .reading p [] (blockRead b p 0) }) b

/-- The filter times of an axis after a swap (R71): a changed time is in force for the next level change to begin on each
input, and a level already being timed completes under the time before it; the next level of each input is taken as one that
is being timed (the model's choice, log 57). -/
def refilter (new : Nat) (f : FilterTimes) : FilterTimes :=
  if new = f.now then f
  else { now := new, a := f.a <|> some f.now, b := f.b <|> some f.now, ref := f.ref <|> some f.now }

/-- The filter times of both axes after a swap (R71, R75). -/
def refilterAxes (t : Tables) (b : Block) : Block :=
  { b with
    zoom := { b.zoom with filter := refilter t.zoomBlk.filter b.zoom.filter }
    focus := { b.focus with filter := refilter t.focusBlk.filter b.focus.filter } }

/-- The shadow set becomes the current one, its margin with it (R101). -/
def adoptTables (t : Tables) (b : Block) : Block :=
  refilterAxes t (setZmap (fun z => { z with tables := some t, margin := t.margin, loading := .idle }) b)

/-- The swap: the shadow set becomes current, the limits follow, and the plan reports DONE (R101). `frame` is the frame
whose frame-start carries the swap, none for an immediate one; the result fields without a value are 0 (log 63). -/
def swapTables (frame : Option Word) (b : Block) : Block :=
  match b.zmap.loading with
  | .ready t =>
    endPlan .tables .done .ok (reserved 4) (tablesArea frame.isSome (frame.getD 0) 0 0)
      (updateFocusLimits (updateZoomLimits (adoptTables t b)))
  | _ => b

/-- The plan fails and its shadow set is discarded (R98, R99). The result fields that the outcome gives no value are 0 (the
model's choice, log 63). -/
def tablesFail (o : PlanOutcome) (word : Nat) (index offset : Nat) (b : Block) : Block :=
  endPlan .tables .failed o (leBytes 4 word) (tablesArea false 0 index offset) (setZmap (fun z => { z with loading := .idle }) b)

/-- Validation of the whole shadow set (R99); a set that passes is swapped at once in STOPPED and WAITING_SYNC, else it
waits for the next frame-start (R100). -/
def validateShadow (t : Tables) (b : Block) : Block :=
  match validateTables t with
  | some (check, index) => tablesFail .badTable check index 0 b
  | none =>
    let b' := setZmap (fun z => { z with loading := .ready t }) b
    match b'.ftu.stream with
    | .stopped | .waitingSync => swapTables none b'
    | _ => b'

/-- The response to the read in flight (R98); after an abort its data are discarded (R102), and the result fields are 0, that
of a failed read too (log 63). -/
def tablesResponse (r : ReadResp) (b : Block) : Block :=
  match b.zmap.loading with
  | .reading p got acc =>
    match acc.result r with
    | .error c => tablesFail (failOutcome c) 0 0 acc.offset (memoryFault c acc.offset b)
    | .ok bs =>
      let got' := got ++ [bs]
      if got'.length < 4 then
        setZmap (fun z => { z with loading := .reading p got' (blockRead b p got'.length) }) b
      else validateShadow (parseTableSet got' p.margin) b
  | .aborted acc =>
    let b' :=
      match acc.result r with
      | .error c => memoryFault c acc.offset b
      | .ok _ => b
    endPlan .tables .cancelled .ok (reserved 4) (reserved 24) (setZmap (fun z => { z with loading := .idle }) b')
  | _ => b

/-- The abort effects of a TABLES plan: a read in flight is let complete, a set that waits is discarded (R102). The result
fields of the plan are 0 (log 63). -/
def tablesAbort (b : Block) : Block :=
  match b.zmap.loading with
  | .reading _ _ acc => setZmap (fun z => { z with loading := .aborted acc }) b
  | _ =>
    endPlan .tables .cancelled .ok (reserved 4) (reserved 24) (setZmap (fun z => { z with loading := .idle }) b)

end Sys2Proof.Machine
end

