-- ==== Sys2Proof/Machine/Timing.lean ====
section
/-!
DEFINITION. Frame timing (chapter 2) with the statistics it drives (chapter 3): lines, frame-end, frame-start, the
period capture, the stream states, and the hand-overs of STREAM plans.
-/

namespace Sys2Proof.Machine

/-- The statistics unit, changed. -/
def setStu (f : Stu → Stu) (b : Block) : Block := { b with stu := f b.stu }

/-! ### Statistics: lines (R40, R42) -/

/-- The zone geometry of a format (R37). -/
def geomOf (p : StreamParams) : Geom := { width := p.width, zw := p.width / 8, zh := p.active / 8 }

/-- The partial sum of zone column i of a line (R40). -/
def columnSum (zw : Nat) (line : List Pixel) (i : Nat) : Nat := (((line.drop (i * zw)).take zw).map BitVec.toNat).sum

/-- One focus term: the difference of two pixels, 0 when it lies below the coring threshold (R42). -/
def focusTerm (coring : Nat) (p q : Pixel) : Nat :=
  let d := max (p.toNat - q.toNat) (q.toNat - p.toNat)
  if coring ≤ d then d else 0

/-- The focus partial sum of a line over pixel indices x0 × zw to (x1 + 1) × zw − 1, from index 2 on, saturating (R42). -/
def focusSum (zw : Nat) (w : AfWindow) (coring : Nat) (line : List Pixel) : Nat :=
  let lo := max 2 (w.x0 * zw)
  let hi := (w.x1 + 1) * zw
  min Config.focusLimit (List.zipWith (focusTerm coring) ((line.drop lo).take (hi - lo)) (line.drop (lo - 2))).sum

/-- The line accumulators of active line j with its pixels as taken; none for an uncounted line (R37, R40, R42). -/
def lineAccOf (g : Geom) (l : Latched) (j : Nat) (line : List Pixel) : Option LineAcc :=
  let row := j / g.zh
  if row < 8 then
    some { row := row, sums := (List.range 8).map (columnSum g.zw line),
           focus := if l.window.y0 ≤ row ∧ row ≤ l.window.y1 then focusSum g.zw l.window l.coring line else 0 }
  else none

/-- An active line begins in the statistics unit (R40). -/
def statsLineBegin (j : Nat) (px : List Pixel) (b : Block) : Block :=
  match b.stu.geom, b.stu.latched, b.stu.frame with
  | some g, some l, some _ => setStu (fun u => { u with line := lineAccOf g l j (takeLine g.width px) }) b
  | _, _, _ => b

/-- The zone sums after a line of a zone row is added (R40). -/
def addRow (sums : List Nat) (a : LineAcc) : List Nat :=
  sums.mapIdx fun z s => if z / 8 = a.row then s + a.sums.getD (z % 8) 0 else s

/-- The line in progress ends as a completed line (R40, R42). -/
def statsLineEnd (b : Block) : Block :=
  match b.stu.line with
  | none => b
  | some a =>
    setStu (fun u => { u with
      zoneSums := addRow u.zoneSums a, focusAcc := min Config.focusLimit (u.focusAcc + a.focus), line := none }) b

/-! ### Statistics: the record (R43 to R47) -/

/-- The level of a zone with its sum (R43). -/
def zoneLevel (g : Geom) (black sum : Nat) : Nat := min 255 ((sum / (g.zw * g.zh) - black) / 16)

/-- The statistics record of the frame in progress (Table 23). -/
def statsRecord (u : Stu) (g : Geom) (l : Latched) (f : StuFrame) (lineCount cut : Bool) : StatsRecord :=
  let levels := u.zoneSums.map (zoneLevel g l.black)
  { k := f.k, levels := levels, clipped := (levels.filter fun v => decide (l.clip ≤ v)).length, focus := u.focusAcc,
    valid := !(f.untimed || lineCount || cut), untimed := f.untimed, periodJump := f.periodJump, lineCount := lineCount,
    cut := cut, old := false }

/-- Stats-ready(k) reaches its three consumers (R46). -/
def raiseStats (r : StatsRecord) (b : Block) : Block :=
  { b with
    exu := { b.exu with inbox := b.exu.inbox ++ [r] }
    afu := { b.afu with inbox := b.afu.inbox ++ [r] }
    fsu := { b.fsu with inbox := b.fsu.inbox ++ [r] } }

/-- The statistics unit at a frame-end: the record is made, and no frame is in progress any more (R41, R46). A line still
in progress is discarded (R40). -/
def statsFrameEnd (lineCount cut : Bool) (b : Block) : Block :=
  let b' := setStu (fun u => { u with frame := none, line := none }) b
  match b.stu.geom, b.stu.latched, b.stu.frame with
  | some g, some l, some f => raiseStats (statsRecord b.stu g l f lineCount cut) b'
  | _, _, _ => b'

/-- The statistics unit at frame-start(k): parameters latched, accumulators cleared (R39, R41). -/
def statsFrameStart (k : Word) (periodJump untimed : Bool) (b : Block) : Block :=
  setStu (fun u => { u with
    latched := some { black := b.exu.prm.black, clip := b.exu.prm.clip, window := u.window, coring := u.coring }
    frame := some { k := k, periodJump := periodJump, untimed := untimed }
    zoneSums := List.replicate 64 0, focusAcc := 0, line := none }) b

/-! ### Lines and frame-end (R27, R28) -/

/-- The entry of frame k becomes closing (R28, R31). -/
def closeEntry (k : Word) (b : Block) : Block :=
  setFtu (fun u => { u with pipeline := u.pipeline.map fun e => if e.k = k then { e with role := .closing } else e }) b

/-- Frame-end(k) with its marks (R28): the entry closes, stats-ready is raised, the stabilization unit hands over its two
values, and the frame store acts. -/
def raiseFrameEnd (k : Word) (lineCount cut : Bool) (b : Block) : Block :=
  let state := reportedState b.sbu
  let peak := peakOf b.sbu k
  storeFrameEnd k cut state peak
    (closeWindow k (statsFrameEnd lineCount cut
      (closeEntry k (setFtu (fun u => { u with frame := u.frame.map fun f => { f with ended := true } }) b))))

/-- Whether a frame has had an active line with fewer than W pixels, the one that is in progress and ends now included
(R27). -/
def shortLine (b : Block) (f : FrameProg) : Bool :=
  f.short || f.linePx.any fun n => decide (n < (b.ftu.fmt.map (·.width)).getD 0)

/-- The active line in progress ends at an LS or an FS (R27). -/
def endLine (b : Block) : Block :=
  match b.ftu.frame with
  | none => b
  | some f =>
    match f.linePx with
    | none => b
    | some _ =>
      storeLineEnd (statsLineEnd (setFtu (fun u => { u with
        frame := some { f with linePx := none, done := f.done + 1, short := shortLine b f } }) b))

/-- A frame in progress is cut (R28); a frame that has ended complete is not. The cut ends an active line in progress: it is
not completed (R28), and with fewer than W pixels it gives the frame LINE_COUNT beside CUT (R27, log 50). -/
def cutFrame (b : Block) : Block :=
  match b.ftu.frame with
  | none => b
  | some f =>
    let b' := if f.ended then b else raiseFrameEnd f.k (shortLine b f) true b
    setFtu (fun u => { u with frame := none }) b'

/-- The LS that begins line A_l ends the frame complete (R28). -/
def lineFrameEnd (fmt : StreamParams) (j : Nat) (b : Block) : Block :=
  match b.ftu.frame with
  | some f => if j = fmt.active ∧ f.ended = false then raiseFrameEnd f.k f.short false b else b
  | none => b

/-- The LS that begins line F − E opens the window of the next frame (R29). -/
def lineWindowOpen (fmt : StreamParams) (j : Nat) (b : Block) : Block :=
  match b.ftu.frame with
  | none => b
  | some f =>
    match entryOf b (f.k + 1) with
    | some e => if f.opened = false ∧ openLine fmt e = j then raiseWindowOpen f b else b
    | none => b

/-- An active line begins: the FTU counts its pixels and both taps take it (R27). -/
def beginLine (fmt : StreamParams) (j : Nat) (px : List Pixel) (b : Block) : Block :=
  match b.ftu.frame with
  | none => b
  | some f =>
    if j < fmt.active ∧ f.ended = false then
      storeLineBegin f.k fmt.width px
        (statsLineBegin j px (setFtu (fun u => { u with frame := some { f with linePx := some px.length } }) b))
    else b

/-- An LS pulse with the pixels of the line it begins (R27, log 16). -/
def lineSync (px : List Pixel) (b : Block) : Block :=
  match b.ftu.stream, b.ftu.fmt, b.ftu.frame with
  | .measuring, some fmt, some f | .running, some fmt, some f =>
    if fmt.lines ≤ f.ls then b
    else
      let j := f.ls
      let b1 := setFtu (fun u => { u with frame := u.frame.map fun g => { g with ls := j + 1 } }) (endLine b)
      lineWindowOpen fmt j (beginLine fmt j px (lineFrameEnd fmt j b1))
  | _, _, _ => b

/-! ### The period (R25) -/

/-- P_new at an FS: the counter's value, which holds at its limit (R25, log 17). -/
def newPeriod (u : Ftu) (count : Nat) : Nat :=
  if u.period = Config.periodLimit then Config.periodLimit else min count Config.periodLimit

/-- Whether the period has jumped (R25). -/
def periodJumps (u : Ftu) (p : Nat) : Bool :=
  match u.prevPeriod with
  | none => false
  | some q => decide (q < max (p - q) (q - p) * 8)

/-- The line time after a capture (R25). -/
def lineTimeAfter (u : Ftu) (lines p : Nat) : Nat :=
  if u.lineMeasured = false ∨ u.prevPeriod = none then p / lines
  else if periodJumps u p then u.lineTime else p / lines

/-- Whether the frame started by this FS carries PERIOD_JUMP: a previous period exists, and the line time is measured
(R25). -/
def jumpMark (u : Ftu) (p : Nat) : Bool := u.lineMeasured && periodJumps u p

/-- The period capture (R25). -/
def capturePeriod (count : Nat) (u : Ftu) : Ftu :=
  let p := newPeriod u count
  { u with
    periodRun := true, period := 0, prevPeriod := some p
    lineTime := lineTimeAfter u ((u.fmt.map (·.lines)).getD 0) p, lineMeasured := true }

/-- The period counter restarts from 0 (R24). -/
def restartPeriod (u : Ftu) : Ftu := { u with periodRun := true, period := 0 }

/-- The period counter reaches its limit and holds there (R25). -/
def periodLimit (b : Block) : Block :=
  if b.ftu.periodRun then setFtu (fun u => { u with period := Config.periodLimit }) b else b

/-! ### Frame-start (R26) -/

/-- Frame-start with its marks (R26): line counter, pipeline work, statistics, mirror rewrite, the read of Q, capture
control, and a waiting table swap before or after the rest (R100). -/
def frameStart (untimed jump swapFirst : Bool) (b : Block) : Block :=
  let k := b.ftu.frameStarts
  let b0 := if swapFirst then swapTables (some k) b else b
  let b1 := setFtu (fun u => { u with
    frameNo := k, frameStarts := k + 1
    frame := some { k := k, ls := 0, done := 0, linePx := none, short := false, ended := false, opened := false } }) b0
  let b2 := capFrameStart k jump (readQ (requestMirror (statsFrameStart k jump untimed (pipelineWork k b1))))
  if swapFirst then b2 else swapTables (some k) b2

/-- What an FS does to the frame in progress before the period capture: its line, its frame-end, its window-open (R26 to
R29). -/
def finishFrame (b : Block) : Block :=
  let b1 := endLine b
  let b2 :=
    match b1.ftu.frame with
    | some f => if f.ended then b1 else raiseFrameEnd f.k true false b1
    | none => b1
  match b2.ftu.frame with
  | some f => if f.opened = false ∧ (entryOf b2 (f.k + 1)).isSome then raiseWindowOpen f b2 else b2
  | none => b2

/-- A STREAM start plan still TAKEN ends DONE with the line time and the period measured (R21, R24). -/
def streamStarted (b : Block) : Block :=
  endPlan .streamStart .done .ok (leBytes 4 b.ftu.lineTime) (streamArea (b.ftu.prevPeriod.getD 0)) b

/-- An FS pulse (Table 15). -/
def frameSync (count : Nat) (swapFirst : Bool) (b : Block) : Block :=
  match b.ftu.stream with
  | .stopped => b
  | .waitingSync =>
    frameStart true false swapFirst
      (setFtu (fun u => { restartPeriod u with stream := .measuring, syncTimer := true }) b)
  | .measuring =>
    let b1 := finishFrame b
    let jump := jumpMark b1.ftu (newPeriod b1.ftu count)
    let b2 := setFtu (fun u => { capturePeriod count u with stream := .running, syncTimer := true }) b1
    streamStarted (frameStart true jump swapFirst b2)
  | .running =>
    let b1 := finishFrame b
    let jump := jumpMark b1.ftu (newPeriod b1.ftu count)
    frameStart false jump swapFirst (setFtu (fun u => { capturePeriod count u with syncTimer := true }) b1)
  | .lost =>
    frameStart true false swapFirst
      (setCond .syncLost false (setFtu (fun u => { restartPeriod u with stream := .measuring, syncTimer := true }) b))

/-! ### Sync loss and stop (R23, R24) -/

/-- The lists of window-opens are emptied when the stream enters STOPPED or LOST (R113, R143, R169). -/
def emptyWindowLists (b : Block) : Block :=
  { b with
    afu := { b.afu with candidates := [] }
    sbu := { b.sbu with windows := [] }
    fsu := { b.fsu with notes := [] } }

/-- The stream enters STOPPED: timer stopped, lists emptied, a waiting swap is made, a search ends (R24, R100, R124). -/
def enterStopped (b : Block) : Block :=
  searchStreamStopped (swapTables none (emptyWindowLists (setFtu (fun u => { u with stream := .stopped, syncTimer := false }) b)))

/-- A stream start that gets no sync (R21, R24): the plan fails and the pipeline is emptied. -/
def noSync (b : Block) : Block :=
  endPlan .streamStart .failed .noSync (reserved 4) (streamArea 0) (emptyPipeline (enterStopped (cutFrame b)))

/-- The stream enters LOST (R24, R155). -/
def loseStream (b : Block) : Block :=
  capStreamEnd (setCond .syncLost true
    (emptyWindowLists (setFtu (fun u => { u with stream := .lost, syncTimer := false }) (cutFrame b))))

/-- The sync timer expires (Table 15). A STREAM start plan that is finishing counts in MEASURING as one that has ended (the
model's reading, log 43). -/
def syncTimeout (b : Block) : Block :=
  if b.ftu.syncTimer then
    match b.ftu.stream with
    | .waitingSync => noSync b
    | .measuring => if planRunning b .streamStart then noSync b else loseStream b
    | .running => loseStream b
    | _ => b
  else b

/-- The stop plan completes: the pipeline is emptied, the line time is not measured, and the plan reports DONE (R23). -/
def stopComplete (b : Block) : Block :=
  let b' := setFtu (fun u => { u with lineMeasured := false, stopWaiting := false }) (emptyPipeline b)
  endPlan .streamStop .done .ok (leWord b'.ftu.frameStarts) (reserved 24) b'

/-- A stop that waits completes once the capture class is free (R23). -/
def stopIfFree (b : Block) : Block :=
  if b.ftu.stopWaiting = true ∧ classBusy b .capture = false then markDue .streamStop b else b

/-- STREAM_STOP_COMPLETE: the stop that waits completes, if the capture class is free. -/
def streamStopComplete (b : Block) : Block :=
  if b.ftu.stopWaiting = true ∧ classBusy b .capture = false then stopComplete b else b

/-- The hand-over of a STREAM stop (R23). -/
def streamStopHandOver (b : Block) : Block :=
  match b.ftu.stream with
  | .stopped => endPlan .streamStop .done .ok (leWord b.ftu.frameStarts) (reserved 24) b
  | _ =>
    let b1 := setCond .syncLost false (enterStopped (cutFrame b))
    let b2 := setFtu (fun u => { u with link := .idle, stopWaiting := true }) b1
    stopIfFree (capStreamEnd b2)

/-! ### STREAM start (R22, R69) -/

/-- The initial entries of frames 0 to L − 1 (R22). -/
def initialEntries (b : Block) (p : StreamParams) : List Entry :=
  (List.range p.latency).map fun i => initialEntry b p .acknowledged (BitVec.ofNat 32 i)

/-- X_target after a STREAM start: the X_app of the initial entries in effective mode AUTO (R22, R69). -/
def startTarget (b : Block) (p : StreamParams) : Int :=
  if effectiveMode b.exu = .auto then (initialEntry b p .acknowledged 0).xApp else b.exu.xTarget

/-- Stats-ready events not yet handled are of an ended stream: the numbers start again, and their entries are gone (R22, R33,
R47). -/
def endStats (l : List StatsRecord) : List StatsRecord := l.map fun r => { r with old := true }

/-- The hand-over of a STREAM start (R22), with the zone geometry (R37) and the exposure unit's part (R69). -/
def streamStartHandOver (p : StreamParams) (timeout : Nat) (b : Block) : Block :=
  let first := initialEntry b p .acknowledged 0
  { b with
    ftu := { b.ftu with
      fmt := some p, syncTimeout := some timeout, frameNo := 0, frameStarts := 0, frame := none, prevPeriod := none,
      lineMeasured := false, pipeline := initialEntries b p, first := some first, dueEntry := none,
      link := .waiting first.e first.g, stream := .waitingSync, syncTimer := true }
    stu := { b.stu with geom := some (geomOf p) }
    exu := { b.exu with xTarget := startTarget b p, settled := false, inbox := endStats b.exu.inbox }
    afu := { b.afu with inbox := endStats b.afu.inbox }
    fsu := { b.fsu with inbox := endStats b.fsu.inbox } }

/-! ### Metering (R55) and the due entry (R32) -/

/-- The EXU handles the oldest stats-ready it has not handled: it meters the frame or passes it over, and gives the
metering release with the result (R55, R62). The release of a frame whose entry left with the pipeline emptied is ignored
(R33). -/
def metering (b : Block) : Block :=
  match b.exu.inbox with
  | [] => b
  | r :: rest =>
    let b1 := { b with exu := { b.exu with inbox := rest } }
    if r.old then b1
    else match entryOf b1 r.k with
    | some en =>
      if r.valid && en.role == .closing then
        let x := meterFrame b1 r en
        storeMetered r.k x.lastM x.lastE (meterRelease r.k { b1 with exu := x })
      else storeMetered r.k 0 0 (meterRelease r.k b1)
    | none => storeMetered r.k 0 0 (meterRelease r.k b1)

end Sys2Proof.Machine
end

