-- ==== Sys2Proof/Machine/Chain.lean ====
section
/-!
DEFINITION. The plan engine (chapter 1): RUN, looks and their steps, refusals, takes, faults on the chain, the steps of
plan endings, the mirror rewrite, aborts, and the resets of the whole block.
-/

namespace Sys2Proof.Machine

/-- The plan engine's state, changed. -/
def setPle (f : Ple → Ple) (b : Block) : Block := { b with ple := f b.ple }

/-- The look's stage, changed. -/
def setLook (l : Look) (b : Block) : Block := { b with ple := { b.ple with look := l } }

/-! ### RUN (R6, R16) -/

/-- RUN goes from 1 to 0: the look timer stops, pending looks are dropped, and a look in progress ends after its current
step (R6). -/
def stopRun (b : Block) : Block :=
  dropDue .lookStart
    { b with
      regs := { b.regs with run := false }
      ple := { b.ple with lookTimer := false, lookPending := false, lookStop := b.ple.look != .idle } }

/-- A fault on the chain: FAULT latched, WINDOW_FAULT raised, RUN cleared, the look ended, the cursor left (R16). -/
def chainFault (code : FaultCode) (offset : Nat) (b : Block) : Block :=
  setPle (fun p => { p with look := .idle, lookStop := false }) (stopRun (memoryFault code offset b))

/-- A fault on the control block read of a RUN start, or on what it gave: as on the chain, but a look that is still in its
step finishes it (R6, R16). -/
def runStartFault (code : FaultCode) (offset : Nat) (b : Block) : Block := stopRun (memoryFault code offset b)

/-- A write of CTRL that takes RUN from 0 to 1 (R6): the host area is read if the cursor is NONE, else the look period. The
64 bytes at 0x000 in one access, and the look period's byte alone, are the model's choice (DESIGN CHOICE, log 69). -/
def startRun (b : Block) : Block :=
  if b.regs.run then b
  else
    let first := b.ple.cursor == .none
    { b with
      regs := { b.regs with run := true }
      ple := { b.ple with
        runStart := some { first := first, acc := if first then readAt b 0 64 else readAt b offLookPeriod 1 } } }

/-- A write of CTRL that takes RUN from 1 to 0 (R6). -/
def clearRun (b : Block) : Block := if b.regs.run then stopRun b else b

/-- The look timer starts and a look is requested, while RUN is still 1 (R6). -/
def startLooking (period : Nat) (b : Block) : Block :=
  let b' := setPle (fun p => { p with lookPeriod := some (max 1 period) }) b
  if b'.regs.run then requestLook (setPle (fun p => { p with lookTimer := true }) b') else b'

/-- Whether a chain start offset is a link fault (R6). -/
def badChainStart (b : Block) (x : Nat) : Bool :=
  decide (x % 64 ≠ 0) || decide (x < Config.planFloor) || !inWindow b x 64

/-- The response to the control block read of a RUN start (R6, R159). -/
def runStartResponse (r : ReadResp) (b : Block) : Block :=
  match b.ple.runStart with
  | none => b
  | some rs =>
    let b1 := setPle (fun p => { p with runStart := none }) b
    match rs.acc.result r with
    | .error c => runStartFault c rs.acc.offset b1
    | .ok bs =>
      if rs.first then
        let b2 := firstQ (releasedOf bs) b1
        let x := chainStartOf bs
        if badChainStart b2 x then runStartFault .link x b2
        else startLooking (lookPeriodOf bs) (setPle (fun p => { p with cursor := .atPlan x }) b2)
      else startLooking (u8 bs 0) b1

/-! ### Looks (R7 to R9) -/

/-- The look ends; a pending look starts (R7). -/
def endLook (b : Block) : Block :=
  let b' := setPle (fun p => { p with look := .idle, lookStop := false, lookPending := false }) b
  if b.ple.lookPending && b.regs.run then markDue .lookStart b' else b'

/-- The look issues the read of its next step, from the cursor (R8). -/
def lookStep (b : Block) : Block :=
  match b.ple.cursor with
  | .none => endLook b
  | .atPlan x => setLook (.plan x (readAt b x 64)) b
  | .afterPlan x => setLook (.next x (readAt b (x + offNext) 4)) b

/-- The look goes on with its next step, or ends if RUN was cleared meanwhile (R6, R8). -/
def goOn (b : Block) : Block := if b.ple.lookStop then endLook b else lookStep b

/-- The cursor moves and the look goes on. -/
def moveCursor (c : Cursor) (b : Block) : Block := goOn (setPle (fun p => { p with cursor := c }) b)

/-- Whether no stream runs (R3). -/
def noStream (b : Block) : Bool :=
  match b.ftu.stream with
  | .stopped | .waitingSync => true
  | _ => false

/-- A look starts (R7); while no stream runs it requests a mirror rewrite (R3). -/
def lookStart (b : Block) : Block := lookStep (if noStream b then requestMirror b else b)

/-- The look timer expires and restarts (R7). -/
def lookTimerExpiry (b : Block) : Block := if b.ple.lookTimer then requestLook b else b

/-- Whether a nonzero next value is a link fault (R9). -/
def badLink (x : Nat) : Bool := decide (x % 64 ≠ 0) || decide (x < Config.planFloor)

/-- The response to the read of a next field (R9). -/
def nextResponse (r : ReadResp) (b : Block) : Block :=
  match b.ple.look with
  | .next _ acc =>
    match acc.result r with
    | .error c => chainFault c acc.offset b
    | .ok bs =>
      let v := u32 bs 0
      if v = 0 then endLook b else if badLink v then chainFault .link v b else moveCursor (.atPlan v) b
  | _ => b

/-! ### Deciding on a plan (R10 to R14) -/

/-- A refusal starts with the outcome byte (R11). -/
def refuse (x : Nat) (notify : Bool) (o : PlanOutcome) (b : Block) : Block :=
  setLook (.refuseOutcome x notify (writeAt b (x + offOutcome) (leBytes 1 o.code))) b

/-- The TAKEN write of a plan that passed its checks (R14). -/
def writeTaken (p : PlanRec) (c : CheckVal) (b : Block) : Block :=
  setLook (.taken p c (writeAt b p.offset (leBytes 1 stateTaken))) b

/-- Whether a taken plan holds back every plan behind it: a SYNC plan does whatever its DETACHED flag (R5, R12). -/
def Taken.blocks (t : Taken) : Bool := !t.detached || t.kind == .sync

/-- Whether a plan is blocked (R12). -/
def blocked (b : Block) (p : PlanRec) : Bool :=
  b.ple.taken.any Taken.blocks || p.params.classes.any (classBusy b) ||
    (p.params.kind == .sync && !b.ple.taken.isEmpty)

/-- What a taking check answers (R13). -/
inductive Check
  | pass
  | refuse (o : PlanOutcome)
  | wait
  deriving DecidableEq, Repr

/-- Refused with an outcome unless a condition holds. -/
def require (c : Bool) (o : PlanOutcome) (rest : Check) : Check := if c then rest else .refuse o

/-- Whether a TABLES plan has succeeded since the last reset. -/
def tablesLoaded (b : Block) : Bool := b.zmap.tables.isSome

/-- The taking checks that read nothing (R21, R86, R87, R89, R111, and checks 1 and 2 of Table 51). -/
def takingCheck (b : Block) : PlanParams → Check
  | .streamStart _ => require (b.ftu.stream == .stopped) .badPlan .pass
  | .zoom _ _ | .focus _ => require (tablesLoaded b) .noTables .pass
  | .afSearch _ => require (tablesLoaded b) .noTables (require (b.ftu.stream == .running) .notStreaming .pass)
  | .reference p =>
    require (tablesLoaded b || (p.zoom.check.isSome && p.focus.check.isSome)) .badPlan .pass
  | .capture _ => require (tablesLoaded b) .noTables (require (b.ftu.stream == .running) .notStreaming .pass)
  | _ => .pass

/-- Check 3 of Table 51: pool geometry (R146). -/
def goodPool (b : Block) (p : Pool) : Bool :=
  let lineBytes := ((b.ftu.fmt.map fun f => f.active * (2 * f.width)).getD 0)
  inRange 1 32 p.n && goodOffset p.base && p.stride % 64 == 0 && decide (lineBytes ≤ p.stride)
    && decide (p.base + p.n * p.stride ≤ windowBytes b)

/-- Check 4 of Table 51: a changed pool while the host holds frames (R147). -/
def poolChangeOk (b : Block) (p : Pool) : Bool :=
  match b.fsu.pool with
  | none => true
  | some q => q == p || b.fsu.p == b.fsu.heldQ

/-- Checks 3 to 5 of Table 51 (R146). -/
def poolCheck (b : Block) (p : Pool) : Check :=
  require (goodPool b p) .badPool
    (require (poolChangeOk b p) .poolBusy (if b.zoom.state.standing then .pass else .wait))

/-- The look acts on a taking check (R13). -/
def actOn (c : Check) (p : PlanRec) (v : CheckVal) (b : Block) : Block :=
  match c with
  | .pass => writeTaken p v b
  | .refuse o => refuse p.offset p.notify o b
  | .wait => endLook b

/-- A plan that passed R11: it is blocked, or meets its taking checks (R12, R13); a CAPTURE plan that passes the first two
reads its pool then (R146, log 11). One access for the three pool fields, nine bytes at 0x008, is the model's choice: R2 and
R146 do not give the form of that read, and FAULT latches its offset when it fails (DESIGN CHOICE, log 69). -/
def judge (p : PlanRec) (v : CheckVal) (b : Block) : Block :=
  if blocked b p then endLook b
  else
    match p.params, takingCheck b p.params with
    | .capture _, .pass => setLook (.check p (readAt b offPool 9)) b
    | _, c => actOn c p v b

/-- The control block field that R11 judges with a plan's own parameters (Table 7, log 10), by its offset. That its byte is
read alone, in an access of its own, is the model's choice (DESIGN CHOICE, log 69). -/
def timeoutField : PlanParams → Option Nat
  | .streamStart _ => some offSyncTimeout
  | .stabOn _ => some offGyroTimeout
  | _ => none

/-- The response to the read of a plan (R10, R11). A timeout is read next where R11 judges one (log 10), its byte alone
(DESIGN CHOICE, log 69). -/
def planResponse (r : ReadResp) (b : Block) : Block :=
  match b.ple.look with
  | .plan x acc =>
    match acc.result r with
    | .error c => chainFault c acc.offset b
    | .ok bs =>
      if u8 bs 0 ≠ stateReady then endLook b
      else
        match parseParams bs with
        | none => refuse x (planNotify bs) .badPlan b
        | some params =>
          let p : PlanRec :=
            { offset := x, detached := planDetached bs, notify := planNotify bs, tag := planTag bs, params := params }
          match timeoutField params with
          | some o => setLook (.check p (readAt b o 1)) b
          | none => judge p .none b
  | _ => b

/-- The response to the control block read made while taking a plan (R11, R13, R146). -/
def checkResponse (r : ReadResp) (b : Block) : Block :=
  match b.ple.look with
  | .check p acc =>
    match acc.result r with
    | .error c => chainFault c acc.offset b
    | .ok bs =>
      match p.params with
      | .capture _ => actOn (poolCheck b (poolOf bs)) p (.pool (poolOf bs)) b
      | _ => if u8 bs 0 = 0 then refuse p.offset p.notify .badPlan b else judge p (.timeout (u8 bs 0)) b
  | _ => b

/-- The response to a refusal's outcome write (R11). -/
def refusalOutcomeResponse (err : Bool) (b : Block) : Block :=
  match b.ple.look with
  | .refuseOutcome x notify acc =>
    match acc.fault err with
    | some c => chainFault c acc.offset b
    | none => setLook (.refuseState x notify (writeAt b x (leBytes 1 FinalState.failed.code))) b
  | _ => b

/-- The response to a refusal's state write (R11). -/
def refusalStateResponse (err : Bool) (b : Block) : Block :=
  match b.ple.look with
  | .refuseState x notify acc =>
    match acc.fault err with
    | some c => chainFault c acc.offset b
    | none => moveCursor (.afterPlan x) (if notify then raise .planEnd b else b)
  | _ => b

/-- A TAKEN write that fails is a fault on the cursor (R14). -/
def takenWriteError (b : Block) : Block :=
  match b.ple.look with
  | .taken _ _ acc => chainFault (if acc.addr.isNone then .window else .writeError) acc.offset b
  | _ => b

/-! ### Takes (R14) -/

/-- The plan whose TAKEN write is answered, with the values its taking checks read. -/
def takenNow (b : Block) : Option (PlanRec × CheckVal) :=
  match b.ple.look with
  | .taken p v acc => if acc.addr.isSome then some (p, v) else none
  | _ => none

/-- The taken-plan entry of a plan (R5). -/
def entryOfPlan (p : PlanRec) : Taken :=
  { offset := p.offset, kind := p.params.kind, classes := p.params.classes, detached := p.detached, notify := p.notify,
    ending := .running }

/-- Whether a hand-over gives the focus axis a move (R105). -/
def movesFocus : PlanParams → Bool
  | .focus _ => true
  | .afSearch _ => true
  | _ => false

/-- The plan enters the taken-plan table with its classes (R14). -/
def enterTaken (p : PlanRec) (b : Block) : Block :=
  setPle (fun s => { s with taken := s.taken ++ [entryOfPlan p], look := .idle }) b

/-- A plan is taken: entry, tracking as its classes ask (R105), hand-over, and the look goes on behind it (R14). -/
def take (p : PlanRec) (handOver : Block → Block) (b : Block) : Block :=
  moveCursor (.afterPlan p.offset) (handOver (retrack (movesFocus p.params) (enterTaken p b)))

/-- The timeout a taking check read. -/
def CheckVal.timeoutOf : CheckVal → Nat
  | .timeout n => n
  | _ => 0

/-- The pool a taking check read. -/
def CheckVal.poolOf : CheckVal → Pool
  | .pool p => p
  | _ => { n := 0, base := 0, stride := 0 }

/-- A SYNC plan ends at once (R12, R14). -/
def syncHandOver (b : Block) : Block := endPlan .sync .done .ok (reserved 4) (reserved 24) b

/-- An EXPOSURE plan's hand-over and its report (R51). -/
def exposureTaken (p : ExpParams) (b : Block) : Block :=
  let b' := exposureHandOver p b
  endPlan .exposure .done .ok (leInt 4 b'.exu.xTarget) (reserved 24) b'

/-! ### The steps of an ending (R17, R18) -/

/-- The response to a result write of an ending (R17 step 3, R18). -/
def resultWritten (k : PlanKind) (w : ResultWrite) (err : Bool) (b : Block) : Block :=
  match takenOf b k with
  | none => b
  | some t =>
    match t.ending with
    | .results e =>
      match e.outstanding.find? (fun x => x.1 == w) with
      | none => b
      | some (_, acc) =>
        let c := acc.fault err
        let e' := { e with outstanding := e.outstanding.filter (fun x => x.1 != w), failed := e.failed <|> c }
        setEnding k (advanceEnding b t e') (memoryFault? c acc.offset b)
    | _ => b

/-- The response to the failure outcome write of an ending (R18). -/
def failOutcomeWritten (k : PlanKind) (err : Bool) (b : Block) : Block :=
  match takenOf b k with
  | none => b
  | some t =>
    match t.ending with
    | .results e =>
      match e.failWrite with
      | .outstanding acc =>
        setEnding k (advanceEnding b t { e with failWrite := .answered }) (memoryFault? (acc.fault err) acc.offset b)
      | _ => b
    | _ => b

/-- Capture control leaves ENDED when its plan's ending is written (Table 52). -/
def leaveEnded (b : Block) : Block := setCap (fun c => { c with state := .none }) b

/-- Steps 5 to 7 of an ending: the entry leaves and the classes are free, PLAN_END, a look is requested (R17); capture
control leaves ENDED (Table 52), and a stop that waits for the capture class and tracking follow (R23, R105). -/
def freePlan (t : Taken) (b : Block) : Block :=
  let b1 := setPle (fun p => { p with taken := p.taken.filter fun x => x.kind != t.kind }) b
  let b2 := if t.notify then raise .planEnd b1 else b1
  let b3 := if t.kind = .capture then leaveEnded b2 else b2
  requestLook (stopIfFree (retrack false b3))

/-- The response to the final state write of an ending (R17, R18). -/
def finalWritten (k : PlanKind) (err : Bool) (b : Block) : Block :=
  match takenOf b k with
  | none => b
  | some t =>
    match t.ending with
    | .finalWrite acc => freePlan t (memoryFault? (acc.fault err) acc.offset b)
    | _ => b

/-! ### The status mirror (R3, Table 64) -/

/-- The body of the mirror from 0x048 to 0x0FB, with values current now (R3). -/
def mirrorBody (b : Block) : List Byte :=
  leBytes 1 b.ftu.stream.code ++ reserved 3 ++ leWord b.ftu.frameNo ++ leBytes 4 b.ftu.lineTime
    ++ leInt 2 b.exu.xTarget ++ leBytes 1 b.exu.lastM ++ reserved 1 ++ leInt 2 b.exu.lastE ++ reserved 6
    ++ mirrorEntry b.ftu.pipeline.getLast?
    ++ leInt 2 (position b.zoom) ++ leBytes 1 b.zoom.state.code ++ leBytes 1 b.focus.state.code
    ++ leInt 2 (position b.focus) ++ leBytes 2 b.zmap.u ++ leBytes 1 (reportedState b.sbu).code
    ++ leBytes 1 (if b.iris.referenced then b.iris.position else 0) ++ leInt 2 b.sbu.pitch.s ++ leInt 2 b.sbu.yaw.s
    ++ reserved 126

/-- A rewrite begins: the count goes up and the head is written (R3). -/
def mirrorStart (b : Block) : Block :=
  setPle (fun p => { p with
    mirrorCount := p.mirrorCount + 1
    mirror := .head (mirrorBody b) (writeAt b offMirrorHead (leWord (p.mirrorCount + 1))) }) b

/-- The response to the head write: the body is written, with P as it stands (R3). -/
def mirrorHeadWritten (err : Bool) (b : Block) : Block :=
  match b.ple.mirror with
  | .head body acc =>
    let b' := memoryFault? (acc.fault err) acc.offset b
    setPle (fun p => { p with mirror := .body (writeAt b' offMirrorP (leWord b'.fsu.p ++ body)) }) b'
  | _ => b

/-- The response to the body write: the tail is written, and held P writes are issued (R3). -/
def mirrorBodyWritten (err : Bool) (b : Block) : Block :=
  match b.ple.mirror with
  | .body acc =>
    let b' := memoryFault? (acc.fault err) acc.offset b
    releasePWrites (setPle (fun p => { p with
      mirror := .tail (writeAt b' offMirrorTail (leWord p.mirrorCount)) }) b')
  | _ => b

/-- The response to the tail write: the rewrite is complete, endings that wait for it go on, and a pending rewrite begins
(R3, R17 step 3). -/
def mirrorTailWritten (err : Bool) (b : Block) : Block :=
  match b.ple.mirror with
  | .tail acc =>
    let b1 := memoryFault? (acc.fault err) acc.offset b
    let b2 := setPle (fun p => { p with
      mirror := .idle, rewritePending := false, taken := p.taken.map (countTail b1) }) b1
    if b1.ple.rewritePending then markDue .mirrorStart b2 else b2
  | _ => b

/-! ### ABORT (R19, Table 11) -/

/-- The abort effects of a kind, which end with its report (Table 11). -/
def abortEffects (k : PlanKind) (b : Block) : Block :=
  match k with
  | .zoom => zoomAbort b
  | .focus => focusAbort b
  | .afSearch => searchStop .cancelled .ok .ok b
  | .reference => referenceAbort b
  | .capture => capAbort b
  | .tables => tablesAbort b
  | _ => b

/-- Whether a plan's owner has decided its ending: an AF_SEARCH whose search has ended is finishing with that outcome while
it waits for its trace writes (R88, R116, R125). -/
def ownerEnded (b : Block) (k : PlanKind) : Bool :=
  match k, b.afu.search with
  | .afSearch, some s => s.ended.isSome
  | _, _ => false

/-- One bit of an ABORT write: it reaches a plan that is not finishing (R19, R125). -/
def abortClass (c : PClass) (b : Block) : Block :=
  match holderOf b c with
  | none => b
  | some t =>
    if t.ending = .running ∧ ownerEnded b t.kind = false then abortEffects t.kind (setEnding t.kind .cancelling b) else b

/-! ### Registers (R179, Table 62) -/

/-- A write of WBASE (R179). -/
def writeWbase (v : Word) (b : Block) : Block :=
  if b.regs.run then b else { b with regs := { b.regs with wbase := v.extractLsb' 12 20 } }

/-- A write of WLIMIT (R179). -/
def writeWlimit (v : Word) (b : Block) : Block :=
  if b.regs.run then b else { b with regs := { b.regs with wlimit := v.extractLsb' 0 16 } }

/-- A read of CAUSE: flags and live conditions are returned, and the flags returned are cleared (R177). -/
def readCause (b : Block) : Block :=
  { b with regs := { b.regs with readData := causeValue b.ntu }, ntu := { b.ntu with flags := 0#8 } }

/-- A write of FAULT (R178). -/
def clearFault (b : Block) : Block := { b with regs := { b.regs with fault := FaultReg.clear } }

/-- What a read of a register returns (Table 62, R179). -/
def readRegister (b : Block) : RegName → Word
  | .id => Config.idValue
  | .ctrl => if b.regs.run then 1#32 else 0#32
  | .wbase => b.regs.wbase ++ 0#12
  | .wlimit => b.regs.wlimit.setWidth 32
  | .cause => causeValue b.ntu
  | .levels => b.ntu.levels
  | .abort => 0#32
  | .fault => faultValue b.regs.fault

/-! ### Resets (R20, R94, R180, R181 and the reset rule of each chapter) -/

/-- An axis after a soft reset (R94): what can be trusted is kept, a move or search is braked, and the control period and the
filter time are those used without tables (R71, R75), also for a level that is being timed (the model's choice, log 57). -/
def softResetAxis (a : AxisUnit) : AxisUnit :=
  let a' := { a with
    filter := FilterTimes.reset, period := Config.defaultPeriod, move := none, moveTimer := none, settle := 0, stall := 0,
    supplyLow := 0, stopFaulted := false, search := none }
  match a.state with
  | .moving | .settling | .referencing =>
    { a' with state := .braking, output := .brake, braking := Config.defaultSettleTime }
  | .faulted => { a' with state := .idle }
  | _ => a'

/-- The iris after a soft reset (R94). -/
def softResetIris (i : Iris) : Iris :=
  { i with referenced := i.referenced && i.stage.isNone, steps := 0, stage := none }

/-- The block after a soft reset (R181): the window, the levels and what R94 keeps stay. -/
def softReset (b : Block) : Block :=
  { Block.reset with
    regs := { Regs.reset with wbase := b.regs.wbase, wlimit := b.regs.wlimit, readData := b.regs.readData }
    ntu := { Ntu.reset with levels := b.ntu.levels }
    zoom := softResetAxis b.zoom
    focus := softResetAxis b.focus
    iris := softResetIris b.iris
    ldu := { refPlan := none, msense := b.ldu.msense } }

end Sys2Proof.Machine
end

