-- ==== Sys2Proof/Machine/Due.lean ====
section
/-!
DEFINITION. Due steps (log 2): what each does when it is taken, and the rule that a command of another kind finds every
due step taken before it.
-/

namespace Sys2Proof.Machine

/-- What a due step does. -/
def fire (d : DueStep) (b : Block) : Block :=
  match d with
  | .lookStart => lookStart b
  | .mirrorStart => mirrorStart b
  | .dueEntry => makeDueEntry b
  | .streamStop => streamStopComplete b
  | .captureMaxWait => capMaxWait b
  | .braking ax => brakingEnd ax b
  | .settled ax => moveDone ax b
  | .stall ax => failMove ax .stall .stall b
  | .supply ax => supplyStop ax b
  | .noMotion ax => searchFail ax .refFail b
  | .centering => centeringDone b
  | .recovered => gyroRecover b
  | .pan r => panChange r b
  | .hold r => holdEnd r b

/-- A due step is taken: it is due no more, and does what it does. -/
def takeDue (d : DueStep) (b : Block) : Block := fire d (dropDue d b)

/-- At most n due steps are taken, the first one first. -/
def settleSteps : Nat → Block → Block
  | 0, b => b
  | n + 1, b =>
    match b.due with
    | [] => b
    | d :: _ => settleSteps n (takeDue d b)

/-- A bound on the due steps that follow one another before a command (log 2). -/
def settleFuel : Nat := 32

/-- The block with its due steps taken. -/
def settle (b : Block) : Block := settleSteps settleFuel b

/-- A command that changes the block by f, once the due steps are taken; the queue is not touched. -/
def act (f : Block → Block) (s : State) : Host.Outcome State Fault Refusal :=
  .next { s with toBlock := f (settle s.toBlock) }

/-- The answer to an access reaches the block: one to an access issued before the last reset is discarded (R20, R110, R129, R174, R181,
log 32). -/
def answered (late : Bool) (f : Block → Block) (b : Block) : Block := if late then b else f b

/-- The command of a due step: taken if it is due, else it has no effect (log 3). -/
def actDue (d : DueStep) (f : Block → Block) (s : State) : Host.Outcome State Fault Refusal :=
  .next { s with toBlock := if d ∈ s.due then f (dropDue d s.toBlock) else s.toBlock }

end Sys2Proof.Machine
end

