-- ==== Sys2Proof/Machine/ChainCommands.lean ====
section
/-!
DEFINITION. The commands of the plan engine (chapter 1): responses to its accesses, looks, takes, endings, and the status
mirror.
-/

namespace Sys2Proof.Machine

/-- CONTROL_BLOCK_READ_DONE (R6, R159). -/
def execControlBlockReadDone (a : ReadAnswer) (s : State) : Host.Outcome State Fault Refusal :=
  act (answered a.late (runStartResponse a.resp)) s

/-- LOOK_TIMER_EXPIRY (R7). -/
def execLookTimerExpiry (s : State) : Host.Outcome State Fault Refusal := act lookTimerExpiry s

/-- LOOK_START (R7). -/
def execLookStart (s : State) : Host.Outcome State Fault Refusal := actDue .lookStart lookStart s

/-- NEXT_FIELD_READ_DONE (R9). -/
def execNextFieldReadDone (a : ReadAnswer) (s : State) : Host.Outcome State Fault Refusal :=
  act (answered a.late (nextResponse a.resp)) s

/-- PLAN_READ_DONE (R10 to R14). -/
def execPlanReadDone (a : ReadAnswer) (s : State) : Host.Outcome State Fault Refusal :=
  act (answered a.late (planResponse a.resp)) s

/-- REFUSAL_OUTCOME_WRITE_DONE (R11). -/
def execRefusalOutcomeWriteDone (a : WriteAnswer) (s : State) : Host.Outcome State Fault Refusal :=
  act (answered a.late (refusalOutcomeResponse a.err)) s

/-- REFUSAL_STATE_WRITE_DONE (R11). -/
def execRefusalStateWriteDone (a : WriteAnswer) (s : State) : Host.Outcome State Fault Refusal :=
  act (answered a.late (refusalStateResponse a.err)) s

/-- TAKEN_WRITE_ERROR: the look's TAKEN write is answered with an error (R14, R16); the answer to a TAKEN write that a reset
forgot is no command (log 32). -/
def execTakenWriteError (s : State) : Host.Outcome State Fault Refusal :=
  act takenWriteError s

/-- TAKING_CHECK_READ_DONE (R11, R13, R146). -/
def execTakingCheckReadDone (a : ReadAnswer) (s : State) : Host.Outcome State Fault Refusal :=
  act (answered a.late (checkResponse a.resp)) s

/-! ### Takes: each acts when the look's TAKEN write, of a plan of its kind, is answered (R14); the answer to a TAKEN write that
a reset forgot is no command (log 32) -/

/-- TAKE_STREAM_START (R22, R37, R69). -/
def execTakeStreamStart (s : State) : Host.Outcome State Fault Refusal :=
  act (fun b =>
    match takenNow b with
    | some (p, v) =>
      match p.params with
      | .streamStart q => take p (streamStartHandOver q v.timeoutOf) b
      | _ => b
    | none => b) s

/-- TAKE_STREAM_STOP (R23). -/
def execTakeStreamStop (s : State) : Host.Outcome State Fault Refusal :=
  act (fun b =>
    match takenNow b with
    | some (p, _) =>
      match p.params with
      | .streamStop => take p streamStopHandOver b
      | _ => b
    | none => b) s

/-- TAKE_EXPOSURE (R51 to R53). -/
def execTakeExposure (s : State) : Host.Outcome State Fault Refusal :=
  act (fun b =>
    match takenNow b with
    | some (p, _) =>
      match p.params with
      | .exposure q => take p (exposureTaken q) b
      | _ => b
    | none => b) s

/-- TAKE_STAB_ON (R133, R142). -/
def execTakeStabOn (s : State) : Host.Outcome State Fault Refusal :=
  act (fun b =>
    match takenNow b with
    | some (p, v) =>
      match p.params with
      | .stabOn q => take p (stabOnHandOver q v.timeoutOf) b
      | _ => b
    | none => b) s

/-- TAKE_STAB_OFF (R134). -/
def execTakeStabOff (s : State) : Host.Outcome State Fault Refusal :=
  act (fun b =>
    match takenNow b with
    | some (p, _) =>
      match p.params with
      | .stabOff => take p stabOffHandOver b
      | _ => b
    | none => b) s

/-- TAKE_ZOOM (R77, R86), with the MSENSE level of its move start. -/
def execTakeZoom (m : Msense) (s : State) : Host.Outcome State Fault Refusal :=
  act (fun b =>
    match takenNow b with
    | some (p, _) =>
      match p.params with
      | .zoom t tracking => take p (zoomHandOver t tracking) (setMsense m b)
      | _ => b
    | none => b) s

/-- TAKE_FOCUS (R77, R87, R109). -/
def execTakeFocus (m : Msense) (s : State) : Host.Outcome State Fault Refusal :=
  act (fun b =>
    match takenNow b with
    | some (p, _) =>
      match p.params with
      | .focus t => take p (focusHandOver t) (setMsense m b)
      | _ => b
    | none => b) s

/-- TAKE_AF_SEARCH (R38, R112). -/
def execTakeAfSearch (m : Msense) (s : State) : Host.Outcome State Fault Refusal :=
  act (fun b =>
    match takenNow b with
    | some (p, _) =>
      match p.params with
      | .afSearch q => take p (searchHandOver q) (setMsense m b)
      | _ => b
    | none => b) s

/-- TAKE_REFERENCE (R90, R91). -/
def execTakeReference (m : Msense) (s : State) : Host.Outcome State Fault Refusal :=
  act (fun b =>
    match takenNow b with
    | some (p, _) =>
      match p.params with
      | .reference q => take p (referenceHandOver q) (setMsense m b)
      | _ => b
    | none => b) s

/-- TAKE_CAPTURE (R147, R148, R158). The hand-over looks at the stream no more: a plan taken in LOST is ARMED there (the
model's choice, log 53). -/
def execTakeCapture (s : State) : Host.Outcome State Fault Refusal :=
  act (fun b =>
    match takenNow b with
    | some (p, v) =>
      match p.params with
      | .capture q => take p (captureHandOver p.tag q v.poolOf) b
      | _ => b
    | none => b) s

/-- TAKE_TABLES (R97, R98). -/
def execTakeTables (s : State) : Host.Outcome State Fault Refusal :=
  act (fun b =>
    match takenNow b with
    | some (p, _) =>
      match p.params with
      | .tables q => take p (tablesHandOver q) b
      | _ => b
    | none => b) s

/-- TAKE_SYNC (R12). -/
def execTakeSync (s : State) : Host.Outcome State Fault Refusal :=
  act (fun b =>
    match takenNow b with
    | some (p, _) =>
      match p.params with
      | .sync => take p syncHandOver b
      | _ => b
    | none => b) s

/-! ### Endings and the mirror -/

/-- ENDING_RESULTS_WRITE_DONE (R17, R18). -/
def execEndingResultsWriteDone (k : PlanKind) (w : ResultWrite) (a : WriteAnswer) (s : State) :
    Host.Outcome State Fault Refusal := act (answered a.late (resultWritten k w a.err)) s

/-- ENDING_FAILURE_OUTCOME_WRITE_DONE (R18). -/
def execEndingFailureOutcomeWriteDone (k : PlanKind) (a : WriteAnswer) (s : State) :
    Host.Outcome State Fault Refusal := act (answered a.late (failOutcomeWritten k a.err)) s

/-- FINAL_STATE_WRITE_DONE (R17, R18). -/
def execFinalStateWriteDone (k : PlanKind) (a : WriteAnswer) (s : State) : Host.Outcome State Fault Refusal :=
  act (answered a.late (finalWritten k a.err)) s

/-- MIRROR_REWRITE_START (R3). -/
def execMirrorRewriteStart (s : State) : Host.Outcome State Fault Refusal := actDue .mirrorStart mirrorStart s

/-- MIRROR_HEAD_WRITE_DONE (R3). -/
def execMirrorHeadWriteDone (a : WriteAnswer) (s : State) : Host.Outcome State Fault Refusal :=
  act (answered a.late (mirrorHeadWritten a.err)) s

/-- MIRROR_BODY_WRITE_DONE (R3). -/
def execMirrorBodyWriteDone (a : WriteAnswer) (s : State) : Host.Outcome State Fault Refusal :=
  act (answered a.late (mirrorBodyWritten a.err)) s

/-- MIRROR_TAIL_WRITE_DONE (R3, R17). -/
def execMirrorTailWriteDone (a : WriteAnswer) (s : State) : Host.Outcome State Fault Refusal :=
  act (answered a.late (mirrorTailWritten a.err)) s

end Sys2Proof.Machine
end

