-- ==== Sys2Proof/Machine/FrameCommands.lean ====
section
/-!
DEFINITION. The commands of frames and settings (chapters 2 to 4), of the three consumers of stats-ready, and of the
frame store and capture control (chapters 9 and 10).
-/

namespace Sys2Proof.Machine

/-- FRAME_SYNC (R24 to R30). -/
def execFrameSync (count : Nat) (swapFirst : Bool) (s : State) : Host.Outcome State Fault Refusal :=
  act (frameSync count swapFirst) s

/-- LINE_SYNC (R27 to R29). -/
def execLineSync (px : List Pixel) (s : State) : Host.Outcome State Fault Refusal := act (lineSync px) s

/-- SYNC_TIMER_EXPIRY (R24). -/
def execSyncTimerExpiry (s : State) : Host.Outcome State Fault Refusal := act syncTimeout s

/-- PERIOD_COUNTER_LIMIT (R25). -/
def execPeriodCounterLimit (s : State) : Host.Outcome State Fault Refusal := act periodLimit s

/-- SETTINGS_ACK (R34). -/
def execSettingsAck (s : State) : Host.Outcome State Fault Refusal := act acknowledge s

/-- DUE_ENTRY_CREATE (R32). -/
def execDueEntryCreate (s : State) : Host.Outcome State Fault Refusal := actDue .dueEntry makeDueEntry s

/-- STREAM_STOP_COMPLETE (R23). -/
def execStreamStopComplete (s : State) : Host.Outcome State Fault Refusal := actDue .streamStop streamStopComplete s

/-- METERING (R55 to R62). -/
def execMetering (s : State) : Host.Outcome State Fault Refusal := act metering s

/-- AFU_STATS_READY (R114), with the MSENSE level of a move it may start. -/
def execAfuStatsReady (m : Msense) (s : State) : Host.Outcome State Fault Refusal :=
  act (fun b => afuHandle (setMsense m b)) s

/-- FSU_STATS_READY (R169). -/
def execFsuStatsReady (s : State) : Host.Outcome State Fault Refusal := act storeStats s

/-- CAPTURE_MAX_WAIT (R149). -/
def execCaptureMaxWait (s : State) : Host.Outcome State Fault Refusal := actDue .captureMaxWait capMaxWait s

/-- Q_READ_DONE (R160, R161). -/
def execQReadDone (a : ReadAnswer) (s : State) : Host.Outcome State Fault Refusal :=
  act (answered a.late (qResponse a.resp)) s

/-- BURST_RESPONSE (R166, R167). -/
def execBurstResponse (i : Nat) (a : WriteAnswer) (s : State) : Host.Outcome State Fault Refusal :=
  act (answered a.late (burstResponse i a.err)) s

/-- RECORD_WRITE_DONE (R170, R171). -/
def execRecordWriteDone (a : WriteAnswer) (s : State) : Host.Outcome State Fault Refusal :=
  act (answered a.late (recordResponse a.err)) s

/-- P_WRITE_DONE (R159, R170, R171). -/
def execPWriteDone (a : WriteAnswer) (s : State) : Host.Outcome State Fault Refusal :=
  act (answered a.late (pResponse a.err)) s

end Sys2Proof.Machine
end

