-- ==== Sys2Proof/Machine/LensCommands.lean ====
section
/-!
DEFINITION. The commands of the lens (chapters 5 to 7): inputs, timers, the due steps of an axis, the iris, the TABLES
reads and the trace writes.
-/

namespace Sys2Proof.Machine

/-- INPUT_FILTER_ACCEPT (R71 to R74, R90). -/
def execInputFilterAccept (ax : Axis) (pa pb ref : Option Bool) (s : State) : Host.Outcome State Fault Refusal :=
  act (filterAccept ax pa pb ref) s

/-- CONTROL_PERIOD_EXPIRY (R75, R76, R79 to R84, R90). -/
def execControlPeriodExpiry (ax : Axis) (m : Msense) (first : MoveCheck) (s : State) : Host.Outcome State Fault Refusal :=
  act (fun b => controlExpiry ax first (setMsense m b)) s

/-- BRAKING_END (R76). -/
def execBrakingEnd (ax : Axis) (s : State) : Host.Outcome State Fault Refusal := actDue (.braking ax) (brakingEnd ax) s

/-- MOVE_SETTLED (R80, R106). -/
def execMoveSettled (ax : Axis) (s : State) : Host.Outcome State Fault Refusal := actDue (.settled ax) (moveDone ax) s

/-- STALL_STOP (R81). -/
def execStallStop (ax : Axis) (s : State) : Host.Outcome State Fault Refusal :=
  actDue (.stall ax) (failMove ax .stall .stall) s

/-- SUPPLY_LOW_STOP (R84, R90). -/
def execSupplyLowStop (ax : Axis) (s : State) : Host.Outcome State Fault Refusal :=
  actDue (.supply ax) (supplyStop ax) s

/-- REF_NO_MOTION (R90). -/
def execRefNoMotion (ax : Axis) (s : State) : Host.Outcome State Fault Refusal :=
  actDue (.noMotion ax) (searchFail ax .refFail) s

/-- MOVE_TIMER_EXPIRY (R82). -/
def execMoveTimerExpiry (ax : Axis) (s : State) : Host.Outcome State Fault Refusal := act (moveTimeout ax) s

/-- PWM_PERIOD_START (R76). -/
def execPwmPeriodStart (ax : Axis) (s : State) : Host.Outcome State Fault Refusal := act (pwmStart ax) s

/-- IRIS_STEP (R91, R92), with the MSENSE level of the focus search it may start. -/
def execIrisStep (m : Msense) (s : State) : Host.Outcome State Fault Refusal :=
  act (fun b => irisStep (setMsense m b)) s

/-- TABLES_READ_DONE (R98 to R102). -/
def execTablesReadDone (a : ReadAnswer) (s : State) : Host.Outcome State Fault Refusal :=
  act (answered a.late (tablesResponse a.resp)) s

/-- TRACE_WRITE_DONE (R116). -/
def execTraceWriteDone (i : Nat) (a : WriteAnswer) (s : State) : Host.Outcome State Fault Refusal :=
  act (answered a.late (traceResponse i a.err)) s

end Sys2Proof.Machine
end

