-- ==== Sys2Proof/Machine/PortCommands.lean ====
section
/-!
DEFINITION. The commands of the reset input and the register port (chapter 11): resets, RUN, the window bounds, LEVELS,
CAUSE, FAULT, ABORT.
-/

namespace Sys2Proof.Machine

/-- POWER_ON_RESET (R180, and R20, R36, R48, R70, R93, R110, R129, R144, R157, R174). -/
def execPowerOnReset (s : State) : Host.Outcome State Fault Refusal := .next { s with toBlock := Block.reset }

/-- SOFT_RESET (R181, and R20, R36, R48, R70, R94, R110, R129, R144, R157, R174). -/
def execSoftReset (s : State) : Host.Outcome State Fault Refusal := .next { s with toBlock := softReset s.toBlock }

/-- RUN_SET (R6). -/
def execRunSet (s : State) : Host.Outcome State Fault Refusal := act startRun s

/-- RUN_CLEAR (R6). -/
def execRunClear (s : State) : Host.Outcome State Fault Refusal := act clearRun s

/-- WBASE_WRITE (R179). -/
def execWbaseWrite (v : Word) (s : State) : Host.Outcome State Fault Refusal := act (writeWbase v) s

/-- WLIMIT_WRITE (R179). -/
def execWlimitWrite (v : Word) (s : State) : Host.Outcome State Fault Refusal := act (writeWlimit v) s

/-- LEVELS_WRITE (R175 to R177). -/
def execLevelsWrite (v : Word) (s : State) : Host.Outcome State Fault Refusal :=
  act (fun b => { b with ntu := writeLevels v b.ntu }) s

/-- CAUSE_READ (R177). -/
def execCauseRead (s : State) : Host.Outcome State Fault Refusal := act readCause s

/-- FAULT_WRITE (R178): the value written does not matter. -/
def execFaultWrite (_v : Word) (s : State) : Host.Outcome State Fault Refusal := act clearFault s

/-- ABORT_ZOOM (R19). -/
def execAbortZoom (s : State) : Host.Outcome State Fault Refusal := act (abortClass .zoom) s

/-- ABORT_FOCUS (R19). -/
def execAbortFocus (s : State) : Host.Outcome State Fault Refusal := act (abortClass .focus) s

/-- ABORT_CAPTURE (R19). -/
def execAbortCapture (s : State) : Host.Outcome State Fault Refusal := act (abortClass .capture) s

/-- REGISTER_WRITE_IGNORED (R177, R179): a write to ID or CAUSE. -/
def execRegisterWriteIgnored (_r : FixedReg) (_v : Word) (s : State) : Host.Outcome State Fault Refusal :=
  act (fun b => b) s

end Sys2Proof.Machine
end

