-- ==== Sys2Proof/Machine/StabCommands.lean ====
section
/-!
DEFINITION. The commands of the gyro link and the stabilization unit (chapter 8).
-/

namespace Sys2Proof.Machine

/-- GYRO_PACKET (R130 to R142). -/
def execGyroPacket (p : BitVec 40) (s : State) : Host.Outcome State Fault Refusal := act (gyroPacket p) s

/-- GYRO_PACKET_DISCARD (R130). -/
def execGyroPacketDiscard (reasserted : Bool) (s : State) : Host.Outcome State Fault Refusal :=
  act (gyroDiscard reasserted) s

/-- GYRO_TIMER_EXPIRY (R132). -/
def execGyroTimerExpiry (s : State) : Host.Outcome State Fault Refusal := act gyroTimeout s

/-- CENTERING_DONE (R135). -/
def execCenteringDone (s : State) : Host.Outcome State Fault Refusal := actDue .centering centeringDone s

/-- GYRO_RECOVERED (R132, R135). -/
def execGyroRecovered (s : State) : Host.Outcome State Fault Refusal := actDue .recovered gyroRecover s

/-- PAN_FLAG_CHANGE (R139). -/
def execPanFlagChange (r : Rot) (s : State) : Host.Outcome State Fault Refusal := actDue (.pan r) (panChange r) s

/-- SATURATION_HOLD_END (R141). -/
def execSaturationHoldEnd (r : Rot) (s : State) : Host.Outcome State Fault Refusal := actDue (.hold r) (holdEnd r) s

end Sys2Proof.Machine
end

