-- ==== Sys2Proof/Machine/Dispatch.lean ====
section
/-! DEFINITION. The meaning of every command: one arm per constructor, each one call. -/

namespace Sys2Proof.Machine

def exec (i : Instr) (s : State) : Host.Outcome State Fault Refusal :=
  match i with
  | .powerOnReset => Sys2Proof.Machine.execPowerOnReset s
  | .softReset => Sys2Proof.Machine.execSoftReset s
  | .runSet => Sys2Proof.Machine.execRunSet s
  | .runClear => Sys2Proof.Machine.execRunClear s
  | .wbaseWrite v => Sys2Proof.Machine.execWbaseWrite v s
  | .wlimitWrite v => Sys2Proof.Machine.execWlimitWrite v s
  | .levelsWrite v => Sys2Proof.Machine.execLevelsWrite v s
  | .causeRead => Sys2Proof.Machine.execCauseRead s
  | .faultWrite v => Sys2Proof.Machine.execFaultWrite v s
  | .abortZoom => Sys2Proof.Machine.execAbortZoom s
  | .abortFocus => Sys2Proof.Machine.execAbortFocus s
  | .abortCapture => Sys2Proof.Machine.execAbortCapture s
  | .registerWriteIgnored r v => Sys2Proof.Machine.execRegisterWriteIgnored r v s
  | .controlBlockReadDone a => Sys2Proof.Machine.execControlBlockReadDone a s
  | .lookTimerExpiry => Sys2Proof.Machine.execLookTimerExpiry s
  | .lookStart => Sys2Proof.Machine.execLookStart s
  | .nextFieldReadDone a => Sys2Proof.Machine.execNextFieldReadDone a s
  | .planReadDone a => Sys2Proof.Machine.execPlanReadDone a s
  | .refusalOutcomeWriteDone a => Sys2Proof.Machine.execRefusalOutcomeWriteDone a s
  | .refusalStateWriteDone a => Sys2Proof.Machine.execRefusalStateWriteDone a s
  | .takenWriteError => Sys2Proof.Machine.execTakenWriteError s
  | .takeStreamStart => Sys2Proof.Machine.execTakeStreamStart s
  | .takeStreamStop => Sys2Proof.Machine.execTakeStreamStop s
  | .takeExposure => Sys2Proof.Machine.execTakeExposure s
  | .takeStabOn => Sys2Proof.Machine.execTakeStabOn s
  | .takeStabOff => Sys2Proof.Machine.execTakeStabOff s
  | .takeZoom m => Sys2Proof.Machine.execTakeZoom m s
  | .takeFocus m => Sys2Proof.Machine.execTakeFocus m s
  | .takeAfSearch m => Sys2Proof.Machine.execTakeAfSearch m s
  | .takeReference m => Sys2Proof.Machine.execTakeReference m s
  | .takeCapture => Sys2Proof.Machine.execTakeCapture s
  | .takeTables => Sys2Proof.Machine.execTakeTables s
  | .takeSync => Sys2Proof.Machine.execTakeSync s
  | .endingResultsWriteDone k w a => Sys2Proof.Machine.execEndingResultsWriteDone k w a s
  | .endingFailureOutcomeWriteDone k a => Sys2Proof.Machine.execEndingFailureOutcomeWriteDone k a s
  | .finalStateWriteDone k a => Sys2Proof.Machine.execFinalStateWriteDone k a s
  | .mirrorRewriteStart => Sys2Proof.Machine.execMirrorRewriteStart s
  | .mirrorHeadWriteDone a => Sys2Proof.Machine.execMirrorHeadWriteDone a s
  | .mirrorBodyWriteDone a => Sys2Proof.Machine.execMirrorBodyWriteDone a s
  | .mirrorTailWriteDone a => Sys2Proof.Machine.execMirrorTailWriteDone a s
  | .frameSync count swapFirst => Sys2Proof.Machine.execFrameSync count swapFirst s
  | .lineSync px => Sys2Proof.Machine.execLineSync px s
  | .syncTimerExpiry => Sys2Proof.Machine.execSyncTimerExpiry s
  | .periodCounterLimit => Sys2Proof.Machine.execPeriodCounterLimit s
  | .settingsAck => Sys2Proof.Machine.execSettingsAck s
  | .dueEntryCreate => Sys2Proof.Machine.execDueEntryCreate s
  | .streamStopComplete => Sys2Proof.Machine.execStreamStopComplete s
  | .metering => Sys2Proof.Machine.execMetering s
  | .afuStatsReady m => Sys2Proof.Machine.execAfuStatsReady m s
  | .fsuStatsReady => Sys2Proof.Machine.execFsuStatsReady s
  | .inputFilterAccept ax pa pb ref => Sys2Proof.Machine.execInputFilterAccept ax pa pb ref s
  | .controlPeriodExpiry ax m first => Sys2Proof.Machine.execControlPeriodExpiry ax m first s
  | .brakingEnd ax => Sys2Proof.Machine.execBrakingEnd ax s
  | .moveSettled ax => Sys2Proof.Machine.execMoveSettled ax s
  | .stallStop ax => Sys2Proof.Machine.execStallStop ax s
  | .supplyLowStop ax => Sys2Proof.Machine.execSupplyLowStop ax s
  | .refNoMotion ax => Sys2Proof.Machine.execRefNoMotion ax s
  | .moveTimerExpiry ax => Sys2Proof.Machine.execMoveTimerExpiry ax s
  | .pwmPeriodStart ax => Sys2Proof.Machine.execPwmPeriodStart ax s
  | .irisStep m => Sys2Proof.Machine.execIrisStep m s
  | .tablesReadDone a => Sys2Proof.Machine.execTablesReadDone a s
  | .traceWriteDone n a => Sys2Proof.Machine.execTraceWriteDone n a s
  | .gyroPacket p => Sys2Proof.Machine.execGyroPacket p s
  | .gyroPacketDiscard reasserted => Sys2Proof.Machine.execGyroPacketDiscard reasserted s
  | .gyroTimerExpiry => Sys2Proof.Machine.execGyroTimerExpiry s
  | .centeringDone => Sys2Proof.Machine.execCenteringDone s
  | .gyroRecovered => Sys2Proof.Machine.execGyroRecovered s
  | .panFlagChange r => Sys2Proof.Machine.execPanFlagChange r s
  | .saturationHoldEnd r => Sys2Proof.Machine.execSaturationHoldEnd r s
  | .captureMaxWait => Sys2Proof.Machine.execCaptureMaxWait s
  | .qReadDone a => Sys2Proof.Machine.execQReadDone a s
  | .burstResponse n a => Sys2Proof.Machine.execBurstResponse n a s
  | .recordWriteDone a => Sys2Proof.Machine.execRecordWriteDone a s
  | .pWriteDone a => Sys2Proof.Machine.execPWriteDone a s
  | .takingCheckReadDone a => Sys2Proof.Machine.execTakingCheckReadDone a s

end Sys2Proof.Machine
end

