-- ==== Sys2Proof/Safety.lean ====
section
/-!
DEFINITION. What counts as a good state of the block, in the terms the statements use: flags and levels agree, the
pipeline, the buffers and the lists keep their sizes, and no two plans hold one class.
-/

namespace Sys2Proof.Machine

/-- Reserved bits of LEVELS are 0 (R184), and a cause at level 0 has its flag clear (R175, R177). -/
abbrev NtuOk (n : Ntu) : Prop :=
  n.levels &&& ~~~levelsMask = 0#32 ∧ ∀ c ∈ allCauses, levelOf n c = 0 → flagOf n c = false

/-- The settings pipeline holds at most L + 1 entries (R31). -/
abbrev PipelineOk (u : Ftu) : Prop := u.pipeline.length ≤ (u.fmt.map (·.latency)).getD 0 + 1

/-- The line buffer has two places (R165), the write buffer eight (R166), and at most four window-open notes are held
(R169). -/
abbrev StoreOk (u : Fsu) : Prop :=
  u.places.length ≤ Config.lineBufferPlaces ∧ u.wbuf.length ≤ Config.writeBufferPlaces
    ∧ u.notes.length ≤ Config.listLimit

/-- The exposure window list holds at most four frames (R143). -/
abbrev WindowsOk (s : Sbu) : Prop := s.windows.length ≤ Config.listLimit

/-- The pair on the shift port: within the shift range in ACTIVE, 0, 0 in every other state (R142); a sample that waits for a
pan flag change is one of ACTIVE. -/
abbrev PairOk (s : Sbu) : Prop :=
  (s.base = .active → s.pitch.s.natAbs ≤ s.prm.range ∧ s.yaw.s.natAbs ≤ s.prm.range) ∧
  (s.base ≠ .active → s.pitch.s = 0 ∧ s.yaw.s = 0 ∧ s.sample = none)

/-- The target of an axis that runs a move lies within its soft limits: a clamp leaves it (R78). -/
abbrev TargetOk (a : AxisUnit) (l : Limits) : Prop := a.move ≠ none → clamp a.target l.lo l.hi = a.target

/-- The targets of the running moves of both axes lie within the soft limits in force (R78). -/
abbrev TargetsOk (b : Block) : Prop := TargetOk b.zoom b.zmap.zoomLim ∧ TargetOk b.focus b.zmap.focusLim

/-- The candidate list holds at most four frames (R113). -/
abbrev CandidatesOk (a : Afu) : Prop := a.candidates.length ≤ Config.listLimit

/-- The trace holds at most 32 samples (R115): a search that has not ended has room for one more before FINAL, and in FINAL
its last move runs. -/
abbrev TraceOk (a : Afu) : Prop :=
  a.trace.length ≤ Config.traceLimit ∧
  ∀ r, a.search = some r → r.ended = none →
    (r.phase = .final → r.moving = true) ∧ (r.phase ≠ .final → a.trace.length < Config.traceLimit)

/-- The classes that the look in progress has found free and is about to take (R12 to R14). -/
def lookClasses : Look → List PClass
  | .taken p _ _ => p.params.classes
  | .check p _ =>
    match p.params with
    | .capture q => (PlanParams.capture q).classes
    | _ => []
  | _ => []

/-- The classes of the taken plans (R5). -/
def takenClasses (p : Ple) : List PClass := p.taken.flatMap (·.classes)

/-- No two plans hold one class, the plan about to be taken among them (R5, R12). -/
abbrev ClassesOk (p : Ple) : Prop := (lookClasses p.look ++ takenClasses p).Nodup

/-- A good block. -/
abbrev Block.Inv (b : Block) : Prop :=
  NtuOk b.ntu ∧ PipelineOk b.ftu ∧ StoreOk b.fsu ∧ (WindowsOk b.sbu ∧ PairOk b.sbu) ∧
    (CandidatesOk b.afu ∧ TraceOk b.afu) ∧ ClassesOk b.ple ∧ TargetsOk b

/-- A step that answers a next state: neither a fault nor a refusal. -/
def Answers (s : State) : Prop := ∃ t, step s = .next t

/-- The command completes: it answers the next state whose block is b, with the queue as it was. -/
def Runs (i : Instr) (s : State) (b : Block) : Prop := exec i s = .next { s with toBlock := b }

/-- b is the block of s once its due steps are taken: what a command that is not itself a due step finds. -/
def Settles (s : State) (b : Block) : Prop := settle s.toBlock = b

/-- The state of a block with no command waiting. -/
def Block.alone (b : Block) : State := { toBlock := b, pending := [] }

/-- The commands of due steps. -/
def ownDueStep : Instr → Option DueStep
  | .lookStart => some .lookStart
  | .mirrorRewriteStart => some .mirrorStart
  | .dueEntryCreate => some .dueEntry
  | .streamStopComplete => some .streamStop
  | .captureMaxWait => some .captureMaxWait
  | .brakingEnd ax => some (.braking ax)
  | .moveSettled ax => some (.settled ax)
  | .stallStop ax => some (.stall ax)
  | .supplyLowStop ax => some (.supply ax)
  | .refNoMotion ax => some (.noMotion ax)
  | .centeringDone => some .centering
  | .gyroRecovered => some .recovered
  | .panFlagChange r => some (.pan r)
  | .saturationHoldEnd r => some (.hold r)
  | _ => none

/-- The commands that can change RUN: writes of CTRL, resets, and the responses to accesses of the chain. -/
def mayChangeRun : Instr → Bool
  | .powerOnReset | .softReset | .runSet | .runClear | .controlBlockReadDone _ | .nextFieldReadDone _
  | .planReadDone _ | .takingCheckReadDone _ | .refusalOutcomeWriteDone _ | .refusalStateWriteDone _
  | .takenWriteError => true
  | _ => false

/-- The block after a fault on the chain: FAULT latched, WINDOW_FAULT raised, RUN cleared, the look ended (R16). -/
def stoppedChain (c : FaultCode) (o : Nat) (b : Block) : Block :=
  { b with
    regs := { b.regs with run := false, fault := latchIn c o b.regs.fault }
    ntu := setFlag .windowFault b.ntu
    ple := { b.ple with look := .idle, lookStop := false, lookPending := false, lookTimer := false }
    due := b.due.filter (· ≠ .lookStart) }

/-- The block after a fault on the read of a RUN start, or on its chain start: as on the chain, but a look still in its step
finishes it (R6, R16). -/
def stoppedRun (c : FaultCode) (o : Nat) (b : Block) : Block :=
  { b with
    regs := { b.regs with run := false, fault := latchIn c o b.regs.fault }
    ntu := setFlag .windowFault b.ntu
    ple := { b.ple with
      runStart := none, lookTimer := false, lookPending := false, lookStop := decide (b.ple.look ≠ .idle) }
    due := b.due.filter (· ≠ .lookStart) }

end Sys2Proof.Machine
end

