-- ==== Sys2Proof/Certificates/Slice0/Obligations.lean ====
section
/-!
DEFINITION. The statements for the provers. `Runs i s b`: the command i, run in s, answers the next state with block b and the
queue as it was; `Settles s b`: b is the block of s with its due steps taken. An equation that gives the next block as
`{ b with … }` also says what the command leaves unchanged.
-/

open Sys2Proof Sys2Proof.Machine


/-! ### The queue -/

/-- A step takes the command at the front of the queue and runs it on the rest of the queue. On an empty queue the block
idles (the model's choice, log 4). -/
def Obligations.StepRunsFrontCommand : Prop :=
  (∀ (s : State) (c : Instr) (rest : List Instr),
     s.pending = c :: rest → step s = exec c { s with pending := rest }) ∧
  (∀ s : State, s.pending = [] → step s = .next s)

/-- Every command completes in every state, and only takes itself off the queue: no command is refused, none stops the
block, and the commands that wait behind it stay as they are. That no command ends in a fault or a refusal is the model's
reading of the spec (log 36). -/
def Obligations.EveryCommandCompletes : Prop :=
  ∀ (i : Instr) (s : State), ∃ b : Block, Runs i s b

/-- A due step is taken by its own command only while it is due, and is due no more when the command starts (the model's
choice, logs 2 and 3): the command of a step that is not due changes nothing. A command that is no due step and no reset
finds every due step taken before it (the model's choice, log 2). -/
def Obligations.DueStepsTaken : Prop :=
  (∀ (i : Instr) (d : DueStep) (s : State), ownDueStep i = some d →
     (d ∉ s.due → Runs i s s.toBlock) ∧ (d ∈ s.due → Runs i s (fire d (dropDue d s.toBlock)))) ∧
  (∀ (i : Instr) (s : State) (b : Block), ownDueStep i = none → i ≠ .powerOnReset → i ≠ .softReset →
     Settles s b → b.due = [] → ∃ c : Block, Runs i s c ∧ Runs i { s with toBlock := b } c)

/-! ### Resets -/

/-- Power-on reset sets every register field to 0 (R180); IRQ is deasserted and IRQL 0, ID reads its fixed value, no
condition is true; and a RUN set before the window is written reads the control block with a window fault, which clears RUN
again (R16). The model's choices in it: that this read is one of 64 bytes at 0x000, so that FAULT holds offset 0 (log 69);
that the fault comes at the step of the read's response (log 6); and, in the block that the reset leaves, the values that the
spec does not state (log 30). -/
def Obligations.PowerOnResetRegisters : Prop :=
  ∀ s : State,
    Runs .powerOnReset s Block.reset ∧
    Block.reset.regs.run = false ∧ Block.reset.regs.wbase = 0#20 ∧ Block.reset.regs.wlimit = 0#16 ∧
    Block.reset.ntu.levels = 0#32 ∧ Block.reset.ntu.flags = 0#8 ∧
    Block.reset.regs.fault = { code := .none, offset := 0#28, more := false } ∧
    readRegister Block.reset .id = 0x4C580401#32 ∧
    irq Block.reset.ntu = false ∧ irql Block.reset.ntu = 0 ∧
    (∀ c : Cond, condOf Block.reset.ntu c = false) ∧
    ∀ r : ReadResp, ∃ b1 b2 : Block,
      Runs .runSet { s with toBlock := Block.reset } b1 ∧ b1.regs.run = true ∧
      Runs (.controlBlockReadDone ⟨false, r⟩) { s with toBlock := b1 } b2 ∧ b2.regs.run = false ∧
      b2.regs.fault = { code := .window, offset := 0#28, more := false }

/-- A soft reset clears RUN, the flags, the conditions and FAULT, keeps WBASE, WLIMIT and LEVELS, and puts every block
into its soft reset state: only what the lens drive unit keeps (R94) and the levels of the pins stay. On an axis the
settle, stall and supply-low counts are 0, the control period is 20 and the encoder filter time 4 (R75, R71), a move or
search is braked for 8 periods, and BRAKING ends in IDLE or UNREFERENCED, not in FAULTED. What the spec gives no value for
(the value last read from CAUSE, the MSENSE level, an axis's last position, its output in force) stays (the model's
choice, log 30), and a level that is being timed is timed by the 4 too (log 57). -/
def Obligations.SoftResetState : Prop :=
  ∀ s : State, ∃ z f : AxisUnit, ∃ i : Iris, ∃ l : Ldu,
    Runs .softReset s
      { Block.reset with
        regs := { s.regs with run := false, fault := { code := .none, offset := 0#28, more := false } }
        ntu := { flags := 0#8, levels := s.ntu.levels, slotWait := false, gyroLost := false, syncLost := false }
        zoom := z, focus := f, iris := i, ldu := l } ∧
    i.position = s.iris.position ∧ i.cTravel = s.iris.cTravel ∧ i.steps = 0 ∧ i.stage = none ∧
    (i.referenced = true ↔ s.iris.referenced = true ∧ s.iris.stage = none) ∧
    l = { refPlan := none, msense := s.ldu.msense } ∧
    ∀ p ∈ [(s.zoom, z), (s.focus, f)],
      p.2.counter = p.1.counter ∧ p.2.refCount = p.1.refCount ∧ p.2.refOffset = p.1.refOffset ∧
      p.2.referenced = p.1.referenced ∧ p.2.target = p.1.target ∧ p.2.phaseA = p.1.phaseA ∧ p.2.phaseB = p.1.phaseB ∧
      p.2.refLevel = p.1.refLevel ∧ p.2.move = none ∧ p.2.moveTimer = none ∧ p.2.search = none ∧
      p.2.settle = 0 ∧ p.2.stall = 0 ∧ p.2.supplyLow = 0 ∧ p.2.stopFaulted = false ∧ p.2.period = 20 ∧
      p.2.filter = { now := 4, a := none, b := none, ref := none } ∧
      p.2.lastPos = p.1.lastPos ∧ p.2.inForce = p.1.inForce ∧
      (p.1.state ∈ [.moving, .settling, .referencing] →
        p.2.state = .braking ∧ p.2.output = .brake ∧ p.2.braking = 8) ∧
      (p.1.state ∈ [.unreferenced, .idle, .braking] →
        p.2.state = p.1.state ∧ p.2.output = p.1.output ∧ p.2.braking = p.1.braking) ∧
      (p.1.state = .faulted → p.2.state = .idle ∧ p.2.output = p.1.output ∧ p.2.braking = p.1.braking) ∧
      afterBraking p.2 ≠ .faulted

/-! ### RUN -/

/-- RUN_SET: with RUN 0 it sets RUN and reads the whole host area while the cursor is NONE, and the look period alone
otherwise; with RUN 1 it changes nothing. A read of an earlier RUN start that is still outstanding is replaced by the new
one (the model's choice, log 8). The host area is read in one access of 64 bytes at 0x000, the look period in one of its one
byte at 0x011 (the model's choice, log 69). -/
def Obligations.RunSetReadsControlBlock : Prop :=
  ∀ (s : State) (b : Block), Settles s b →
    (b.regs.run = true → Runs .runSet s b) ∧
    (b.regs.run = false → b.ple.cursor = .none →
      Runs .runSet s { b with
        regs := { b.regs with run := true }
        ple := { b.ple with runStart := some { first := true, acc := readAt b 0 64 } } }) ∧
    (b.regs.run = false → b.ple.cursor ≠ .none →
      Runs .runSet s { b with
        regs := { b.regs with run := true }
        ple := { b.ple with runStart := some { first := false, acc := readAt b 0x011 1 } } })

/-- RUN_CLEAR: with RUN 1 it stops the look timer, clears a pending look and lets a look in progress end after its current
step; taken plans, the cursor and everything else stay. With RUN 0 it changes nothing. -/
def Obligations.RunClearStopsLooks : Prop :=
  ∀ (s : State) (b : Block), Settles s b →
    (b.regs.run = false → Runs .runClear s b) ∧
    (b.regs.run = true →
      Runs .runClear s { b with
        regs := { b.regs with run := false }
        ple := { b.ple with lookTimer := false, lookPending := false, lookStop := decide (b.ple.look ≠ .idle) }
        due := b.due.filter (· ≠ .lookStart) })

/-! ### The other registers -/

/-- WBASE and WLIMIT are written while RUN is 0, WBASE with its low 12 bits ignored and WLIMIT with its low 16 bits taken;
while RUN is 1 a write of either changes nothing. -/
def Obligations.WindowRegisterWrites : Prop :=
  ∀ (s : State) (b : Block) (v : Word), Settles s b →
    (b.regs.run = true → Runs (.wbaseWrite v) s b ∧ Runs (.wlimitWrite v) s b) ∧
    (b.regs.run = false →
      Runs (.wbaseWrite v) s { b with regs := { b.regs with wbase := v.extractLsb' 12 20 } } ∧
      Runs (.wlimitWrite v) s { b with regs := { b.regs with wlimit := v.extractLsb' 0 16 } })

/-- No command but POWER_ON_RESET, WBASE_WRITE and WLIMIT_WRITE changes the window bounds. No other command changes RUN: a
fault on an ending, on the mirror or of another block leaves it set. -/
def Obligations.WindowAndRunFrame : Prop :=
  (∀ (i : Instr) (s t : State), i ≠ .powerOnReset → (∀ v, i ≠ .wbaseWrite v) → (∀ v, i ≠ .wlimitWrite v) →
     exec i s = .next t → t.regs.wbase = s.regs.wbase ∧ t.regs.wlimit = s.regs.wlimit) ∧
  (∀ (i : Instr) (s t : State), mayChangeRun i = false → exec i s = .next t → t.regs.run = s.regs.run)

/-- What each register reads. R177, the pins: IRQ is asserted while a flag is set; IRQL is the greatest level among the set
flags, 0 with none. -/
def Obligations.RegisterAndPinReads : Prop :=
  (∀ b : Block,
     readRegister b .id = 0x4C580401#32 ∧
     readRegister b .ctrl = (if b.regs.run then 1#32 else 0#32) ∧
     (readRegister b .wbase).extractLsb' 12 20 = b.regs.wbase ∧ (readRegister b .wbase).extractLsb' 0 12 = 0#12 ∧
     (readRegister b .wlimit).toNat = b.regs.wlimit.toNat ∧
     readRegister b .cause = b.ntu.flags.setWidth 32 ||| liveView b.ntu ∧
     readRegister b .levels = b.ntu.levels ∧
     readRegister b .abort = 0#32 ∧
     (readRegister b .fault).extractLsb' 0 28 = b.regs.fault.offset ∧
     ((readRegister b .fault).extractLsb' 28 3).toNat = b.regs.fault.code.code ∧
     (readRegister b .fault).getLsbD 31 = b.regs.fault.more) ∧
  (∀ n : Ntu,
     (irq n = true ↔ ∃ c : Cause, flagOf n c = true) ∧
     (∀ c : Cause, flagOf n c = true → levelOf n c ≤ irql n) ∧
     (irq n = true → ∃ c : Cause, flagOf n c = true ∧ irql n = levelOf n c) ∧
     (irq n = false → irql n = 0))

/-! ### Notification -/

/-- R175: raising an event cause at level 1 or more sets its flag; at level 0 nothing is kept, and no later write of LEVELS
brings it back; the FAULT latching that goes with a cause is made at every level. -/
def Obligations.EventCauseSetsFlag : Prop :=
  ∀ (b : Block) (c : Cause),
    levelOf b.ntu c ≤ 7 ∧
    (levelOf b.ntu c ≠ 0 →
      flagOf (raise c b).ntu c = true ∧ raise c (raise c b) = raise c b ∧
      (∀ d, d ≠ c → flagOf (raise c b).ntu d = flagOf b.ntu d)) ∧
    (levelOf b.ntu c = 0 → raise c b = b) ∧
    ((∀ x : Cond, x.cause ≠ c) → flagOf b.ntu c = false → ∀ v : Word, flagOf (writeLevels v b.ntu) c = false) ∧
    (∀ (code : FaultCode) (o : Nat), (memoryFault code o b).regs.fault = latchIn code o b.regs.fault)

/-- R176: a condition sets its flag when it becomes true, or when its level is written from 0 to another value while it is
true; nothing else about it sets the flag, and becoming false leaves the flag. -/
def Obligations.ConditionCauseSetsFlag : Prop :=
  ∀ (b : Block) (c : Cond),
    (∀ v : Bool, condOf (setCond c v b).ntu c = v) ∧
    (condOf b.ntu c = false → levelOf b.ntu c.cause ≠ 0 → flagOf (setCond c true b).ntu c.cause = true) ∧
    (condOf b.ntu c = false → levelOf b.ntu c.cause = 0 → (setCond c true b).ntu.flags = b.ntu.flags) ∧
    (setCond c false b).ntu.flags = b.ntu.flags ∧
    (condOf b.ntu c = true → (setCond c true b).ntu.flags = b.ntu.flags) ∧
    (∀ v : Word, levelIn v c.cause ≠ 0 → levelOf b.ntu c.cause = 0 → condOf b.ntu c = true →
      flagOf (writeLevels v b.ntu) c.cause = true) ∧
    (∀ v : Word, levelIn v c.cause ≠ 0 → levelOf b.ntu c.cause ≠ 0 →
      flagOf (writeLevels v b.ntu) c.cause = flagOf b.ntu c.cause) ∧
    (∀ v : Word, levelIn v c.cause ≠ 0 → levelOf b.ntu c.cause = 0 → condOf b.ntu c = false →
      flagOf (setCond c true { b with ntu := writeLevels v b.ntu }).ntu c.cause = true ∧
      flagOf (writeLevels v (setCond c true b).ntu) c.cause = true)

/-- LEVELS_WRITE: the eight levels are taken at any time; a flag whose level becomes 0 is cleared, a flag is set where its
level leaves 0 while its condition is true, and every other flag stays. Nothing else changes. CAUSE_READ returns the flags
as they stand with the live condition view, and clears exactly the flags; a write to CAUSE or to ID is ignored. -/
def Obligations.LevelsAndCauseAccess : Prop :=
  (∀ (s : State) (b : Block) (v : Word), Settles s b →
     ∃ f : BitVec 8,
       Runs (.levelsWrite v) s { b with ntu := { b.ntu with levels := v &&& 0x77777777#32, flags := f } } ∧
       ∀ c : Cause,
         f.getLsbD c.bit = true ↔
           levelIn v c ≠ 0 ∧
             (flagOf b.ntu c = true ∨ (levelOf b.ntu c = 0 ∧ ∃ x : Cond, x.cause = c ∧ condOf b.ntu x = true))) ∧
  (∀ (s : State) (b : Block), Settles s b →
     Runs .causeRead s { b with
       regs := { b.regs with
         readData := b.ntu.flags.setWidth 32 |||
           ((if b.ntu.slotWait then 0x100#32 else 0#32) ||| (if b.ntu.gyroLost then 0x200#32 else 0#32) |||
             (if b.ntu.syncLost then 0x400#32 else 0#32)) }
       ntu := { b.ntu with flags := 0#8 } } ∧
     ∀ (r : FixedReg) (v : Word), Runs (.registerWriteIgnored r v) s b)

/-- R178: the first fault is latched with the low 28 bits of its offset, later ones set MORE alone; a write of any value to
FAULT clears it, and each reset does; latching changes no flag. -/
def Obligations.FaultRegisterHoldsFirst : Prop :=
  (∀ (b : Block) (c : FaultCode) (o : Nat),
    (b.regs.fault.code = .none →
      (latchFault c o b).regs.fault = { code := c, offset := BitVec.ofNat 28 o, more := false }) ∧
    (b.regs.fault.code ≠ .none → (latchFault c o b).regs.fault = { b.regs.fault with more := true }) ∧
    (latchFault c o b).ntu = b.ntu) ∧
  (∀ o : Nat, o < 65535 * 4096 → (BitVec.ofNat 28 o).toNat = o) ∧
  (∀ (s : State) (b : Block) (v : Word), Settles s b →
    Runs (.faultWrite v) s
      { b with regs := { b.regs with fault := { code := .none, offset := 0#28, more := false } } }) ∧
  (∀ (b : Block) (c : FaultCode) (o : Nat),
    (clearFault (memoryFault c o b)).regs.fault = { code := .none, offset := 0#28, more := false } ∧
    (clearFault (memoryFault c o b)).ntu = (memoryFault c o b).ntu ∧
    (latchFault c o (clearFault b)).regs.fault = { code := c, offset := BitVec.ofNat 28 o, more := false }) ∧
  ∀ s : State,
    (∃ b, Runs .powerOnReset s b ∧ b.regs.fault = { code := .none, offset := 0#28, more := false }) ∧
    ∃ b, Runs .softReset s b ∧ b.regs.fault = { code := .none, offset := 0#28, more := false }

/-! ### ABORT -/

/-- A bit of ABORT finds no plan that holds its class, or one that is finishing, or an AF_SEARCH whose search has ended
and waits for its trace writes alone (log 48): it has no effect and is not remembered. ABORT of a ZOOM or FOCUS plan whose
move runs: the axis is braked, and the plan's ending begins, CANCELLED with outcome OK, the position at the abort, and the
target as it stands then (the model's choice, log 61). ABORT of a CAPTURE plan, by any bit whose class it holds: while a
slot is FILLING the plan drains, and its frame goes on; with none FILLING its ending begins CANCELLED at once, a frame
that waits for a slot is withdrawn and counted nowhere (the model's choice, log 66), the capture lock and SLOT_WAIT are
cleared, and capture control is ENDED. ABORT of an AF_SEARCH plan: its move is braked and the search ends CANCELLED,
reported once no trace write is in flight. ABORT of a REFERENCE plan: a search in progress is braked, an iris stage leaves
the iris unreferenced, and the ending begins CANCELLED. ABORT of a TABLES plan: a read in flight is let complete (log 24),
a set that waits for its swap is dropped and the ending begins CANCELLED, with result fields of 0 (the model's choice, log
63). -/
def Obligations.AbortEffects : Prop :=
  (∀ (s : State) (b : Block) (i : Instr) (c : PClass), Settles s b →
     (i, c) ∈ [(Instr.abortZoom, PClass.zoom), (.abortFocus, .focus), (.abortCapture, .capture)] →
     (holderOf b c = none ∨
       ∃ t, holderOf b c = some t ∧
         (t.ending ≠ .running ∨ t.kind = .afSearch ∧ ∃ r, b.afu.search = some r ∧ r.ended ≠ none)) →
     Runs i s b) ∧
  (∀ (s : State) (b : Block) (t : Taken) (m : Move), Settles s b → t.ending = .running →
     (holderOf b .zoom = some t → t.kind = .zoom → takenOf b .zoom = some t → b.zoom.move = some m →
       Runs .abortZoom s
         (startEnding t .cancelled .ok (leInt 4 (position b.zoom)) (moveArea b.zoom.target .ok m.expiries 0)
           { b with zoom := { b.zoom with
               state := .braking, output := .brake, braking := settleTimeOf b .zoom, stopFaulted := false, move := none,
               moveTimer := none, search := none } })) ∧
     (holderOf b .focus = some t → t.kind = .focus → takenOf b .focus = some t → b.focus.move = some m →
       b.focus.state ≠ .idle →
       Runs .abortFocus s
         (startEnding t .cancelled .ok (leInt 4 (position b.focus)) (moveArea b.focus.target .ok m.expiries b.zmap.u)
           { b with focus := { b.focus with
               state := .braking, output := .brake, braking := settleTimeOf b .focus, stopFaulted := false, move := none,
               moveTimer := none, search := none } }))) ∧
  (∀ (s : State) (b : Block) (i : Instr) (c : PClass) (t : Taken), Settles s b →
     (i, c) ∈ [(Instr.abortZoom, PClass.zoom), (.abortFocus, .focus), (.abortCapture, .capture)] →
     holderOf b c = some t → t.ending = .running → t.kind = .capture → takenOf b .capture = some t →
     (b.cap.filling = true →
       Runs i s { b with
         cap := { b.cap with state := .draining }
         ple := { b.ple with
           taken := b.ple.taken.map fun x => if x.kind = .capture then { x with ending := .cancelling } else x } }) ∧
     (b.cap.filling = false → (∀ f, b.fsu.cur = some f → f.slot = none) →
       ∃ (b' : Block) (e : EndingProg),
         Runs i s b' ∧ b'.cap.state = .ended ∧ b'.exu = { b.exu with lock := false } ∧
         b'.ntu = { b.ntu with slotWait := false } ∧ b'.regs = b.regs ∧ b'.ftu = b.ftu ∧
         b'.cap.skipSlot = b.cap.skipSlot ∧ b'.cap.skipOther = b.cap.skipOther ∧
         (b.fsu.cur = none → b'.fsu = b.fsu) ∧
         (b.fsu.cur ≠ none →
           b'.fsu = { b.fsu with
             cur := none, line := none, places := [], overrun := false
             qReads := b.fsu.qReads.map fun q => { q with request := none } }) ∧
         takenOf b' .capture = some { t with ending := .results e } ∧ e.fin = .cancelled ∧
         (ResultWrite.outcome, writeAt b (t.offset + 3) [0#8]) ∈ e.outstanding ∧
         (ResultWrite.word, writeAt b (t.offset + 12) (leWord b.cap.stored)) ∈ e.outstanding)) ∧
  (∀ (s : State) (b : Block) (i : Instr) (c : PClass) (t : Taken), Settles s b →
     (i, c) ∈ [(Instr.abortZoom, PClass.zoom), (.abortFocus, .focus), (.abortCapture, .capture)] →
     holderOf b c = some t → t.ending = .running → takenOf b t.kind = some t →
     let stopped := fun (ax : Axis) =>
       { axisOf b ax with
         state := .braking, output := .brake, braking := settleTimeOf b ax, stopFaulted := false, move := none,
         moveTimer := none, search := none }
     (∀ r, t.kind = .afSearch → b.afu.search = some r → r.ended = none →
       ∃ b' : Block,
         Runs i s b' ∧ b'.zoom = b.zoom ∧ b'.regs = b.regs ∧ b'.ntu = b.ntu ∧
         ((∃ m, b.focus.move = some m ∧ m.giver = .search) → b'.focus = stopped .focus) ∧
         ((∀ m, b.focus.move = some m → m.giver ≠ .search) → b'.focus = b.focus) ∧
         (b.afu.writes ≠ [] →
           b'.afu.search = some { r with moving := false, ended := some (.cancelled, .ok, .ok) } ∧
           takenOf b' .afSearch = some { t with ending := .cancelling }) ∧
         (b.afu.writes = [] →
           b'.afu.search = none ∧
           ∃ e, takenOf b' .afSearch = some { t with ending := .results e } ∧ e.fin = .cancelled ∧
             (ResultWrite.outcome, writeAt b (t.offset + 3) [0#8]) ∈ e.outstanding ∧
             (ResultWrite.word, writeAt b (t.offset + 12) (leInt 4 (position b.focus))) ∈ e.outstanding)) ∧
     (∀ r, t.kind = .reference → b.ldu.refPlan = some r →
       ∃ (b' : Block) (e : EndingProg),
         Runs i s b' ∧ b'.regs = b.regs ∧ b'.ntu = b.ntu ∧ b'.ldu.refPlan = none ∧
         b'.zoom = (if b.zoom.search.isSome then stopped .zoom else b.zoom) ∧
         b'.focus = (if b.focus.search.isSome then stopped .focus else b.focus) ∧
         b'.iris = (if b.iris.stage.isSome then { b.iris with referenced := false, stage := none } else b.iris) ∧
         takenOf b' .reference = some { t with ending := .results e } ∧ e.fin = .cancelled ∧
         (ResultWrite.outcome, writeAt b (t.offset + 3) [0#8]) ∈ e.outstanding ∧
         (ResultWrite.word, writeAt b (t.offset + 12) (leInt 4 (position b.zoom))) ∈ e.outstanding) ∧
     (∀ p got acc, t.kind = .tables → b.zmap.loading = .reading p got acc →
       Runs i s { b with
         zmap := { b.zmap with loading := .aborted acc }
         ple := { b.ple with
           taken := b.ple.taken.map fun x => if x.kind = .tables then { x with ending := .cancelling } else x } }) ∧
     (∀ new, t.kind = .tables → b.zmap.loading = .ready new →
       Runs i s
         (startEnding t .cancelled .ok (List.replicate 4 0#8) (List.replicate 24 0#8)
           { b with zmap := { b.zmap with loading := .idle } })))

/-! ### The memory port -/

/-- R1, the window check: an access is issued at WBASE + offset when offset plus length is at most WLIMIT × 4096; otherwise
it is not issued and what the block gets back is a window fault, whatever stands on the port (that the fault comes at the
step of the response is the model's choice, log 6, and the sum is not wrapped, log 7). -/
def Obligations.WindowCheck : Prop :=
  ∀ (b : Block) (o n : Nat) (bytes : List Byte),
    (o + n ≤ b.regs.wlimit.toNat * 4096 →
      (readAt b o n).addr = some (b.regs.wbase.toNat * 4096 + o) ∧ (readAt b o n).result .error = .error .readError ∧
      (∀ bs, (readAt b o n).result (.data bs) = .ok bs)) ∧
    (b.regs.wlimit.toNat * 4096 < o + n →
      (readAt b o n).addr = none ∧ ∀ r, (readAt b o n).result r = .error .window) ∧
    (o + bytes.length ≤ b.regs.wlimit.toNat * 4096 →
      (writeAt b o bytes).addr = some (b.regs.wbase.toNat * 4096 + o) ∧ (writeAt b o bytes).fault false = none ∧
      (writeAt b o bytes).fault true = some .writeError) ∧
    (b.regs.wlimit.toNat * 4096 < o + bytes.length →
      (writeAt b o bytes).addr = none ∧ ∀ err, (writeAt b o bytes).fault err = some .window)

/-! ### The chain -/

/-- A fault on the chain: FAULT is latched, WINDOW_FAULT raised, RUN cleared and the look ended; the cursor, the taken plans
and every other unit stay. It holds for a failed read of a look, a failed write of a refusal or of TAKEN (a window fault on
these writes counts as one: the model's reading, log 12) and a bad link. A failed read of a RUN start does the same, but a
look that is still in its step may finish it; so does a bad chain start (a multiple of 64, at 0x1000 or above, with room for
64 bytes in the window is a good one: the model's reading, log 9), at which P and Q are taken all the same (log 9). -/
def Obligations.ChainFaultStopsChain : Prop :=
  ∀ (s : State) (b : Block) (c : FaultCode), Settles s b →
    (∀ (r : ReadResp) (rs : RunStart), b.ple.runStart = some rs → rs.acc.result r = .error c →
      Runs (.controlBlockReadDone ⟨false, r⟩) s (stoppedRun c rs.acc.offset b)) ∧
    (∀ (r : ReadResp) (x : Nat) (acc : ReadAcc), b.ple.look = .next x acc → acc.result r = .error c →
      Runs (.nextFieldReadDone ⟨false, r⟩) s (stoppedChain c acc.offset b)) ∧
    (∀ (r : ReadResp) (x : Nat) (acc : ReadAcc), b.ple.look = .plan x acc → acc.result r = .error c →
      Runs (.planReadDone ⟨false, r⟩) s (stoppedChain c acc.offset b)) ∧
    (∀ (r : ReadResp) (p : PlanRec) (acc : ReadAcc), b.ple.look = .check p acc → acc.result r = .error c →
      Runs (.takingCheckReadDone ⟨false, r⟩) s (stoppedChain c acc.offset b)) ∧
    (∀ (err : Bool) (x : Nat) (n : Bool) (acc : WriteAcc), b.ple.look = .refuseOutcome x n acc →
      acc.fault err = some c → Runs (.refusalOutcomeWriteDone ⟨false, err⟩) s (stoppedChain c acc.offset b)) ∧
    (∀ (err : Bool) (x : Nat) (n : Bool) (acc : WriteAcc), b.ple.look = .refuseState x n acc →
      acc.fault err = some c → Runs (.refusalStateWriteDone ⟨false, err⟩) s (stoppedChain c acc.offset b)) ∧
    (∀ (p : PlanRec) (v : CheckVal) (acc : WriteAcc), b.ple.look = .taken p v acc → acc.fault true = some c →
      Runs .takenWriteError s (stoppedChain c acc.offset b)) ∧
    (∀ (x : Nat) (acc : ReadAcc) (bs : List Byte), b.ple.look = .next x acc → acc.addr ≠ none → u32 bs 0 ≠ 0 →
      (u32 bs 0 % 64 ≠ 0 ∨ u32 bs 0 < 0x1000) →
      Runs (.nextFieldReadDone ⟨false, .data bs⟩) s (stoppedChain .link (u32 bs 0) b)) ∧
    (∀ (rs : RunStart) (bs : List Byte), b.ple.runStart = some rs → rs.first = true → rs.acc.addr ≠ none →
      (u32 bs 0 % 64 ≠ 0 ∨ u32 bs 0 < 0x1000 ∨ b.regs.wlimit.toNat * 4096 < u32 bs 0 + 64) →
      ∃ w : PWrite,
        Runs (.controlBlockReadDone ⟨false, .data bs⟩) s
          (stoppedRun .link (u32 bs 0) { b with fsu := { b.fsu with
            heldQ := BitVec.ofNat 32 (u32 bs 4), p := BitVec.ofNat 32 (u32 bs 4), refusedQ := none,
            pWrites := b.fsu.pWrites ++ [w] } }) ∧
        w.pub = none ∧
        ((∀ acc, b.ple.mirror ≠ .body acc) →
          w.acc = some (writeAt b 0x044 (leWord (BitVec.ofNat 32 (u32 bs 4))))) ∧
        ∀ acc, b.ple.mirror = .body acc → w.acc = none)

/-- A command that answers an access nothing waits for, or a timer that does not run, changes nothing (the model's choice,
log 3). A response to an access issued before the last reset is discarded, whatever stands on the port (that the answer to
an access carries whether it is one is the model's choice, log 32). -/
def Obligations.ResponseWithoutAccess : Prop :=
  ∀ (s : State) (b : Block) (r : ReadResp) (err : Bool), Settles s b →
    (b.ple.runStart = none → Runs (.controlBlockReadDone ⟨false, r⟩) s b) ∧
    (b.ple.look = .idle →
      Runs (.nextFieldReadDone ⟨false, r⟩) s b ∧ Runs (.planReadDone ⟨false, r⟩) s b ∧ Runs (.takingCheckReadDone ⟨false, r⟩) s b ∧
      Runs (.refusalOutcomeWriteDone ⟨false, err⟩) s b ∧ Runs (.refusalStateWriteDone ⟨false, err⟩) s b ∧ Runs .takenWriteError s b) ∧
    (b.ple.lookTimer = false → Runs .lookTimerExpiry s b) ∧
    (b.ple.mirror = .idle →
      Runs (.mirrorHeadWriteDone ⟨false, err⟩) s b ∧ Runs (.mirrorBodyWriteDone ⟨false, err⟩) s b ∧ Runs (.mirrorTailWriteDone ⟨false, err⟩) s b) ∧
    (∀ (k : PlanKind) (w : ResultWrite), takenOf b k = none →
      Runs (.endingResultsWriteDone k w ⟨false, err⟩) s b ∧ Runs (.endingFailureOutcomeWriteDone k ⟨false, err⟩) s b ∧
      Runs (.finalStateWriteDone k ⟨false, err⟩) s b) ∧
    (b.zmap.loading = .idle → Runs (.tablesReadDone ⟨false, r⟩) s b) ∧
    (b.fsu.qReads = [] → Runs (.qReadDone ⟨false, r⟩) s b) ∧
    (∀ i, b.fsu.wbuf.length ≤ i → Runs (.burstResponse i ⟨false, err⟩) s b) ∧
    (b.fsu.recWrite = none → Runs (.recordWriteDone ⟨false, err⟩) s b) ∧
    (b.fsu.pWrites = [] → Runs (.pWriteDone ⟨false, err⟩) s b) ∧
    (∀ i : Instr, i.isLate = true → Runs i s b)

/-- The first RUN after a reset: the host area's chain start becomes the cursor, its look period is loaded (0 taken as 1), P
and the held Q become its released count and P is written, the look timer starts and a look is requested. A later RUN keeps
the cursor, P and Q: the look period is loaded, the look timer starts and a look is requested. -/
def Obligations.RunStartResponse : Prop :=
  (∀ (s : State) (b : Block) (rs : RunStart) (bs : List Byte), Settles s b →
     b.ple.runStart = some rs → rs.first = true → rs.acc.addr ≠ none → b.regs.run = true → lookBusy b = false →
     u32 bs 0 % 64 = 0 → 0x1000 ≤ u32 bs 0 → u32 bs 0 + 64 ≤ b.regs.wlimit.toNat * 4096 →
     ∃ w : PWrite,
       Runs (.controlBlockReadDone ⟨false, .data bs⟩) s { b with
         ple := { b.ple with
           runStart := none, cursor := .atPlan (u32 bs 0), lookPeriod := some (max 1 (u8 bs 0x11)), lookTimer := true }
         fsu := { b.fsu with
           heldQ := BitVec.ofNat 32 (u32 bs 4), p := BitVec.ofNat 32 (u32 bs 4), refusedQ := none,
           pWrites := b.fsu.pWrites ++ [w] }
         due := b.due ++ [.lookStart] } ∧
       w.pub = none ∧
       ((∀ acc, b.ple.mirror ≠ .body acc) →
         w.acc = some (writeAt b 0x044 (leWord (BitVec.ofNat 32 (u32 bs 4))))) ∧
       ∀ acc, b.ple.mirror = .body acc → w.acc = none) ∧
  (∀ (s : State) (b : Block) (rs : RunStart) (bs : List Byte), Settles s b →
     b.ple.runStart = some rs → rs.first = false → rs.acc.addr ≠ none → b.regs.run = true →
     (lookBusy b = false →
       Runs (.controlBlockReadDone ⟨false, .data bs⟩) s { b with
         ple := { b.ple with runStart := none, lookPeriod := some (max 1 (u8 bs 0)), lookTimer := true }
         due := b.due ++ [.lookStart] }) ∧
     (lookBusy b = true →
       Runs (.controlBlockReadDone ⟨false, .data bs⟩) s { b with
         ple := { b.ple with
           runStart := none, lookPeriod := some (max 1 (u8 bs 0)), lookTimer := true, lookPending := true } }))

/-- An expiry of the look timer requests a look: one starts if none is in progress, else the look-pending mark is set; with
RUN 0 the request is dropped. A look that starts reads the plan at the cursor whole, or the next field of the plan behind
the cursor; while no stream runs it also requests a mirror rewrite. -/
def Obligations.LooksStart : Prop :=
  (∀ (s : State) (b : Block), Settles s b → b.ple.lookTimer = true →
     (b.regs.run = false → Runs .lookTimerExpiry s b) ∧
     (b.regs.run = true → lookBusy b = false → Runs .lookTimerExpiry s { b with due := b.due ++ [.lookStart] }) ∧
     (b.regs.run = true → lookBusy b = true →
       Runs .lookTimerExpiry s { b with ple := { b.ple with lookPending := true } })) ∧
  (∀ (s : State) (b : Block) (x : Nat), .lookStart ∈ s.due → dropDue .lookStart s.toBlock = b →
     ∀ l : Look,
       (b.ple.cursor = .atPlan x ∧ l = .plan x (readAt b x 64) ∨
         b.ple.cursor = .afterPlan x ∧ l = .next x (readAt b (x + 8) 4)) →
       (b.ftu.stream ≠ .stopped → b.ftu.stream ≠ .waitingSync →
         Runs .lookStart s { b with ple := { b.ple with look := l } }) ∧
       ((b.ftu.stream = .stopped ∨ b.ftu.stream = .waitingSync) → mirrorBusy b = false →
         Runs .lookStart s { b with ple := { b.ple with look := l }, due := b.due ++ [.mirrorStart] }) ∧
       ((b.ftu.stream = .stopped ∨ b.ftu.stream = .waitingSync) → mirrorBusy b = true →
         Runs .lookStart s { b with ple := { b.ple with look := l, rewritePending := true } }))

/-- The next field: 0 ends the look with the cursor where it is (a pending look starts); a good link becomes the cursor and
its plan is read, or the look ends there if RUN was cleared meanwhile. -/
def Obligations.NextFieldMovesCursor : Prop :=
  ∀ (s : State) (b : Block) (x : Nat) (acc : ReadAcc) (bs : List Byte), Settles s b →
    b.ple.look = .next x acc → acc.addr ≠ none →
    (u32 bs 0 = 0 → (b.ple.lookPending = false ∨ b.regs.run = false) →
      Runs (.nextFieldReadDone ⟨false, .data bs⟩) s
        { b with ple := { b.ple with look := .idle, lookStop := false, lookPending := false } }) ∧
    (u32 bs 0 = 0 → b.ple.lookPending = true → b.regs.run = true → .lookStart ∉ b.due →
      Runs (.nextFieldReadDone ⟨false, .data bs⟩) s
        { b with
          ple := { b.ple with look := .idle, lookStop := false, lookPending := false }
          due := b.due ++ [.lookStart] }) ∧
    (u32 bs 0 % 64 = 0 → 0x1000 ≤ u32 bs 0 → b.ple.lookStop = false →
      Runs (.nextFieldReadDone ⟨false, .data bs⟩) s
        { b with ple := { b.ple with
            cursor := .atPlan (u32 bs 0), look := .plan (u32 bs 0) (readAt b (u32 bs 0) 64) } }) ∧
    (u32 bs 0 % 64 = 0 → 0x1000 ≤ u32 bs 0 → b.ple.lookStop = true → b.ple.lookPending = false →
      Runs (.nextFieldReadDone ⟨false, .data bs⟩) s
        { b with ple := { b.ple with cursor := .atPlan (u32 bs 0), look := .idle, lookStop := false } })

/-- The decision on a plan that was read: not READY ends the look; a malformed one is refused with BAD_PLAN, outcome first;
one that passes R11 and is blocked ends the look; one that passes its taking checks has TAKEN written; one that fails them
is refused with its outcome. A plan is blocked exactly when a taken plan is not DETACHED or is SYNC, when it needs a class
that is held, or when it is SYNC and any plan is taken. The taking checks that read nothing: a STREAM start needs STOPPED;
ZOOM, FOCUS, AF_SEARCH and CAPTURE need tables, the last two a RUNNING stream as well; REFERENCE needs tables or two good
sets of its own; the others need nothing. A STREAM start and a STAB ON plan that pass the checks of their own bytes read their
timeout before they are found blocked (the model's reading, log 10), and a CAPTURE plan that passes its first two taking checks
reads its pool (the model's reading, log 11): one byte at the timeout's offset, nine bytes at 0x008 (the model's choice, log
69): the sync timeout at 0x012 for a STREAM start, the gyro timeout at 0x013 for a STAB ON plan, none for any other. The
parameters of a record are the plan's where its kind and every field that the kind uses lie in their ranges, and none where
one does not. -/
def Obligations.PlanReadDecides : Prop :=
  (∀ (s : State) (b : Block) (x : Nat) (acc : ReadAcc) (bs : List Byte), Settles s b →
     b.ple.look = .plan x acc → acc.addr ≠ none → b.ple.lookPending = false →
     (u8 bs 0 ≠ 1 →
       Runs (.planReadDone ⟨false, .data bs⟩) s { b with ple := { b.ple with look := .idle, lookStop := false } }) ∧
     (u8 bs 0 = 1 → parseParams bs = none →
       Runs (.planReadDone ⟨false, .data bs⟩) s { b with ple := { b.ple with
         look := .refuseOutcome x ((bs.getD 2 0#8).getLsbD 1) (writeAt b (x + 3) [1#8]) } }) ∧
     (u8 bs 0 = 1 → ∀ q, parseParams bs = some q →
       let p : PlanRec :=
         { offset := x, detached := (bs.getD 2 0#8).getLsbD 0, notify := (bs.getD 2 0#8).getLsbD 1,
           tag := BitVec.ofNat 32 (u32 bs 4), params := q }
       (timeoutField q = none → blocked b p = true →
         Runs (.planReadDone ⟨false, .data bs⟩) s { b with ple := { b.ple with look := .idle, lookStop := false } }) ∧
       (timeoutField q = none → blocked b p = false → takingCheck b q = .pass → (∀ c, q ≠ .capture c) →
         Runs (.planReadDone ⟨false, .data bs⟩) s { b with ple := { b.ple with
           look := .taken p .none (writeAt b x [2#8]) } }) ∧
       (∀ o, timeoutField q = none → blocked b p = false → takingCheck b q = .refuse o →
         Runs (.planReadDone ⟨false, .data bs⟩) s { b with ple := { b.ple with
           look := .refuseOutcome x p.notify (writeAt b (x + 3) (leBytes 1 o.code)) } }) ∧
       (∀ o, timeoutField q = some o →
         Runs (.planReadDone ⟨false, .data bs⟩) s { b with ple := { b.ple with look := .check p (readAt b o 1) } }) ∧
       (∀ c, q = .capture c → blocked b p = false → takingCheck b q = .pass →
         Runs (.planReadDone ⟨false, .data bs⟩) s { b with ple := { b.ple with look := .check p (readAt b 0x008 9) } }))) ∧
  (∀ p : PlanParams,
     (∀ q, p = .streamStart q → timeoutField p = some 0x012) ∧ (∀ q, p = .stabOn q → timeoutField p = some 0x013) ∧
     ((∀ q, p ≠ .streamStart q) → (∀ q, p ≠ .stabOn q) → timeoutField p = none)) ∧
  (∀ (b : Block) (p : PlanRec),
     blocked b p = true ↔
       (∃ t ∈ b.ple.taken, t.detached = false ∨ t.kind = .sync) ∨
       (∃ t ∈ b.ple.taken, ∃ c ∈ p.params.classes, c ∈ t.classes) ∨
       (p.params.kind = .sync ∧ b.ple.taken ≠ [])) ∧
  (∀ b : Block,
     (∀ q, (b.ftu.stream = .stopped → takingCheck b (.streamStart q) = .pass) ∧
       (b.ftu.stream ≠ .stopped → takingCheck b (.streamStart q) = .refuse .badPlan)) ∧
     (∀ z tr f, (b.zmap.tables = none →
         takingCheck b (.zoom z tr) = .refuse .noTables ∧ takingCheck b (.focus f) = .refuse .noTables) ∧
       (b.zmap.tables ≠ none → takingCheck b (.zoom z tr) = .pass ∧ takingCheck b (.focus f) = .pass)) ∧
     (∀ q c, (b.zmap.tables = none →
         takingCheck b (.afSearch q) = .refuse .noTables ∧ takingCheck b (.capture c) = .refuse .noTables) ∧
       (b.zmap.tables ≠ none → b.ftu.stream ≠ .running →
         takingCheck b (.afSearch q) = .refuse .notStreaming ∧ takingCheck b (.capture c) = .refuse .notStreaming) ∧
       (b.zmap.tables ≠ none → b.ftu.stream = .running →
         takingCheck b (.afSearch q) = .pass ∧ takingCheck b (.capture c) = .pass)) ∧
     (∀ q : RefParams,
       let good := fun r : RawRefSet =>
         r.direction ≤ 1 ∧ r.edge ≤ 1 ∧ 1 ≤ r.duty ∧ r.duty ≤ 255 ∧ 1 ≤ r.travel ∧ r.travel ≤ 65535
       (b.zmap.tables ≠ none ∨ good q.zoom ∧ good q.focus → takingCheck b (.reference q) = .pass) ∧
       (b.zmap.tables = none → ¬(good q.zoom ∧ good q.focus) → takingCheck b (.reference q) = .refuse .badPlan)) ∧
     ∀ e s t, takingCheck b .streamStop = .pass ∧ takingCheck b (.exposure e) = .pass ∧
       takingCheck b (.stabOn s) = .pass ∧ takingCheck b .stabOff = .pass ∧ takingCheck b (.tables t) = .pass ∧
       takingCheck b .sync = .pass) ∧
  (∀ bs : List Byte,
     let a := fun i => u8 bs i
     let h := fun i => u16 bs i
     let w := fun i => u32 bs i
     let at64 := fun v : Nat => v % 64 = 0 ∧ 0x1000 ≤ v
     (a 1 = 0 ∨ 10 < a 1 → parseParams bs = none) ∧
     (a 1 = 10 → parseParams bs = some .sync) ∧
     (a 1 = 1 → a 16 = 1 → parseParams bs = some .streamStop) ∧
     (a 1 = 1 → a 16 ≠ 1 →
       let ok := a 16 = 0 ∧ 64 ≤ h 22 ∧ h 22 ≤ 16383 ∧ 16 ≤ h 24 ∧ h 24 ≤ h 22 - 1 ∧ 256 ≤ h 26 ∧ h 26 ≤ 8192 ∧
         h 26 % 16 = 0 ∧ 1 ≤ a 17 ∧ a 17 ≤ 63 ∧ 1 ≤ a 18 ∧ a 18 ≤ 3 ∧ a 20 ≤ 192 ∧ a 21 ≤ 96
       (ok → parseParams bs = some (.streamStart
         { lines := h 22, active := h 24, width := h 26, margin := a 17, latency := a 18, s0 := a 19, g0 := a 20,
           c0 := a 21 })) ∧
       (¬ok → parseParams bs = none)) ∧
     (a 1 = 2 →
       let ok := 16 ≤ a 17 ∧ a 17 ≤ 240 ∧ -48 ≤ s8 bs 18 ∧ s8 bs 18 ≤ 48 ∧ a 19 ≤ 3 ∧ a 20 ≤ 16 ∧ 1 ≤ a 21 ∧ a 21 ≤ 4 ∧
         1 ≤ a 22 ∧ a 22 ≤ 128 ∧ a 23 ≤ 64 ∧ 192 ≤ a 24 ∧ a 24 ≤ 255 ∧ a 25 ≤ 192 ∧ 1 ≤ a 26 ∧ a 26 ≤ 32 ∧ a 27 ≤ 4 ∧
         a 29 ≤ 192 ∧ a 30 ≤ 96 ∧ h 32 ≤ 1023 ∧ 1 ≤ h 34 ∧ h 34 ≤ 65535
       (∀ mode, (a 16, mode) ∈ [(0, ExpMode.auto), (1, .lock), (2, .manual)] → ok → parseParams bs = some (.exposure
         { mode := mode, target := a 17, comp := s8 bs 18, table := a 19, deadband := a 20, response := a 21,
           stepMax := a 22, guardZones := a 23, clip := a 24, black := h 32, floor := h 34, gMax := a 25, slew := a 26,
           bonus := a 27, sm := a 28, gm := a 29, cm := a 30 })) ∧
       (¬(a 16 ≤ 2 ∧ ok) → parseParams bs = none)) ∧
     (a 1 = 3 → a 16 = 0 → parseParams bs = some .stabOff) ∧
     (a 1 = 3 → a 16 ≠ 0 →
       let ok := a 16 = 1 ∧ 6 ≤ a 17 ∧ a 17 ≤ 14 ∧ a 18 ≤ 4 ∧ a 19 ≤ 1 ∧ 1 ≤ h 24 ∧ h 24 ≤ 4095 ∧ 4 ≤ a 20 ∧ a 20 ≤ 16 ∧
         2 ≤ h 26 ∧ h 26 ≤ 32767 ∧ 1 ≤ a 21 ∧ a 21 ≤ 255 ∧ 1 ≤ h 28 ∧ h 28 ≤ 2047 ∧ 64 ≤ h 30 ∧ h 30 ≤ 4096
       (ok → parseParams bs = some (.stabOn
         { leak := a 17, boost := a 18, biasOn := a 19 == 1, still := h 24, track := a 20, panThreshold := h 26,
           panCount := a 21, range := h 28, centering := h 30 })) ∧
       (¬ok → parseParams bs = none)) ∧
     (a 1 = 4 → (a 18 ≤ 1 → parseParams bs = some (.zoom (s16 bs 16) (a 18 == 1))) ∧ (1 < a 18 → parseParams bs = none)) ∧
     (a 1 = 5 →
       (a 16 = 0 → parseParams bs = some (.focus (.position (s16 bs 18)))) ∧
       (a 16 = 1 → h 20 ≤ 1024 → parseParams bs = some (.focus (.distance (h 20)))) ∧
       (a 16 = 1 → 1024 < h 20 → parseParams bs = none) ∧ (1 < a 16 → parseParams bs = none)) ∧
     (a 1 = 6 →
       let ok := a 16 ≤ 1 ∧ a 17 ≤ 1 ∧ 2 ≤ h 20 ∧ h 20 ≤ 4095 ∧ 1 ≤ h 22 ∧ h 22 ≤ h 20 / 2 ∧ 8 ≤ a 18 ∧ a 18 ≤ 15 ∧
         17 ≤ a 19 ∧ a 19 ≤ 255 ∧ a 26 ≤ a 27 ∧ a 27 ≤ 7 ∧ a 28 ≤ a 29 ∧ a 29 ≤ 7 ∧ (w 32 = 0 ∨ at64 (w 32))
       (ok → parseParams bs = some (.afSearch
         { fromPosition := a 16 == 1, start := s16 bs 24, near := a 17 == 0, coarse := h 20, fine := h 22, drop := a 18,
           contrast := a 19, window := { x0 := a 26, x1 := a 27, y0 := a 28, y1 := a 29 }, coring := a 30,
           trace := w 32 })) ∧
       (¬ok → parseParams bs = none)) ∧
     (a 1 = 7 →
       let set := fun i : Nat =>
         ({ direction := a i, edge := a (i + 1), duty := a (i + 2), travel := h (i + 4), offset := s16 bs (i + 6) }
           : RawRefSet)
       (96 ≤ a 32 → a 32 ≤ 255 →
         parseParams bs = some (.reference { zoom := set 16, focus := set 24, cTravel := a 32 })) ∧
       (a 32 < 96 → parseParams bs = none)) ∧
     (a 1 = 8 →
       let ok := 1 ≤ a 17 ∧ a 17 ≤ 8 ∧ a 18 ≤ 1 ∧ 1 ≤ a 19 ∧ a 19 ≤ 255 ∧ a 20 ≤ 1 ∧ a 21 ≤ 1 ∧ a 24 ≤ 1 ∧ a 25 ≤ 1 ∧
         a 26 ≤ 1 ∧ (a 21 = 0 ∨ 1 ≤ a 22 ∧ a 22 ≤ 255 ∧ 1 ≤ a 23 ∧ a 23 ≤ 255)
       (ok → parseParams bs = some (.capture
         { count := a 16, stride := a 17, settledStart := a 18 == 1, maxWait := a 19, aeLock := a 20 == 0,
           caf := a 21 == 1, cafStep := a 22, cafHyst := a 23, flip := a 24 == 1, endPolicy := a 25 == 1,
           notify := a 26 == 1 })) ∧
       (¬ok → parseParams bs = none)) ∧
     (a 1 = 9 →
       let ok := at64 (w 16) ∧ at64 (w 20) ∧ at64 (w 24) ∧ at64 (w 28) ∧ h 32 ≤ 4095
       (ok → parseParams bs = some (.tables
         { mapOff := w 16, zoomOff := w 20, focusOff := w 24, weightOff := w 28, margin := h 32 })) ∧
       (¬ok → parseParams bs = none)))

/-- The read that a taking check made: a timeout of 0 refuses the plan with BAD_PLAN, any other is kept and the plan, free
and passing, has TAKEN written; the pool fields of a CAPTURE plan are judged, a bad pool refusing it with BAD_POOL and a
changed pool with POOL_BUSY while the host holds frames; a lens axis that is not standing makes it wait. A plan with a
good timeout that is blocked ends the look, and one that fails its taking check is refused. The timeout is judged before
the blocking check (the model's reading, log 10), and after the pool is read neither blocking nor checks 1 and 2 of Table
51 are made again (the model's reading, log 11). A pool is good with 1 to 32 slots, an offset and a stride that are
multiples of 64, the first at 0x1000 or above and the second at least a frame, and all slots inside the window. A refusal
writes the outcome, then state FAILED, each after the response to the one before; then PLAN_END is raised if NOTIFY is
set, the cursor passes the plan, and its next field is read. -/
def Obligations.TakingCheckAndRefusal : Prop :=
  (∀ (s : State) (b : Block) (p : PlanRec) (acc : ReadAcc) (bs : List Byte), Settles s b →
     b.ple.look = .check p acc → acc.addr ≠ none → b.ple.lookPending = false →
     ((∀ c, p.params ≠ .capture c) → u8 bs 0 = 0 →
       Runs (.takingCheckReadDone ⟨false, .data bs⟩) s { b with ple := { b.ple with
         look := .refuseOutcome p.offset p.notify (writeAt b (p.offset + 3) [1#8]) } }) ∧
     ((∀ c, p.params ≠ .capture c) → u8 bs 0 ≠ 0 → blocked b p = false → takingCheck b p.params = .pass →
       Runs (.takingCheckReadDone ⟨false, .data bs⟩) s { b with ple := { b.ple with
         look := .taken p (.timeout (u8 bs 0)) (writeAt b p.offset [2#8]) } }) ∧
     ((∀ c, p.params ≠ .capture c) → u8 bs 0 ≠ 0 → blocked b p = true →
       Runs (.takingCheckReadDone ⟨false, .data bs⟩) s { b with ple := { b.ple with look := .idle, lookStop := false } }) ∧
     (∀ o, (∀ c, p.params ≠ .capture c) → u8 bs 0 ≠ 0 → blocked b p = false → takingCheck b p.params = .refuse o →
       Runs (.takingCheckReadDone ⟨false, .data bs⟩) s { b with ple := { b.ple with
         look := .refuseOutcome p.offset p.notify (writeAt b (p.offset + 3) (leBytes 1 o.code)) } }) ∧
     (∀ c, p.params = .capture c →
       let pool : Pool := { n := u8 bs 8, base := u32 bs 0, stride := u32 bs 4 }
       (goodPool b pool = false →
         Runs (.takingCheckReadDone ⟨false, .data bs⟩) s { b with ple := { b.ple with
           look := .refuseOutcome p.offset p.notify (writeAt b (p.offset + 3) [13#8]) } }) ∧
       (goodPool b pool = true → (∃ q, b.fsu.pool = some q ∧ q ≠ pool) → b.fsu.p ≠ b.fsu.heldQ →
         Runs (.takingCheckReadDone ⟨false, .data bs⟩) s { b with ple := { b.ple with
           look := .refuseOutcome p.offset p.notify (writeAt b (p.offset + 3) [14#8]) } }) ∧
       (goodPool b pool = true → (b.fsu.pool = none ∨ b.fsu.pool = some pool ∨ b.fsu.p = b.fsu.heldQ) →
         (b.zoom.state.standing = false →
           Runs (.takingCheckReadDone ⟨false, .data bs⟩) s
             { b with ple := { b.ple with look := .idle, lookStop := false } }) ∧
         (b.zoom.state.standing = true →
           Runs (.takingCheckReadDone ⟨false, .data bs⟩) s { b with ple := { b.ple with
             look := .taken p (.pool pool) (writeAt b p.offset [2#8]) } })))) ∧
  (∀ (s : State) (b : Block) (x : Nat) (n : Bool) (acc : WriteAcc), Settles s b → acc.addr ≠ none →
     (b.ple.look = .refuseOutcome x n acc →
       Runs (.refusalOutcomeWriteDone ⟨false, false⟩) s { b with ple := { b.ple with
         look := .refuseState x n (writeAt b x [4#8]) } }) ∧
     (b.ple.look = .refuseState x n acc → b.ple.lookStop = false →
       Runs (.refusalStateWriteDone ⟨false, false⟩) s { b with
         ntu := if n then setFlag .planEnd b.ntu else b.ntu
         ple := { b.ple with cursor := .afterPlan x, look := .next x (readAt b (x + 8) 4) } })) ∧
  (∀ (b : Block) (p : Pool),
     goodPool b p = true ↔
       1 ≤ p.n ∧ p.n ≤ 32 ∧ p.base % 64 = 0 ∧ 0x1000 ≤ p.base ∧ p.stride % 64 = 0 ∧
       (∀ f, b.ftu.fmt = some f → f.active * (2 * f.width) ≤ p.stride) ∧
       p.base + p.n * p.stride ≤ b.regs.wlimit.toNat * 4096)

/-! ### Taking a plan -/

/-- The take of a plan: the taken-plan entry is made with the plan's classes, tracking follows, the owner of the kind gets
the parameters, and then the cursor passes the plan and its next field is read. It covers the twelve commands; what each
hand-over does is stated below. The cursor moves and the look goes on, with the read that the new cursor asks for, or ends
if RUN was cleared meanwhile. -/
def Obligations.TakeHandsOver : Prop :=
  (∀ (s : State) (b : Block) (p : PlanRec) (v : CheckVal) (m : Msense), Settles s b → takenNow b = some (p, v) →
     let enter := fun (b : Block) =>
       { b with ple := { b.ple with
           look := .idle
           taken := b.ple.taken ++
             [{ offset := p.offset, kind := p.params.kind, classes := p.params.classes, detached := p.detached,
                notify := p.notify, ending := .running }] } }
     let bm : Block := { b with ldu := { b.ldu with msense := m } }
     let done := fun (h : Block) => moveCursor (.afterPlan p.offset) h
     (∀ q, p.params = .streamStart q →
       Runs .takeStreamStart s (done (streamStartHandOver q v.timeoutOf (retrack false (enter b))))) ∧
     (p.params = .streamStop → Runs .takeStreamStop s (done (streamStopHandOver (retrack false (enter b))))) ∧
     (∀ q, p.params = .exposure q → Runs .takeExposure s (done (exposureTaken q (retrack false (enter b))))) ∧
     (∀ q, p.params = .stabOn q →
       Runs .takeStabOn s (done (stabOnHandOver q v.timeoutOf (retrack false (enter b))))) ∧
     (p.params = .stabOff → Runs .takeStabOff s (done (stabOffHandOver (retrack false (enter b))))) ∧
     (∀ z tr, p.params = .zoom z tr →
       Runs (.takeZoom m) s (done (zoomHandOver z tr (retrack false (enter bm))))) ∧
     (∀ t, p.params = .focus t → Runs (.takeFocus m) s (done (focusHandOver t (retrack true (enter bm))))) ∧
     (∀ q, p.params = .afSearch q → Runs (.takeAfSearch m) s (done (searchHandOver q (retrack true (enter bm))))) ∧
     (∀ q, p.params = .reference q → Runs (.takeReference m) s (done (referenceHandOver q (retrack false (enter bm))))) ∧
     (∀ q, p.params = .capture q →
       Runs .takeCapture s (done (captureHandOver p.tag q v.poolOf (retrack false (enter b))))) ∧
     (∀ q, p.params = .tables q → Runs .takeTables s (done (tablesHandOver q (retrack false (enter b))))) ∧
     (p.params = .sync → Runs .takeSync s (done (syncHandOver (retrack false (enter b)))))) ∧
  (∀ (b : Block) (x : Nat),
     (b.ple.lookStop = false →
       moveCursor (.afterPlan x) b =
         { b with ple := { b.ple with cursor := .afterPlan x, look := .next x (readAt b (x + 8) 4) } }) ∧
     (b.ple.lookStop = true → b.ple.lookPending = false →
       moveCursor (.afterPlan x) b =
         { b with ple := { b.ple with cursor := .afterPlan x, look := .idle, lookStop := false } }))

/-- STREAM start: the format and the sync timeout are stored, frame 0 is next, the line time is not measured and no period
is known, the initial entries of frames 0 to L − 1 are made acknowledged, the start send goes out, WAITING_SYNC is entered
with the sync timer, and in effective mode AUTO X_target takes their X_app. The entry is kept as made for the one of frame L
(R22, R69, log 47). A stats-ready of the stream before that is not handled yet belongs to no entry any more (R33). -/
def Obligations.StreamStartHandOver : Prop :=
  ∀ (b : Block) (p : StreamParams) (timeout : Nat),
    let sh := min p.s0 (lg16 (p.lines - p.margin))
    let g := min p.g0 b.exu.prm.gMax
    let c := min p.c0 (irisMax b)
    let x : Int := (sh : Int) + g - c
    let entry := fun i : Nat =>
      ({ k := BitVec.ofNat 32 i, e := ex16 sh, g := g, c := c, xTarget := x, xApp := x, source := .manual,
         underFlag := decide (x < (p.s0 : Int) + p.g0 - p.c0), overFlag := decide ((p.s0 : Int) + p.g0 - p.c0 < x),
         slewFlag := false, sbu := reportedState b.sbu, zoomPos := position b.zoom, late := false, role := .pending,
         send := .acknowledged, meterReleased := false, recordReleased := false } : Entry)
    let past := fun l : List StatsRecord => l.map fun r => { r with old := true }
    streamStartHandOver p timeout b =
      { b with
        ftu := { b.ftu with
          fmt := some p, syncTimeout := some timeout, frameNo := 0, frameStarts := 0, frame := none,
          prevPeriod := none, lineMeasured := false, dueEntry := none, link := .waiting (ex16 sh) g,
          stream := .waitingSync, syncTimer := true, pipeline := (List.range p.latency).map entry, first := some (entry 0) }
        stu := { b.stu with geom := some { width := p.width, zw := p.width / 8, zh := p.active / 8 } }
        exu := { b.exu with
          xTarget := if effectiveMode b.exu = .auto then x else b.exu.xTarget, settled := false, inbox := past b.exu.inbox }
        afu := { b.afu with inbox := past b.afu.inbox }
        fsu := { b.fsu with inbox := past b.fsu.inbox } }

/-- STREAM stop in STOPPED ends DONE at once, with the count of frame-starts as its result word. STREAM stop of a stream
between frames, with no capture, search or table swap to end: STOPPED is entered, the sync timer stops, SYNC_LOST ends,
the wait for an ACK is abandoned, the window-open lists are emptied, and with the capture class free the stop's completion
is due at once. A stop of any other stream: a frame in progress is cut, with LINE_COUNT for an active line of fewer than W
pixels, the one in progress included (the model's reading, log 50), STOPPED is entered in the same way, a set of tables
that waits for its swap is swapped and its plan ends DONE with an immediate swap as result (the model's reading, log 25),
its other fields 0 (the model's choice, log 63), a search ends FAILED NOT_STREAMING, and a capture that no abort has
reached drains, or ends at once with no slot FILLING, for SYNC_LOST. STREAM_STOP_COMPLETE: once the capture class is free
the pipeline is emptied, the line time is marked not measured, and the stop plan reports DONE with the count of
frame-starts. -/
def Obligations.StreamStopHandOver : Prop :=
  (∀ b : Block, b.ftu.stream = .stopped →
     streamStopHandOver b =
       endPlan .streamStop .done .ok (leWord b.ftu.frameStarts) (List.replicate 24 0#8) b) ∧
  (∀ b : Block, b.ftu.stream ≠ .stopped → b.ftu.frame = none → b.cap.state = .none → b.afu.search = none →
     b.zmap.loading = .idle → classBusy b .capture = false → .streamStop ∉ b.due →
     streamStopHandOver b =
       { b with
         ftu := { b.ftu with stream := .stopped, syncTimer := false, link := .idle, stopWaiting := true }
         ntu := { b.ntu with syncLost := false }
         afu := { b.afu with candidates := [] }
         sbu := { b.sbu with windows := [] }
         fsu := { b.fsu with notes := [] }
         due := b.due ++ [.streamStop] }) ∧
  (∀ b : Block, b.ftu.stream ≠ .stopped →
     let b' := streamStopHandOver b
     b'.ftu.stream = .stopped ∧ b'.ftu.syncTimer = false ∧ b'.ftu.frame = none ∧ b'.ftu.link = .idle ∧
     b'.ftu.stopWaiting = true ∧ b'.ftu.frameStarts = b.ftu.frameStarts ∧ b'.ftu.frameNo = b.ftu.frameNo ∧
     b'.ftu.fmt = b.ftu.fmt ∧ b'.ftu.lineTime = b.ftu.lineTime ∧ b'.ntu.syncLost = false ∧ b'.afu.candidates = [] ∧
     b'.sbu.windows = [] ∧ b'.fsu.notes = [] ∧ b'.stu.frame = (if b.ftu.frame = none then b.stu.frame else b'.stu.frame) ∧
     (∀ f sf g l, b.ftu.frame = some f → f.ended = false → b.stu.frame = some sf → b.stu.geom = some g →
       b.stu.latched = some l →
       ∃ r : StatsRecord, b'.exu.inbox = b.exu.inbox ++ [r] ∧ r.k = sf.k ∧ r.cut = true ∧ r.valid = false ∧
         r.lineCount = (f.short || f.linePx.any fun n => decide (n < (b.ftu.fmt.map (·.width)).getD 0)) ∧
         b'.stu.frame = none) ∧
     (∀ f, b.ftu.frame = some f → f.ended = true → b'.exu.inbox = b.exu.inbox ∧ b'.stu.frame = b.stu.frame) ∧
     (∀ new, b.zmap.loading = .ready new →
       b'.zmap.tables = some new ∧ b'.zmap.loading = .idle ∧
       ∀ t, takenOf b .tables = some t → t.ending = .running →
         ∃ e, takenOf b' .tables = some { t with ending := .results e } ∧ e.fin = .done ∧
           (ResultWrite.area, writeAt b (t.offset + 40) (tablesArea false 0 0 0)) ∈ e.outstanding) ∧
     (∀ sr, b.afu.search = some sr → sr.ended = none →
       (b.afu.writes = [] → b'.afu.search = none) ∧
       (b.afu.writes ≠ [] →
         b'.afu.search = some { sr with moving := false, ended := some (.failed, .notStreaming, .notStreaming) })) ∧
     (b.cap.state = .armed ∨ b.cap.state = .storing → b.cap.endCause = none → planCancelling b .capture = false →
       b'.cap.endCause = some .syncLost ∧
       b'.cap.state = (if b.cap.filling then .draining else .ended))) ∧
  (∀ (s : State) (b : Block), .streamStop ∈ s.due → dropDue .streamStop s.toBlock = b → b.ftu.stopWaiting = true →
     classBusy b .capture = false →
     Runs .streamStopComplete s
       (endPlan .streamStop .done .ok (leWord b.ftu.frameStarts) (List.replicate 24 0#8)
         { b with
           ftu := { b.ftu with
             pipeline := [], dueEntry := none, link := .idle, lineMeasured := false, stopWaiting := false }
           due := b.due.filter (· ≠ .dueEntry) }))

/-- EXPOSURE: on a change from MANUAL to another mode X_target takes the newest entry's X_app; the parameters are copied,
the settled flag is cleared, and the plan ends DONE with X_target as its result word. STAB ON from OFF enters CENTERING
with both axes cleared and the gyro timer running on the timeout read; from another state the parameters and the timeout
of the next restart alone change, a timer that runs keeps its own, but in ACTIVE a standing pair outside a smaller shift
range is cut to it and sent, and the peaks of the window list rise to it. STAB OFF enters OFF, clears both axes, sends the
pair 0, 0, which leaves the peaks, stops the gyro timer and ends GYRO_LOST. Each reports DONE with its results. -/
def Obligations.ExposureAndStabHandOver : Prop :=
  (∀ (b : Block) (p : ExpParams),
     let x : Int :=
       if b.exu.prm.mode = .manual ∧ p.mode ≠ .manual then (b.ftu.pipeline.getLast?.map (·.xApp)).getD b.exu.xTarget
       else b.exu.xTarget
     exposureTaken p b =
       endPlan .exposure .done .ok (leInt 4 x) (List.replicate 24 0#8)
         { b with exu := { b.exu with xTarget := x, prm := p, settled := false } }) ∧
  ((∀ (b : Block) (p : StabParams) (n : Nat), b.sbu.base = .off →
     stabOnHandOver p n b =
       stabReport { b with sbu := { b.sbu with
         prm := p, gyroTimeout := some n, base := .centering, centering := 0, lastSeq := none, gyroTimer := some n
         pitch := { b.sbu.pitch with a := 0, d := 0, pan := false, run := 0, hold := 0 }
         yaw := { b.sbu.yaw with a := 0, d := 0, pan := false, run := 0, hold := 0 } } }) ∧
   (∀ (b : Block) (p : StabParams) (n : Nat),
     (b.sbu.base = .centering ∨ b.sbu.base = .gyroLost ∨
       b.sbu.base = .active ∧ b.sbu.pitch.s.natAbs ≤ p.range ∧ b.sbu.yaw.s.natAbs ≤ p.range) →
     stabOnHandOver p n b = stabReport { b with sbu := { b.sbu with prm := p, gyroTimeout := some n } }) ∧
   (∀ (b : Block) (p : StabParams) (n : Nat), b.sbu.base = .active →
     (p.range < b.sbu.pitch.s.natAbs ∨ p.range < b.sbu.yaw.s.natAbs) →
     let cut := fun x : Int => max (-(p.range : Int)) (min x p.range)
     stabOnHandOver p n b =
       stabReport { b with sbu := { b.sbu with
         prm := p, gyroTimeout := some n
         pitch := { b.sbu.pitch with s := cut b.sbu.pitch.s }
         yaw := { b.sbu.yaw with s := cut b.sbu.yaw.s }
         windows := b.sbu.windows.map fun w =>
           { w with peak := max w.peak (max (cut b.sbu.pitch.s).natAbs (cut b.sbu.yaw.s).natAbs) } } }) ∧
   (∀ b : Block,
     stabOffHandOver b =
       stabReport { b with
         ntu := { b.ntu with gyroLost := false }
         sbu := { b.sbu with
           base := .off, gyroTimer := none, lastSeq := none, sample := none
           pitch := { b.sbu.pitch with a := 0, d := 0, pan := false, run := 0, hold := 0, s := 0 }
           yaw := { b.sbu.yaw with a := 0, d := 0, pan := false, run := 0, hold := 0, s := 0 } } }) ∧
   (∀ b : Block,
     stabReport b =
       endPlan .stab .done .ok (leBytes 4 (reportedState b.sbu).code)
         (stabArea (b.sbu.pitch.b32 / 256) (b.sbu.yaw.b32 / 256) b.sbu.base) b))

/-- A move given to an axis: refused on an axis without a reference, refused with LENS_FAULT at a low supply, else started
with its target clamped into the soft limits, its timer loaded and its counts set; the focus axis leaving IDLE takes the
still mark of every candidate frame. ZOOM and FOCUS hand over a move to their target; a move that is refused ends the plan
FAILED with the refusal as outcome and detail, no expiry counted, and as its target the one asked for, clamped (the
model's choice, log 21); a tracking move in flight is then braked (log 22). Tracking is active while it is enabled, both
axes have a reference and nothing holds the focus class; when it stops, its move is braked, or left to the plan's move
that takes it over. A zoom move re-evaluates the focus limits, and once the zoom has moved by the tracking step since the
last target, a target is computed: the position that u gives at the zoom position; it is a move of the focus axis if it
differs from the axis's target, and a refused one disables tracking. -/
def Obligations.MoveStart : Prop :=
  (∀ (b : Block) (ax : Axis) (g : Giver) (target : Int),
     ((axisOf b ax).referenced = false → startMove ax g target b = (b, some .notReferenced)) ∧
     ((axisOf b ax).referenced = true → supplyIsLow b ax = true →
       startMove ax g target b = ({ b with ntu := setFlag .lensFault b.ntu }, some .supplyLow)) ∧
     ((axisOf b ax).referenced = true → supplyIsLow b ax = false →
       (startMove ax g target b).2 = none ∧
       axisOf (startMove ax g target b).1 ax =
         { axisOf b ax with
           state := .moving, target := max (limitsOf b ax).lo (min target (limitsOf b ax).hi),
           move := some { giver := g, prevDuty := none, expiries := 0 },
           moveTimer := (blockOf b ax).map (·.moveTimeout), settle := settleTimeOf b ax, stall := 0, supplyLow := 0,
           braking := 0, stopFaulted := false } ∧
       (ax = .zoom → (startMove ax g target b).1.focus = b.focus ∧ (startMove ax g target b).1.afu = b.afu) ∧
       (ax = .focus →
         (startMove ax g target b).1.zoom = b.zoom ∧
         (startMove ax g target b).1.afu =
           { b.afu with candidates :=
               if b.focus.state = .idle then b.afu.candidates.map (fun c => { c with still := false })
               else b.afu.candidates }) ∧
       (startMove ax g target b).1.ple = b.ple ∧ (startMove ax g target b).1.zmap = b.zmap ∧
       (startMove ax g target b).1.ntu = b.ntu)) ∧
  (∀ (b : Block) (z : Int) (tr : Bool) (f : Int) (u : Nat),
     let bz := retrack false { b with zmap := { b.zmap with trackEnabled := tr } }
     (∀ h : Block, startMove .zoom .zoomPlan z bz = (h, none) → zoomHandOver z tr b = h) ∧
     (∀ (h : Block) (o : PlanOutcome), startMove .zoom .zoomPlan z bz = (h, some o) →
       zoomHandOver z tr b =
         endPlan .zoom .failed o (leInt 4 (position h.zoom))
           (moveArea (max h.zmap.zoomLim.lo (min z h.zmap.zoomLim.hi)) o 0 0) h) ∧
     (∀ h : Block, startMove .focus (.focusPlan (.position f)) f b = (h, none) → focusHandOver (.position f) b = h) ∧
     (∀ h : Block,
       startMove .focus (.focusPlan (.distance u))
         (infAt b (position b.zoom) +
           roundHalfAway ((nearAt b (position b.zoom) - infAt b (position b.zoom)) * u) 1024) b = (h, none) →
       focusHandOver (.distance u) b = h) ∧
     (∀ (h : Block) (o : PlanOutcome) (d : FocusTarget) (x : Int),
       (d = .position f ∧ x = f ∨
         d = .distance u ∧
           x = infAt b (position b.zoom) +
             roundHalfAway ((nearAt b (position b.zoom) - infAt b (position b.zoom)) * u) 1024) →
       startMove .focus (.focusPlan d) x b = (h, some o) →
       let failed := fun h' : Block =>
         endPlan .focus .failed o (leInt 4 (position h.focus))
           (moveArea (max h.zmap.focusLim.lo (min x h.zmap.focusLim.hi)) o 0 h.zmap.u) h'
       ((∀ m, h.focus.move = some m → m.giver ≠ .tracking) → focusHandOver d b = failed h) ∧
       (∀ m, h.focus.move = some m → m.giver = .tracking → h.focus.state ≠ .idle →
         focusHandOver d b =
           failed { h with focus := { h.focus with
             state := .braking, output := .brake, braking := settleTimeOf h .focus, stopFaulted := false, move := none,
             moveTimer := none, search := none } }))) ∧
  (∀ (b : Block) (takeOver : Bool),
     let wanted := b.zmap.trackEnabled = true ∧ b.zoom.referenced = true ∧ b.focus.referenced = true ∧
       classBusy b .focus = false
     let off : Block := { b with zmap := { b.zmap with trackActive := false } }
     (wanted → b.zmap.trackActive = true → retrack takeOver b = b) ∧
     (wanted → b.zmap.trackActive = false →
       retrack takeOver b = { b with zmap := { b.zmap with trackActive := true, zLast := position b.zoom } }) ∧
     (¬wanted → b.zmap.trackActive = false → retrack takeOver b = b) ∧
     (¬wanted → b.zmap.trackActive = true → retrack true b = off ∧
       ((∀ m, b.focus.move = some m → m.giver ≠ .tracking) → retrack false b = off) ∧
       (∀ m, b.focus.move = some m → m.giver = .tracking → b.focus.state ≠ .idle →
         retrack false b = { off with focus := { b.focus with
           state := .braking, output := .brake, braking := settleTimeOf b .focus, stopFaulted := false, move := none,
           moveTimer := none, search := none } }))) ∧
  (∀ b : Block,
     let z := position b.zoom
     let step := ((blockOf b .focus).map (·.trackStep)).getD 0
     let l := focusLimits b
     let b1 : Block :=
       { b with
         zmap := { b.zmap with focusLim := l }
         focus := { b.focus with target := max l.lo (min b.focus.target l.hi) } }
     (b.zmap.trackActive = false ∨ (z - b.zmap.zLast).natAbs < step → zoomMoved b = b1) ∧
     (b.zmap.trackActive = true → step ≤ (z - b.zmap.zLast).natAbs → zoomMoved b = trackTarget b1) ∧
     let target := infAt b z + roundHalfAway ((nearAt b z - infAt b z) * b.zmap.u) 1024
     let b2 : Block := { b with zmap := { b.zmap with zLast := z } }
     (target = b.focus.target → trackTarget b = b2) ∧
     (target ≠ b.focus.target →
       (∀ h, startMove .focus .tracking target b2 = (h, none) → trackTarget b = h) ∧
       ∀ h o, startMove .focus .tracking target b2 = (h, some o) →
         trackTarget b = retrack false { h with zmap := { h.zmap with trackEnabled := false } }))

/-- AF_SEARCH: the window and the coring threshold are stored, the trace starts empty, the direction points to the chosen
side, and a move to the start position is given. CAPTURE: capture control is ARMED with its counts cleared, the pool and the
frame store's settings are taken, the capture lock is set when asked for, and without CONTINUOUS nothing else changes; with
it continuous AF starts, with no value yet and its direction toward the near end. The start kind stands at NEXT until the
burst starts (the model's choice, log 60). -/
def Obligations.SearchAndCaptureHandOver : Prop :=
  (∀ (b : Block) (p : AfParams),
     let up := decide (infAt b (position b.zoom) ≤ nearAt b (position b.zoom))
     let sr : Search :=
       { prm := p, phase := .start, moving := true, moveTarget := 0, fineStart := 0,
         fineEnd := 0, fineIndex := 0, finalTarget := 0, offset := 0, recorded := none, ended := none }
     searchHandOver p b =
       giveSearchMove sr (if p.fromPosition then p.start else position b.focus)
         { b with
           stu := { b.stu with window := p.window, coring := p.coring }
           afu := { b.afu with
             search := some sr, dir := if p.near = up then 1 else -1, trace := [], best := none, below := 0, writes := [],
             written := 0, traceStopped := false } }) ∧
  (∀ (b : Block) (tag : Word) (p : CapParams) (pool : Pool),
     let armed : Block :=
       { b with
         cap := { Cap.reset with state := .armed, prm := some p }
         fsu := { b.fsu with pool := some pool, tag := tag, flip := p.flip, notify := p.notify }
         exu := { b.exu with lock := p.aeLock || b.exu.lock } }
     (p.caf = false → captureHandOver tag p pool b = armed) ∧
     (p.caf = true →
       captureHandOver tag p pool b =
         { armed with afu := { b.afu with
             cafActive := true, cafLast := none, cafStep := p.cafStep, cafHyst := p.cafHyst, cafMoving := false
             cafDir := if infAt b (position b.zoom) ≤ nearAt b (position b.zoom) then 1 else -1 } }))

/-- TABLES: the map block is read first, 528 bytes at its offset. SYNC: the plan ends DONE at once. REFERENCE: the zoom
search starts, from the current block's reference set after a TABLES, else from the plan's own; at a low supply the plan
ends FAILED with SUPPLY_LOW, LENS_FAULT is raised and no search starts. A search that starts clears the axis's reference
and drives against the reference direction where the accepted level is the one after the edge, else along it, also where
no level has been accepted yet (the model's choice, log 19); its motion check starts from the counter of that moment (the
model's choice, log 51). -/
def Obligations.TablesSyncReferenceHandOver : Prop :=
  (∀ (b : Block) (p : TablesParams),
     tablesHandOver p b =
       { b with zmap := { b.zmap with loading := .reading p [] (readAt b p.mapOff 528) } } ∧
     syncHandOver b = endPlan .sync .done .ok (List.replicate 4 0#8) (List.replicate 24 0#8) b) ∧
  (∀ (b : Block) (p : RefParams),
     let r : RefPlan :=
       { prm := p, stage := .zoom, zoomTravel := 0, focusTravel := 0, zoomEdge := none, focusEdge := none }
     (supplyIsLow b .zoom = true →
       referenceHandOver p b =
         endPlan .reference .failed .supplyLow (leInt 4 (position b.zoom))
           (referenceArea (position b.focus) b.zoom.counter b.focus.counter 0 0)
           { b with ntu := setFlag .lensFault b.ntu, ldu := { b.ldu with refPlan := none } }) ∧
     (supplyIsLow b .zoom = false →
       (referenceHandOver p b).zoom = searchStarted b.zoom (refSetOf b .zoom p) ∧
       (referenceHandOver p b).ldu.refPlan = some r ∧ (referenceHandOver p b).ple = b.ple ∧
       (referenceHandOver p b).ntu = b.ntu) ∧
     (∀ ax : Axis,
       let raw : RawRefSet :=
         match b.zmap.tables, ax with
         | none, .zoom => p.zoom
         | none, .focus => p.focus
         | some t, .zoom => t.zoomBlk.ref
         | some t, .focus => t.focusBlk.ref
       raw.direction ≤ 1 → raw.edge ≤ 1 → 1 ≤ raw.duty → raw.duty ≤ 255 → 1 ≤ raw.travel → raw.travel ≤ 65535 →
         refSetOf b ax p =
           { positive := decide (raw.direction = 1), rising := decide (raw.edge = 0), duty := raw.duty,
             travel := raw.travel, offset := raw.offset }) ∧
     ∀ (a : AxisUnit) (set : RefSet),
       let away := decide (a.refLevel = some set.rising)
       (searchStarted a set).referenced = false ∧ (searchStarted a set).state = .referencing ∧
       (searchStarted a set).output = .drive set.duty (if away then !set.positive else set.positive) ∧
       (searchStarted a set).counter = a.counter ∧
       (searchStarted a set).search = some { leaving := away, set := set, lastCounter := a.counter, still := 0 })

/-! ### Endings -/

/-- An ending begins: the outcome byte, the result word and the results are written, in three accesses of their own (the
model's choice, log 13), and a mirror rewrite is requested; while a rewrite is in progress the ending waits for two tails,
else for one (the model's reading, log 14). A plan that runs ends as its owner reports; one that an abort made finishing
ends CANCELLED with outcome OK; a report for any other plan finds nothing to do. A request of a mirror rewrite: the
rewrite-pending mark while one is in progress, else a rewrite is due. -/
def Obligations.PlanEndingBegins : Prop :=
  (∀ (b : Block) (k : PlanKind) (t : Taken) (fin : FinalState) (o : PlanOutcome) (word area : List Byte),
     let prog := fun (fin : FinalState) (o : PlanOutcome) =>
       ({ fin := fin
          outstanding :=
            [(.outcome, writeAt b (t.offset + 3) (leBytes 1 o.code)), (.word, writeAt b (t.offset + 12) word),
             (.area, writeAt b (t.offset + 40) area)]
          failed := none, failWrite := .notIssued, tails := if mirrorBusy b then 2 else 1 } : EndingProg)
     let begun := fun (fin : FinalState) (o : PlanOutcome) =>
       requestMirror { b with ple := { b.ple with taken := b.ple.taken.map fun x =>
         if x.kind = t.kind then { x with ending := .results (prog fin o) } else x } }
     (takenOf b k = none → endPlan k fin o word area b = b) ∧
     (takenOf b k = some t → t.ending = .running → endPlan k fin o word area b = begun fin o) ∧
     (takenOf b k = some t → t.ending = .cancelling → endPlan k fin o word area b = begun .cancelled .ok) ∧
     (∀ e, takenOf b k = some t → t.ending = .results e → endPlan k fin o word area b = b)) ∧
  (∀ b : Block,
     (mirrorBusy b = true → requestMirror b = { b with ple := { b.ple with rewritePending := true } }) ∧
     (mirrorBusy b = false → requestMirror b = { b with due := b.due ++ [.mirrorStart] }))

/-- A result write of an ending is answered: it leaves the writes that are waited for; after the last one, with no
failure, the final state is written once the mirror tails that it waits for are written (counted, the model's reading, log
14). The three writes are answered in any order (the model's choice, log 13). A result write that fails, by a bus error or
by a window fault, latches FAULT and raises WINDOW_FAULT; once the result writes are answered the outcome of the first
failure is written, BUS_ERROR or WINDOW, and after its response, failed or not, the final state FAILED. RUN stays set. -/
def Obligations.EndingResultsWritten : Prop :=
  ∀ (s : State) (b : Block) (t : Taken) (e : EndingProg) (w : ResultWrite) (acc : WriteAcc) (err : Bool), Settles s b →
    takenOf b t.kind = some t → t.ending = .results e →
    let f : Block :=
      match acc.fault err with
      | none => b
      | some c =>
        { b with regs := { b.regs with fault := latchIn c acc.offset b.regs.fault }, ntu := setFlag .windowFault b.ntu }
    let now := fun (g : Ending) =>
      { f with ple := { b.ple with
          taken := b.ple.taken.map fun x => if x.kind = t.kind then { x with ending := g } else x } }
    (e.outstanding.find? (fun x => x.1 == w) = some (w, acc) → e.failWrite = .notIssued →
      let left := e.outstanding.filter (fun x => x.1 != w)
      let failed := e.failed <|> acc.fault err
      (left ≠ [] →
        Runs (.endingResultsWriteDone t.kind w ⟨false, err⟩) s
          (now (.results { e with outstanding := left, failed := failed }))) ∧
      (left = [] → failed = none → e.tails ≠ 0 →
        Runs (.endingResultsWriteDone t.kind w ⟨false, err⟩) s (now (.results { e with outstanding := [] }))) ∧
      (left = [] → failed = none → e.tails = 0 →
        Runs (.endingResultsWriteDone t.kind w ⟨false, err⟩) s
          (now (.finalWrite (writeAt b t.offset (leBytes 1 e.fin.code))))) ∧
      (∀ c, left = [] → failed = some c →
        Runs (.endingResultsWriteDone t.kind w ⟨false, err⟩) s
          (now (.results { e with
            outstanding := [], failed := some c,
            failWrite := .outstanding (writeAt b (t.offset + 3) [if c = .window then 16#8 else 15#8]) })))) ∧
    (e.outstanding = [] → e.failed ≠ none → e.failWrite = .outstanding acc →
      (e.tails = 0 →
        Runs (.endingFailureOutcomeWriteDone t.kind ⟨false, err⟩) s (now (.finalWrite (writeAt b t.offset [4#8])))) ∧
      (e.tails ≠ 0 →
        Runs (.endingFailureOutcomeWriteDone t.kind ⟨false, err⟩) s (now (.results { e with failWrite := .answered }))))

/-- The final state write is answered: the entry leaves and its classes are free, PLAN_END is raised if NOTIFY is set, and
with RUN set a look is requested; capture control leaves ENDED with the ending of a CAPTURE plan. A write that fails, by a
bus error or by a window fault, latches FAULT and raises WINDOW_FAULT, and frees the classes too. -/
def Obligations.FinalStateFreesClasses : Prop :=
  ∀ (s : State) (b : Block) (t : Taken) (acc : WriteAcc) (err : Bool), Settles s b → takenOf b t.kind = some t →
    t.ending = .finalWrite acc →
    let fault := acc.fault err
    ∃ b' : Block,
      Runs (.finalStateWriteDone t.kind ⟨false, err⟩) s b' ∧
      b'.ple.taken = b.ple.taken.filter (fun x => x.kind != t.kind) ∧ b'.ple.cursor = b.ple.cursor ∧
      b'.regs =
        (match fault with
         | none => b.regs
         | some c => { b.regs with fault := latchIn c acc.offset b.regs.fault }) ∧
      b'.ntu =
        (let n := if fault.isSome then setFlag .windowFault b.ntu else b.ntu
         if t.notify then setFlag .planEnd n else n) ∧
      (b.regs.run = true → .lookStart ∈ b'.due ∨ b'.ple.lookPending = true) ∧
      b'.ftu = b.ftu ∧ b'.stu = b.stu ∧ b'.exu = b.exu ∧ b'.zoom = b.zoom ∧ b'.sbu = b.sbu ∧
      b'.cap = (if t.kind = .capture then { b.cap with state := .none } else b.cap) ∧ b'.fsu = b.fsu

/-! ### The status mirror -/

/-- A rewrite counts up and writes the head; the head's response issues the body with P as it stands, the body's response
the tail and any P write that was held; the tail's response ends the rewrite, or makes the pending one due, and every
ending that waits counts the tail (the model's reading, log 14): with the last one counted and its writes answered its final
state is written, FAILED if a result write failed. A write that fails, by a bus error or by a window fault,
latches FAULT and raises WINDOW_FAULT, and the rewrite goes on. The body holds the fields of the status mirror at their
offsets, and 0 in every other byte, with 0 in the fields of the newest entry while there is none and in the iris position
while the iris has no reference. -/
def Obligations.MirrorRewriteSteps : Prop :=
  (∀ (s : State) (b : Block), .mirrorStart ∈ s.due → dropDue .mirrorStart s.toBlock = b →
    Runs .mirrorRewriteStart s { b with ple := { b.ple with
      mirrorCount := b.ple.mirrorCount + 1
      mirror := .head (mirrorBody b) (writeAt b 0x040 (leWord (b.ple.mirrorCount + 1))) } }) ∧
  (∀ (s : State) (b : Block) (acc : WriteAcc) (err : Bool), Settles s b →
    let f : Block :=
      match acc.fault err with
      | none => b
      | some c =>
        { b with regs := { b.regs with fault := latchIn c acc.offset b.regs.fault }, ntu := setFlag .windowFault b.ntu }
    (∀ body, b.ple.mirror = .head body acc →
      Runs (.mirrorHeadWriteDone ⟨false, err⟩) s
        { f with ple := { b.ple with mirror := .body (writeAt b 0x044 (leWord b.fsu.p ++ body)) } }) ∧
    (b.ple.mirror = .body acc →
      Runs (.mirrorBodyWriteDone ⟨false, err⟩) s
        { f with
          ple := { b.ple with mirror := .tail (writeAt b 0x0FC (leWord b.ple.mirrorCount)) }
          fsu := { b.fsu with pWrites := b.fsu.pWrites.map fun w =>
            if w.acc.isNone then { w with acc := some (writeAt b 0x044 (leWord b.fsu.p)) } else w } }) ∧
    (b.ple.mirror = .tail acc →
      Runs (.mirrorTailWriteDone ⟨false, err⟩) s
        { f with
          ple := { b.ple with mirror := .idle, rewritePending := false, taken := b.ple.taken.map (countTail f) }
          due := if b.ple.rewritePending = true ∧ .mirrorStart ∉ b.due then b.due ++ [.mirrorStart] else b.due }) ∧
    (∀ t : Taken, (∀ e, t.ending ≠ .results e) → countTail b t = t) ∧
    ∀ (t : Taken) (e : EndingProg), t.ending = .results e →
      let counted : EndingProg := { e with tails := e.tails - 1 }
      (e.outstanding ≠ [] ∨ (∃ a, e.failWrite = .outstanding a) → countTail b t = { t with ending := .results counted }) ∧
      (∀ c, e.outstanding = [] → e.failed = some c → e.failWrite = .notIssued →
        countTail b t = { t with ending := .results { counted with
          failWrite := .outstanding (writeAt b (t.offset + 3) [if c = .window then 16#8 else 15#8]) } }) ∧
      (e.outstanding = [] → (e.failed = none ∧ e.failWrite = .notIssued ∨ e.failWrite = .answered) →
        (1 < e.tails → countTail b t = { t with ending := .results counted }) ∧
        (e.tails ≤ 1 →
          let state := if e.failed = none then e.fin.code else 4
          countTail b t = { t with ending := .finalWrite (writeAt b t.offset (leBytes 1 state)) }))) ∧
  (∀ b : Block,
    let entry := fun (l : Entry → List Byte) (n : Nat) => (b.ftu.pipeline.getLast?.map l).getD (List.replicate n 0#8)
    let fields : List (Nat × Nat × List Byte) :=
      [(0x048, 1, leBytes 1 b.ftu.stream.code), (0x049, 3, List.replicate 3 0#8), (0x04C, 4, leWord b.ftu.frameNo),
       (0x050, 4, leBytes 4 b.ftu.lineTime), (0x054, 2, leInt 2 b.exu.xTarget), (0x056, 1, leBytes 1 b.exu.lastM),
       (0x057, 1, List.replicate 1 0#8), (0x058, 2, leInt 2 b.exu.lastE), (0x05A, 6, List.replicate 6 0#8),
       (0x060, 4, entry (fun e => leWord e.k) 4), (0x064, 2, entry (fun e => leBytes 2 e.e) 2),
       (0x066, 1, entry (fun e => leBytes 1 e.g) 1), (0x067, 1, entry (fun e => leBytes 1 e.c) 1),
       (0x068, 2, entry (fun e => leInt 2 e.xTarget) 2), (0x06A, 2, entry (fun e => leInt 2 e.xApp) 2),
       (0x06C, 1, entry (fun e => leBytes 1 e.source.code) 1),
       (0x06D, 1, entry (fun e => leBytes 1 ((if e.underFlag then 1 else 0) + (if e.overFlag then 2 else 0) +
         (if e.slewFlag then 4 else 0))) 1),
       (0x06E, 1, entry (fun e => leBytes 1 e.sbu.code) 1), (0x06F, 1, entry (fun e => if e.late then [1#8] else [0#8]) 1),
       (0x070, 2, leInt 2 (position b.zoom)), (0x072, 1, leBytes 1 b.zoom.state.code),
       (0x073, 1, leBytes 1 b.focus.state.code), (0x074, 2, leInt 2 (position b.focus)), (0x076, 2, leBytes 2 b.zmap.u),
       (0x078, 1, leBytes 1 (reportedState b.sbu).code),
       (0x079, 1, leBytes 1 (if b.iris.referenced then b.iris.position else 0)), (0x07A, 2, leInt 2 b.sbu.pitch.s),
       (0x07C, 2, leInt 2 b.sbu.yaw.s), (0x07E, 126, List.replicate 126 0#8)]
    mirrorBody b = fields.flatMap (·.2.2) ∧ (∀ f ∈ fields, f.2.2.length = f.2.1) ∧
      fields.IsChain (fun f g => g.1 = f.1 + f.2.1))

/-! ### Frame timing -/

/-- In STOPPED an FS is ignored. LS pulses in STOPPED, WAITING_SYNC and LOST are not counted. The period counter stops at
its limit and holds there. An expiry of a sync timer that does not run changes nothing, nor does the limit of a period
counter that does not run (the model's choice, log 3). -/
def Obligations.SyncPulsesIgnored : Prop :=
  (∀ (s : State) (b : Block) (n : Nat) (w : Bool), Settles s b → b.ftu.stream = .stopped → Runs (.frameSync n w) s b) ∧
  (∀ (s : State) (b : Block) (px : List Pixel), Settles s b →
     (b.ftu.stream = .stopped ∨ b.ftu.stream = .waitingSync ∨ b.ftu.stream = .lost) → Runs (.lineSync px) s b) ∧
  (∀ (s : State) (b : Block), Settles s b →
     (b.ftu.periodRun = true → Runs .periodCounterLimit s { b with ftu := { b.ftu with period := 120000000 } }) ∧
     (b.ftu.periodRun = false → Runs .periodCounterLimit s b) ∧
     (b.ftu.syncTimer = false → Runs .syncTimerExpiry s b))

/-- An FS in WAITING_SYNC or LOST raises frame-start: MEASURING is entered, the sync timer runs, the period counter restarts
from 0, the next frame number is used, the frame is UNTIMED, the accumulators are cleared, Q is read; out of LOST the
SYNC_LOST condition ends, and the line time and the period known stay.
A frame-start does its steps in order (that order is the model's choice, log 34): the pipeline work, the statistics, the
request of a mirror rewrite, the read of Q, capture control; a waiting swap of tables is made before or after them, as the
operand says. The pipeline work drops a due entry; with every entry acknowledged it makes the frame's entry the current one
and calls for the entry of L frames later, else it re-keys the late one; the iris is asked toward the next frame's entry. -/
def Obligations.FrameSyncStartsMeasuring : Prop :=
  (∀ (s : State) (b : Block) (n : Nat) (w : Bool), Settles s b →
    (b.ftu.stream = .waitingSync ∨ b.ftu.stream = .lost) →
    Runs (.frameSync n w) s
      (frameStart true false w
        { b with
          ftu := { b.ftu with stream := .measuring, syncTimer := true, periodRun := true, period := 0 }
          ntu := if b.ftu.stream = .lost then { b.ntu with syncLost := false } else b.ntu }) ∧
    ∃ b' : Block,
      Runs (.frameSync n w) s b' ∧
      b'.ftu.stream = .measuring ∧ b'.ftu.syncTimer = true ∧ b'.ftu.periodRun = true ∧ b'.ftu.period = 0 ∧
      b'.ftu.frameNo = b.ftu.frameStarts ∧ b'.ftu.frameStarts = b.ftu.frameStarts + 1 ∧
      b'.ftu.lineTime = b.ftu.lineTime ∧ b'.ftu.lineMeasured = b.ftu.lineMeasured ∧
      b'.ftu.prevPeriod = b.ftu.prevPeriod ∧
      b'.ftu.frame =
        some { k := b.ftu.frameStarts, ls := 0, done := 0, linePx := none, short := false, ended := false,
               opened := false } ∧
      b'.stu.frame = some { k := b.ftu.frameStarts, periodJump := false, untimed := true } ∧
      b'.stu.zoneSums = List.replicate 64 0 ∧ b'.stu.focusAcc = 0 ∧
      (b.ftu.stream = .lost → b'.ntu.syncLost = false) ∧
      b'.fsu.qReads.map (·.acc) = b.fsu.qReads.map (·.acc) ++ [readAt b 0x004 4] ∧
      b'.regs = b.regs ∧ b'.sbu = b.sbu ∧ b'.exu = b.exu) ∧
  (∀ (b : Block) (untimed jump : Bool),
    let k := b.ftu.frameStarts
    let work := fun h : Block =>
      capFrameStart k jump (readQ (requestMirror (statsFrameStart k jump untimed (pipelineWork k
        { h with ftu := { h.ftu with
            frameNo := k, frameStarts := k + 1
            frame := some
              { k := k, ls := 0, done := 0, linePx := none, short := false, ended := false, opened := false } } }))))
    frameStart untimed jump false b = swapTables (some k) (work b) ∧
    frameStart untimed jump true b = work (swapTables (some k) b)) ∧
  ∀ (b : Block) (k : Word),
    let l := BitVec.ofNat 32 ((b.ftu.fmt.map (·.latency)).getD 0)
    let h : Block :=
      { b with ftu := { b.ftu with dueEntry := none }, due := b.due.filter (· ≠ .dueEntry) }
    let current := fun c : Block =>
      { c with ftu := { c.ftu with
          pipeline := c.ftu.pipeline.map fun e => if e.k = k then { e with role := .current } else e } }
    let c :=
      if ∀ e ∈ b.ftu.pipeline, e.send = .acknowledged then callEntry (.create (k + l)) (current h)
      else current (rekeyLate k h)
    (∀ e, entryOf c (k + 1) = some e → pipelineWork k b = irisRequest e.c c) ∧
    (entryOf c (k + 1) = none → pipelineWork k b = c)

/-- An FS in MEASURING or RUNNING captures the period: the line time becomes floor(P / F) and is measured, but for a
period that has jumped, which holds the line time and marks the frame that starts; RUNNING follows, with the next frame
number. The frame in progress is finished first: one that has not ended ends short, and a window-open not raised yet is
raised; a line in progress ends before that. Then the frame-start does its work; the one that ends MEASURING ends the
STREAM start plan DONE, with the line time and the period. -/
def Obligations.FrameSyncCapturesPeriod : Prop :=
  (∀ (s : State) (b : Block) (n : Nat) (w : Bool) (fmt : StreamParams), Settles s b → b.ftu.fmt = some fmt →
    (b.ftu.stream = .measuring ∨ b.ftu.stream = .running) →
    let p := if b.ftu.period = 120000000 then 120000000 else min n 120000000
    let jumped := ∃ q, b.ftu.prevPeriod = some q ∧ q < (max (p - q) (q - p)) * 8
    (∀ jump : Bool, (jump = true ↔ b.ftu.lineMeasured = true ∧ jumped) →
      let u := finishFrame b
      let c : Block :=
        { u with ftu := { u.ftu with
            stream := .running, syncTimer := true, periodRun := true, period := 0, prevPeriod := some p
            lineMeasured := true, lineTime := if jump then b.ftu.lineTime else p / fmt.lines } }
      (b.ftu.stream = .running → Runs (.frameSync n w) s (frameStart false jump w c)) ∧
      (b.ftu.stream = .measuring →
        Runs (.frameSync n w) s
          (endPlan .streamStart .done .ok (leBytes 4 c.ftu.lineTime) (streamArea p) (frameStart true jump w c)))) ∧
    ∃ b' : Block,
      Runs (.frameSync n w) s b' ∧
      b'.ftu.stream = .running ∧ b'.ftu.prevPeriod = some p ∧ b'.ftu.lineMeasured = true ∧ b'.ftu.period = 0 ∧
      b'.ftu.frameNo = b.ftu.frameStarts ∧ b'.ftu.frameStarts = b.ftu.frameStarts + 1 ∧
      ((b.ftu.lineMeasured = false ∨ ¬jumped) → b'.ftu.lineTime = p / fmt.lines) ∧
      (b.ftu.lineMeasured = true → jumped → b'.ftu.lineTime = b.ftu.lineTime) ∧
      b'.stu.frame.map (·.k) = some b.ftu.frameStarts ∧
      (b'.stu.frame.map (·.periodJump) = some true ↔ b.ftu.lineMeasured = true ∧ jumped) ∧
      b'.stu.frame.map (·.untimed) = some (decide (b.ftu.stream = .measuring)) ∧
      b'.regs.run = b.regs.run) ∧
  (∀ (b : Block) (f : FrameProg) (n : Nat), b.ftu.frame = some f → f.linePx = some n →
    finishFrame b =
      finishFrame (storeLineEnd (statsLineEnd { b with ftu := { b.ftu with
        frame := some { f with
          linePx := none, done := f.done + 1
          short := f.short || decide (n < (b.ftu.fmt.map (·.width)).getD 0) } } }))) ∧
  ∀ (b : Block) (f : FrameProg), b.ftu.frame = some f → f.linePx = none →
    (f.ended = true → (f.opened = true ∨ entryOf b (f.k + 1) = none) → finishFrame b = b) ∧
    (f.ended = true → f.opened = false → entryOf b (f.k + 1) ≠ none → finishFrame b = raiseWindowOpen f b) ∧
    (f.ended = false → f.opened = true → finishFrame b = raiseFrameEnd f.k true false b) ∧
    (f.ended = false → f.opened = false →
      let r := raiseFrameEnd f.k true false b
      (entryOf r (f.k + 1) = none → finishFrame b = r) ∧
      (entryOf r (f.k + 1) ≠ none → finishFrame b = raiseWindowOpen { f with ended := true } r))

/-- An LS begins line j of the frame: the line in progress ends as a completed active line, an active line counts its
pixels and begins at both taps, the LS that begins line A_l raises the frame-end, the one that begins line F − E of the next
frame's entry its window-open, in this order (the model's choice, log 34), and an LS beyond line F − 1 is ignored. A line that
ends is added to the statistics and finished in the frame store, and one of fewer than W pixels gives LINE_COUNT. At the
frame-end the entry of the frame becomes closing, the statistics raise stats-ready at their three consumers, the
stabilization unit hands the frame store its reported state and the peak of the frame, 0 with no window of it, and drops the
windows of that frame and below, and the frame store acts. An active line begins in the frame store for the frame whose lines
it takes, with its first W pixels, the missing ones 0; a line of any other frame, and one after an overrun, does not. -/
def Obligations.LineSyncCountsLines : Prop :=
  (∀ (s : State) (b : Block) (px : List Pixel) (fmt : StreamParams) (f : FrameProg), Settles s b →
    (b.ftu.stream = .measuring ∨ b.ftu.stream = .running) → b.ftu.fmt = some fmt → b.ftu.frame = some f →
    (fmt.lines ≤ f.ls → Runs (.lineSync px) s b) ∧
    (f.ls < fmt.lines →
      let counted := fun h : Block =>
        { h with ftu := { h.ftu with frame := h.ftu.frame.map fun g => { g with ls := f.ls + 1 } } }
      let ends := f.ls = fmt.active ∧ f.ended = false
      ∃ (b' : Block) (f' : FrameProg),
        Runs (.lineSync px) s b' ∧
        b' = lineWindowOpen fmt f.ls (beginLine fmt f.ls px (lineFrameEnd fmt f.ls (counted (endLine b)))) ∧
        b'.ftu.frame = some f' ∧ f'.k = f.k ∧ f'.ls = f.ls + 1 ∧
        f'.done = (if f.linePx.isSome then f.done + 1 else f.done) ∧
        f'.short = (f.short || decide (∃ n, f.linePx = some n ∧ n < fmt.width)) ∧
        f'.ended = (f.ended || decide (f.ls = fmt.active)) ∧
        f'.linePx = (if f.ls < fmt.active ∧ f.ended = false then some px.length else none) ∧
        (ends → (∀ e ∈ b'.ftu.pipeline, e.k = f.k → e.role = .closing) ∧
          ∀ sf g l, b.stu.frame = some sf → b.stu.geom = some g → b.stu.latched = some l →
            ∃ r : StatsRecord,
              b'.exu.inbox = b.exu.inbox ++ [r] ∧ b'.afu.inbox = b.afu.inbox ++ [r] ∧
              b'.fsu.inbox = b.fsu.inbox ++ [r] ∧ r.k = sf.k ∧ r.cut = false ∧ r.lineCount = f'.short) ∧
        (¬ends →
          b'.exu.inbox = b.exu.inbox ∧ b'.afu.inbox = b.afu.inbox ∧ b'.fsu.inbox = b.fsu.inbox ∧
          b'.ftu.pipeline = b.ftu.pipeline) ∧
        b'.ftu.stream = b.ftu.stream ∧ b'.ftu.fmt = b.ftu.fmt ∧ b'.ftu.lineTime = b.ftu.lineTime ∧
        b'.ftu.frameNo = b.ftu.frameNo ∧ b'.exu.prm = b.exu.prm ∧ b'.zoom = b.zoom ∧ b'.focus = b.focus)) ∧
  (∀ (b : Block) (f : FrameProg), b.ftu.frame = some f →
    (f.linePx = none → endLine b = b) ∧
    ∀ n, f.linePx = some n →
      endLine b =
        storeLineEnd (statsLineEnd { b with ftu := { b.ftu with
          frame := some { f with
            linePx := none, done := f.done + 1
            short := f.short || decide (n < (b.ftu.fmt.map (·.width)).getD 0) } } })) ∧
  (∀ (b : Block) (fmt : StreamParams) (f : FrameProg) (j : Nat) (px : List Pixel), b.ftu.frame = some f →
    (j = fmt.active → f.ended = false → lineFrameEnd fmt j b = raiseFrameEnd f.k f.short false b) ∧
    (j ≠ fmt.active ∨ f.ended = true → lineFrameEnd fmt j b = b) ∧
    (j < fmt.active → f.ended = false →
      beginLine fmt j px b =
        storeLineBegin f.k fmt.width px
          (statsLineBegin j px { b with ftu := { b.ftu with frame := some { f with linePx := some px.length } } })) ∧
    (fmt.active ≤ j ∨ f.ended = true → beginLine fmt j px b = b) ∧
    (entryOf b (f.k + 1) = none → lineWindowOpen fmt j b = b)) ∧
  (∀ (b : Block) (k : Word) (lineCount cut : Bool),
    let st := statsFrameEnd lineCount cut
      { b with ftu := { b.ftu with
          frame := b.ftu.frame.map fun f => { f with ended := true }
          pipeline := b.ftu.pipeline.map fun e => if e.k = k then { e with role := .closing } else e } }
    let dropped : Block :=
      { st with sbu := { st.sbu with windows := b.sbu.windows.filter fun w => frameAbove w.k k } }
    (∀ w, b.sbu.windows.find? (fun x => x.k == k) = some w →
      raiseFrameEnd k lineCount cut b = storeFrameEnd k cut (reportedState b.sbu) w.peak dropped) ∧
    ((∀ w ∈ b.sbu.windows, w.k ≠ k) →
      raiseFrameEnd k lineCount cut b = storeFrameEnd k cut (reportedState b.sbu) 0 dropped)) ∧
  ∀ (b : Block) (k : Word) (width : Nat) (px : List Pixel),
    (∀ f, b.fsu.cur = some f → f.k = k → f.frameEnded = false → b.fsu.overrun = false →
      ∃ row : List Pixel,
        storeLineBegin k width px b = { b with fsu := { b.fsu with line := some row } } ∧ row.length = width ∧
        ∀ x, x < width → row[x]? = some (px.getD x 0#12)) ∧
    ((∀ f, b.fsu.cur = some f → f.k ≠ k ∨ f.frameEnded = true ∨ b.fsu.overrun = true) →
      storeLineBegin k width px b = b)

/-- An expiry of the sync timer in RUNNING, and in MEASURING with no STREAM start plan to end (none taken, or one that is
finishing already: the model's reading, log 43), cuts the frame in progress
and enters LOST: the timer stops, SYNC_LOST becomes true, the window-open lists are emptied, and line time, format and
frame number stay. An expiry of the sync timer in WAITING_SYNC, and in MEASURING with the STREAM start plan TAKEN: the
frame in progress is cut, STOPPED is entered, the pipeline is emptied, and the plan ends FAILED NO_SYNC with result word
and period 0. A frame that is cut gives a stats-ready with CUT, which is not valid, and with LINE_COUNT for an active line
of fewer than W pixels, the one in progress included (the model's reading, log 50). The entry to LOST ends a capture that
runs with SYNC_LOST, unless BUS_ERROR is its cause already: with a slot FILLING it drains; with none it ends at once, FAILED,
or CANCELLED with outcome OK after an abort, the capture lock and SLOT_WAIT cleared, continuous AF stopped, and a slot
request that is still undecided withdrawn (the model's choice, log 66). The entry to STOPPED leaves capture control alone. -/
def Obligations.SyncTimerExpires : Prop :=
  ∀ (s : State) (b : Block), Settles s b → b.ftu.syncTimer = true →
    let ended := fun b' : Block =>
      b'.ftu.syncTimer = false ∧ b'.ftu.frame = none ∧ b'.ftu.lineTime = b.ftu.lineTime ∧
      b'.ftu.frameNo = b.ftu.frameNo ∧ b'.ftu.frameStarts = b.ftu.frameStarts ∧ b'.ftu.fmt = b.ftu.fmt ∧
      b'.afu.candidates = [] ∧ b'.sbu.windows = [] ∧ b'.fsu.notes = [] ∧
      ∀ f sf g l, b.ftu.frame = some f → f.ended = false → b.stu.frame = some sf → b.stu.geom = some g →
        b.stu.latched = some l →
        ∃ r : StatsRecord, b'.exu.inbox = b.exu.inbox ++ [r] ∧ r.k = sf.k ∧ r.cut = true ∧ r.valid = false ∧
          r.lineCount = (f.short || f.linePx.any fun n => decide (n < (b.ftu.fmt.map (·.width)).getD 0))
    (b.ftu.stream = .running ∨ b.ftu.stream = .measuring ∧ planRunning b .streamStart = false →
      let cause : PlanOutcome := if b.cap.endCause = some .busError then .busError else .syncLost
      let runs := b.cap.state = .armed ∨ b.cap.state = .storing ∨ b.cap.state = .draining
      ∃ b' : Block,
        Runs .syncTimerExpiry s b' ∧ b'.ftu.stream = .lost ∧ b'.ntu.syncLost = true ∧ ended b' ∧
        (¬runs → b'.cap = b.cap) ∧
        (runs → b.cap.filling = true → b'.cap = { b.cap with state := .draining, endCause := some cause }) ∧
        (runs → b.cap.filling = false →
          b'.cap.state = .ended ∧ b'.cap.stored = b.cap.stored ∧ b'.exu.lock = false ∧ b'.ntu.slotWait = false ∧
          b'.afu.cafActive = false ∧ (∀ f, b'.fsu.cur = some f → f.slot ≠ none) ∧
          b'.cap.endCause = some (if planCancelling b .capture then .ok else cause) ∧
          ∀ t, takenOf b .capture = some t →
            (t.ending = .running →
              ∃ e, takenOf b' .capture = some { t with ending := .results e } ∧ e.fin = .failed ∧
                (ResultWrite.outcome, writeAt b (t.offset + 3) (leBytes 1 cause.code)) ∈ e.outstanding ∧
                (ResultWrite.word, writeAt b (t.offset + 12) (leWord b.cap.stored)) ∈ e.outstanding) ∧
            (t.ending = .cancelling →
              ∃ e, takenOf b' .capture = some { t with ending := .results e } ∧ e.fin = .cancelled ∧
                (ResultWrite.outcome, writeAt b (t.offset + 3) [0#8]) ∈ e.outstanding ∧
                (ResultWrite.word, writeAt b (t.offset + 12) (leWord b.cap.stored)) ∈ e.outstanding))) ∧
    (∀ t : Taken, b.ftu.stream = .waitingSync ∨ b.ftu.stream = .measuring → takenOf b .streamStart = some t →
      t.ending = .running →
      ∃ (b' : Block) (e : EndingProg),
        Runs .syncTimerExpiry s b' ∧ b'.ftu.stream = .stopped ∧ b'.ftu.pipeline = [] ∧ b'.ftu.link = .idle ∧ ended b' ∧
        b'.cap = b.cap ∧ takenOf b' .streamStart = some { t with ending := .results e } ∧ e.fin = .failed ∧
        e.outstanding =
          [(.outcome, writeAt b (t.offset + 3) [10#8]), (.word, writeAt b (t.offset + 12) (List.replicate 4 0#8)),
           (.area, writeAt b (t.offset + 40) (List.replicate 24 0#8))])

/-! ### The settings pipeline -/

/-- An ACK completes the send in flight; with an entry still unsent its send starts at once, but not in STOPPED. An ACK with
no send outstanding is ignored. The ACK of a send that a stop abandoned so completes a send of the next stream that waits by
then (the model's choice, log 58). -/
def Obligations.AckCompletesSend : Prop :=
  ∀ (s : State) (b : Block), Settles s b →
    (b.ftu.link = .idle → Runs .settingsAck s b) ∧
    (∀ e g, b.ftu.link = .waiting e g →
      let acked := b.ftu.pipeline.map fun x => if x.send = .sending then { x with send := .acknowledged } else x
      ((b.ftu.stream = .stopped ∨ ∀ x ∈ b.ftu.pipeline, x.send ≠ .unsent) →
        Runs .settingsAck s { b with ftu := { b.ftu with link := .idle, pipeline := acked } }) ∧
      (∀ x, b.ftu.stream ≠ .stopped → acked.find? (fun y => y.send == .unsent) = some x →
        Runs .settingsAck s { b with ftu := { b.ftu with
          link := .waiting x.e x.g
          pipeline := acked.map fun y => if y.send = .unsent ∧ y.k = x.k then { y with send := .sending } else y } }))

/-- The pipeline holds at most L entries when an entry joins: a call for a new entry beyond that makes it due. A due entry
is made once the pipeline has room, in STOPPED too (the model's reading, log 28): it joins with the values current then,
its send starts when the link is idle, and it is due no more; an entry whose frame has passed is dropped. In MEASURING
with the line time not measured the entry is the initial one as the take made it (log 47), else the program line's. A
frame-start that finds an entry not acknowledged re-keys it by one frame and calls for a copy of the entry before it,
marked late, its values fixed at the call (the model's reading, log 33). A release marks the entry of its frame, an entry
that is closing with both releases leaves (from the middle too: the model's choice, log 49), and a due entry becomes due
for making when one has left, but not in LOST. Window-open of the next frame is raised once, at the line F − E of its
entry or when the entry is made after that line: the focus search, the stabilization and the frame store each note the
frame, the oldest of four notes leaving. An entry that joins keeps the frame numbers of the pipeline strictly ascending.
-/
def Obligations.EntryCalls : Prop :=
  (∀ (b : Block) (d : DueEntry) (fmt : StreamParams), b.ftu.fmt = some fmt →
     (fmt.latency < b.ftu.pipeline.length →
       callEntry d b = { b with ftu := { b.ftu with dueEntry := some d } }) ∧
     (b.ftu.pipeline.length ≤ fmt.latency →
       (callEntry d b).ftu.pipeline.length = b.ftu.pipeline.length + 1 ∧
       (∀ k, d = .create k →
         callEntry d b =
           startSend { b with ftu := { b.ftu with
             pipeline := insertEntry (makeEntry b fmt k) b.ftu.pipeline } }) ∧
       ∀ e, d = .copy e →
         callEntry d b = { b with ftu := { b.ftu with pipeline := insertEntry e b.ftu.pipeline } })) ∧
  (∀ (s : State) (b : Block) (k : Word) (fmt : StreamParams), .dueEntry ∈ s.due →
     dropDue .dueEntry s.toBlock = b → b.ftu.dueEntry = some (.create k) → b.ftu.fmt = some fmt →
     b.ftu.stream ≠ .lost → b.ftu.pipeline.length ≤ fmt.latency →
     (frameAbove k b.ftu.frameNo = false →
       Runs .dueEntryCreate s { b with ftu := { b.ftu with dueEntry := none } }) ∧
     (frameAbove k b.ftu.frameNo = true →
       Runs .dueEntryCreate s
         (lateWindowOpen (startSend { b with ftu := { b.ftu with
           dueEntry := none
           pipeline := insertEntry (makeEntry { b with ftu := { b.ftu with dueEntry := none } } fmt k)
             b.ftu.pipeline } }))) ∧
     ∀ c : Block, (c.ftu.frame = none → lateWindowOpen c = c) ∧ (∀ e g, c.ftu.link = .waiting e g → startSend c = c)) ∧
  (∀ (b : Block) (fmt : StreamParams) (k : Word),
     (∀ e, b.ftu.stream = .measuring → b.ftu.lineMeasured = false → b.ftu.first = some e →
       makeEntry b fmt k = { e with k := k, send := .unsent }) ∧
     (b.ftu.stream ≠ .measuring ∨ b.ftu.lineMeasured = true → makeEntry b fmt k = programEntry b fmt k)) ∧
  (∀ (b : Block) (k : Word) (fmt : StreamParams), b.ftu.fmt = some fmt →
     let l := BitVec.ofNat 32 fmt.latency
     let keyed := b.ftu.pipeline.map fun e => if e.send = .acknowledged then e else { e with k := k + l }
     (entryOf b (k + l - 2) = none → rekeyLate k b = { b with ftu := { b.ftu with pipeline := keyed } }) ∧
     ∀ e, entryOf b (k + l - 2) = some e →
       let copy :=
         { e with k := k + l - 1, late := true, role := .pending, meterReleased := false, recordReleased := false }
       (fmt.latency < b.ftu.pipeline.length →
         rekeyLate k b = { b with ftu := { b.ftu with pipeline := keyed, dueEntry := some (.copy copy) } }) ∧
       (b.ftu.pipeline.length ≤ fmt.latency →
         rekeyLate k b = { b with ftu := { b.ftu with pipeline := insertEntry copy keyed } })) ∧
  (∀ (b : Block) (k : Word),
     let stays := fun e : Entry => decide (¬(e.role = .closing ∧ e.meterReleased = true ∧ e.recordReleased = true))
     let metered := (b.ftu.pipeline.map fun e => if e.k = k then { e with meterReleased := true } else e).filter stays
     let recorded := (b.ftu.pipeline.map fun e => if e.k = k then { e with recordReleased := true } else e).filter stays
     ∀ x ∈ [(meterRelease k b, metered), (recordRelease k b, recorded)],
       (b.ftu.dueEntry = none ∨ b.ftu.stream = .lost ∨ x.2.length = b.ftu.pipeline.length →
         x.1 = { b with ftu := { b.ftu with pipeline := x.2 } }) ∧
       (∀ fmt, b.ftu.dueEntry ≠ none → b.ftu.stream ≠ .lost → b.ftu.fmt = some fmt →
         b.ftu.pipeline.length ≤ fmt.latency + 1 → x.2.length < b.ftu.pipeline.length → .dueEntry ∉ b.due →
         x.1 = { b with ftu := { b.ftu with pipeline := x.2 }, due := b.due ++ [.dueEntry] })) ∧
  (∀ (b : Block) (fmt : StreamParams) (f : FrameProg) (e : Entry), b.ftu.fmt = some fmt → b.ftu.frame = some f →
     entryOf b (f.k + 1) = some e →
     let opened : Block :=
       { b with
         ftu := { b.ftu with frame := some { f with opened := true } }
         afu := { b.afu with
           candidates := b.afu.candidates.drop (if b.afu.candidates.length < 4 then 0 else 1) ++
             [{ k := f.k + 1, still := decide (b.focus.state = .idle) }] }
         sbu := { b.sbu with
           windows := b.sbu.windows.drop (if b.sbu.windows.length < 4 then 0 else 1) ++
             [{ k := f.k + 1, peak := max b.sbu.pitch.s.natAbs b.sbu.yaw.s.natAbs }] }
         fsu := { b.fsu with
           notes := b.fsu.notes.drop (if b.fsu.notes.length < 4 then 0 else 1) ++
             [{ k := f.k + 1, focus := position b.focus }] } }
     (∀ j, f.opened = false → j = fmt.lines - e.e → lineWindowOpen fmt j b = opened) ∧
     (∀ j, f.opened = true ∨ j ≠ fmt.lines - e.e → lineWindowOpen fmt j b = b) ∧
     (f.opened = false → fmt.lines - e.e < f.ls → lateWindowOpen b = opened) ∧
     (f.opened = true ∨ f.ls ≤ fmt.lines - e.e → lateWindowOpen b = b)) ∧
  (∀ (base : Word) (e : Entry) (l : List Entry),
     (∀ x ∈ e :: l, (x.k - base).toNat < 2147483648) → (∀ x ∈ l, x.k ≠ e.k) →
     l.Pairwise (fun x y => frameAbove y.k x.k = true) →
     (insertEntry e l).Pairwise (fun x y => frameAbove y.k x.k = true))

/-! ### Exposure -/

/-- The step conversions: lg16(n) is 16 k + floor(16 (n − 2^k) / 2^k) with k = floor(log2 n), ex16(s) is floor((16 + s mod
16) × 2^(s div 16) / 16); turning lines into steps and back never gives more lines, and ex16 rises with its argument. The
values of the zoom map: an interpolated value lies on the line through the two bracketing nodes, rounded half away from
zero, a conservative value is the smaller of the two; without tables the interpolated values are 0 and there is no limit;
while the zoom axis has no reference the conservative values and the focus limits are those over all nodes. The focus
limits lie the margin outside inf and near. u is recomputed from the focus position, in 0 to 1024, and stays where near
equals inf or the zoom axis has no reference. -/
def Obligations.StepConversions : Prop :=
  (∀ n : Nat, 1 ≤ n → n ≤ 65535 → 1 ≤ ex16 (lg16 n) ∧ ex16 (lg16 n) ≤ n ∧ lg16 n ≤ 255) ∧
  (∀ n k : Nat, 2 ^ k ≤ n → n < 2 ^ (k + 1) → lg16 n = 16 * k + 16 * (n - 2 ^ k) / 2 ^ k) ∧
  (∀ s t : Nat, s ≤ t → ex16 s ≤ ex16 t) ∧
  (∀ s : Nat, ex16 s = (16 + s % 16) * 2 ^ (s / 16) / 16) ∧
  (∀ num den : Int, 0 < den →
     let r := roundHalfAway num den
     2 * (num - r * den).natAbs ≤ den ∧ (2 * (num - r * den).natAbs = den → num.natAbs < (r * den).natAbs) ∧
     roundHalfAway (-num) (-den) = r) ∧
  (∀ (ns : List Node) (z : Int) (j : Nat) (a c : Node), ns.Pairwise (fun x y => x.p < y.p) → ns[j]? = some a →
     ns[j + 1]? = some c →
     let zc := max (firstPos ns) (min z (lastPos ns))
     a.p ≤ zc → (zc < c.p ∨ ns[j + 2]? = none) →
     (∀ v : Node → Int, interpolate v ns z = v a + roundHalfAway ((v c - v a) * (zc - a.p)) (c.p - a.p)) ∧
     ∀ v : Node → Nat, conservative v ns z = min (v a) (v c)) ∧
  (∀ (b : Block) (z : Int), b.zmap.tables = none →
     infAt b z = 0 ∧ nearAt b z = 0 ∧ focalAt b z = 0 ∧ gainAt b z = 0 ∧ handLimit b = none ∧ irisMax b = 0 ∧
     focusLimits b = { lo := -32768, hi := 32767 }) ∧
  (∀ (b : Block) (t : Tables) (z : Int), b.zmap.tables = some t →
     let whole := fun x : Int => max (-32768) (min x 32767)
     let here := position b.zoom
     infAt b z = interpolate (·.inf) t.nodes z ∧ nearAt b z = interpolate (·.near) t.nodes z ∧
     focalAt b z = interpolate (·.focal) t.nodes z ∧ gainAt b z = interpolate (·.gain) t.nodes z ∧
     (b.zoom.referenced = true →
       handLimit b = some (conservative (·.hand) t.nodes here) ∧ irisMax b = conservative (·.cMax) t.nodes here ∧
       focusLimits b =
         { lo := whole (min (infAt b here) (nearAt b here) - b.zmap.margin)
           hi := whole (max (infAt b here) (nearAt b here) + b.zmap.margin) }) ∧
     (b.zoom.referenced = false → t.nodes ≠ [] →
       ∃ x ∈ t.nodes, ∃ y ∈ t.nodes, ∃ l ∈ t.nodes, ∃ h ∈ t.nodes,
         handLimit b = some x.hand ∧ irisMax b = y.cMax ∧
         focusLimits b =
           { lo := whole (min l.inf l.near - b.zmap.margin), hi := whole (max h.inf h.near + b.zmap.margin) } ∧
         ∀ n ∈ t.nodes, x.hand ≤ n.hand ∧ y.cMax ≤ n.cMax ∧ min l.inf l.near ≤ min n.inf n.near ∧
           max n.inf n.near ≤ max h.inf h.near)) ∧
  ∀ b : Block,
    let i := infAt b (position b.zoom)
    let n := nearAt b (position b.zoom)
    (n = i ∨ b.zoom.referenced = false → recomputeU b = b) ∧
    (n ≠ i → b.zoom.referenced = true →
      recomputeU b = { b with zmap := { b.zmap with
        u := (max 0 (min (roundHalfAway ((position b.focus - i) * 1024) (n - i)) 1024)).toNat } })

/-- The program line. The requested exposure X, the shutter limit (the frame's, and outside MANUAL the handheld limit, with
the stabilization bonus only in ACTIVE), the shutter floor, C within the slew of the newest entry's C, S and G follow one
another; the entry carries them, with UNDER or OVER as X_app lies below or above X and IRIS_SLEW where the slew cut C. So
1 ≤ E ≤ E_max, 0 ≤ G ≤ G_max, 0 ≤ C ≤ C_max, X_app = S + G − C, and outside MANUAL S ≤ lg16(E_hand). -/
def Obligations.ProgramEntryBounds : Prop :=
  ∀ (b : Block) (fmt : StreamParams) (k : Word), fmt.margin < fmt.lines → fmt.lines ≤ 16383 →
    let p := b.exu.prm
    let manual := effectiveMode b.exu = .manual
    let frame := lg16 (fmt.lines - fmt.margin)
    let bonus := if reportedState b.sbu = .active then p.bonus else 0
    let handLines := (handLimit b).map fun h =>
      if b.ftu.lineTime = 0 then 65535 else max 1 (min 65535 (h * 100 * 2 ^ bonus / b.ftu.lineTime))
    let limit := if manual then frame else min frame ((handLines.map lg16).getD 255)
    let floor := min (lg16 p.floor) limit
    let x : Int := if manual then (p.sm : Int) + p.gm - p.cm else b.exu.xTarget
    let cPrev : Nat := (b.ftu.pipeline.getLast?.map (·.c)).getD (if b.iris.referenced then b.iris.position else 0)
    let cTarget : Int :=
      if manual then min p.cm (irisMax b) else if x < floor then min ((floor : Int) - x) (irisMax b) else 0
    let change : Int := max (-(p.slew : Int)) (min (cTarget - cPrev) p.slew)
    let c : Int := min (cPrev + change) (irisMax b)
    let s : Int := if manual then max 0 (min ((p.sm : Int) + c - p.cm) frame) else max 0 (min (x + c) limit)
    let g : Int := max 0 (min (x + c - s) p.gMax)
    let e := programEntry b fmt k
    e.k = k ∧ e.e = ex16 s.toNat ∧ (e.g : Int) = g ∧ (e.c : Int) = c ∧ e.xTarget = x ∧ e.xApp = s + g - c ∧
    (e.underFlag = true ↔ e.xApp < x) ∧ (e.overFlag = true ↔ x < e.xApp) ∧
    (e.slewFlag = true ↔ change ≠ cTarget - cPrev) ∧
    1 ≤ e.e ∧ e.e ≤ fmt.lines - fmt.margin ∧ e.g ≤ p.gMax ∧ e.c ≤ irisMax b ∧
    (∀ h, ¬manual → handLines = some h → s ≤ lg16 h) ∧
    e.source = effectiveMode b.exu ∧ e.sbu = reportedState b.sbu ∧ e.zoomPos = position b.zoom ∧ e.send = .unsent ∧
    e.role = .pending ∧ e.late = false ∧ e.meterReleased = false ∧ e.recordReleased = false

/-- Metering of a valid frame with its entry: M is the mean of the levels, rounded half up, weighted by the table that the
parameters select, every zone alike before the first tables, e the target step plus
the compensation minus M's step (128 for M = 0), the settled flag tells whether e lies in the deadband, and in effective
mode AUTO with every later entry at the same X_target the new X_target is X_app plus the correction; the entry gets its
metering release and the frame store its result. The correction: 0 in the deadband; else e × response / 4 truncated toward
zero and clamped to the step limit, and 0 in place of a rise while more zones than the guard are clipped. A frame that is
not valid, or has no closing entry, is passed over: the exposure unit changes nothing but its list, and the metering release
goes out all the same, with M and e 0. Where the metered mark is the last of the four marks of the frame that fills, its
record is built with that result and written at its slot; else no record is. A frame of an ended stream, whose entry left with
the pipeline, only leaves the list: its release is ignored. -/
def Obligations.MeteringUpdatesExposure : Prop :=
  let stores := fun (b : Block) (k : Word) (m : Nat) (e : Int) (b' : Block) =>
    ((∀ f, b.fsu.cur = some f → f.k ≠ k) → b'.fsu = b.fsu) ∧
    ∀ f, b.fsu.cur = some f → f.k = k →
      let f' : StoreFrame := { f with m := m, e := e, metered := true }
      let last := f.frameEnded = true ∧ f.statsHandled = true ∧ f.answered = true ∧ b.fsu.recWrite = none
      (¬last ∨ f.slot = none → b'.fsu = { b.fsu with cur := some f' }) ∧
      ∀ slot, f.slot = some slot → last → (f.entry ≠ none ∨ ∀ en, entryOf b k = some en → en.recordReleased = false) →
        b'.fsu = { b.fsu with
          cur := some f', recWrite := some (writeAt b (0x800 + 64 * slot) (frameRecord b f')) }
  (∀ (s : State) (b : Block) (r : StatsRecord) (rest : List StatsRecord) (en : Entry), Settles s b →
     b.exu.inbox = r :: rest → r.old = false → entryOf b r.k = some en → en.role = .closing → r.valid = true →
     let wt := weightsOf b
     let m := (2 * (List.zipWith (· * ·) wt r.levels).sum + wt.sum) / (2 * wt.sum)
     let e : Int := if m = 0 then 128 else (lg16 b.exu.prm.target : Int) + b.exu.prm.comp - lg16 m
     let hold := ∀ x ∈ b.ftu.pipeline, frameAbove x.k en.k = true → x.xTarget = en.xTarget
     ∃ b' : Block,
       Runs .metering s b' ∧
       b'.exu.inbox = rest ∧ b'.exu.prm = b.exu.prm ∧ b'.exu.lock = b.exu.lock ∧ b'.exu.lastM = m ∧ b'.exu.lastE = e ∧
       (b'.exu.settled = true ↔ e.natAbs ≤ b.exu.prm.deadband) ∧
       (effectiveMode b.exu = .auto → hold → b'.exu.xTarget = en.xApp + correction b.exu.prm r.clipped e) ∧
       (effectiveMode b.exu ≠ .auto ∨ ¬hold → b'.exu.xTarget = b.exu.xTarget) ∧
       (∀ x ∈ b'.ftu.pipeline, x.k = r.k → x.meterReleased = true) ∧
       stores b r.k m e b' ∧ b'.zoom = b.zoom ∧ b'.focus = b.focus ∧ b'.sbu = b.sbu ∧ b'.regs = b.regs) ∧
  (∀ b : Block,
     (b.zmap.tables = none → weightsOf b = List.replicate 64 1) ∧
     ∀ t l, b.zmap.tables = some t → t.weights[b.exu.prm.table]? = some l → weightsOf b = l) ∧
  (∀ (p : ExpParams) (clipped : Nat) (e : Int),
     let c : Int := max (-(p.stepMax : Int)) (min ((e * p.response).tdiv 4) p.stepMax)
     (e.natAbs ≤ p.deadband → correction p clipped e = 0) ∧
     (p.deadband < e.natAbs → p.guardZones < clipped → 0 < c → correction p clipped e = 0) ∧
     (p.deadband < e.natAbs → (clipped ≤ p.guardZones ∨ c ≤ 0) → correction p clipped e = c)) ∧
  (∀ (s : State) (b : Block) (r : StatsRecord) (rest : List StatsRecord), Settles s b → b.exu.inbox = r :: rest →
     (r.old = true → Runs .metering s { b with exu := { b.exu with inbox := rest } }) ∧
     (r.old = false → (r.valid = false ∨ ∀ en, entryOf b r.k = some en → en.role ≠ .closing) →
       ∃ b' : Block,
         Runs .metering s b' ∧ b'.exu = { b.exu with inbox := rest } ∧
         (∀ x ∈ b'.ftu.pipeline, x.k = r.k → x.meterReleased = true) ∧
         stores b r.k 0 0 b' ∧ b'.zoom = b.zoom ∧ b'.focus = b.focus ∧ b'.sbu = b.sbu ∧ b'.regs = b.regs))

/-! ### Statistics, and the other consumers of stats-ready -/

/-- The frame store handles the oldest stats-ready: for the frame it stores it collects the clipped count, the focus value
and the LINE_COUNT mark, and where that is the last of the four marks the record is built and written at its slot; any other
it passes over. The focus search unit handles the oldest stats-ready: its frame and
lower ones leave the candidate list; a frame that is not valid, or not a still candidate, is handed to nobody; with no
search a clean frame's value goes to continuous AF, which keeps the first one and steps on each later one; an event of an
ended stream only leaves the lists of events, and takes neither candidates nor the frame that is stored (the model's
choice, log 59). The statistics themselves: a frame-start latches the parameters and clears the accumulators; an active
line of a counted row gives each zone column the sum of its pixels and, in the rows of the window, the focus value the
differences of pixels two apart that reach the coring threshold; a line that ends is added to the zones of its row; the
frame-end gives each zone the level of its mean above black in steps of 16, counts the clipped zones, and is valid with no
mark but PERIOD_JUMP. -/
def Obligations.StatsReachConsumers : Prop :=
  (∀ (s : State) (b : Block) (r : StatsRecord) (rest : List StatsRecord), Settles s b → b.fsu.inbox = r :: rest →
     ((∀ f, b.fsu.cur = some f → f.k ≠ r.k ∨ r.old = true) →
       Runs .fsuStatsReady s { b with fsu := { b.fsu with inbox := rest } }) ∧
     (∀ f, b.fsu.cur = some f → f.k = r.k → r.old = false →
       let f' : StoreFrame :=
         { f with clipped := r.clipped, focusValue := r.focus, lineCount := r.lineCount, statsHandled := true }
       let last := f.frameEnded = true ∧ f.metered = true ∧ f.answered = true ∧ b.fsu.recWrite = none
       (¬last ∨ f.slot = none → Runs .fsuStatsReady s { b with fsu := { b.fsu with inbox := rest, cur := some f' } }) ∧
       ∀ slot, f.slot = some slot → last →
         Runs .fsuStatsReady s { b with fsu := { b.fsu with
           inbox := rest, cur := some f'
           recWrite := some (writeAt b (0x800 + 64 * slot) (frameRecord b f')) } })) ∧
  (∀ (s : State) (b : Block) (m : Msense) (r : StatsRecord) (rest : List StatsRecord), Settles s b →
     b.afu.inbox = r :: rest →
     let seen : Block :=
       { b with
         ldu := { b.ldu with msense := m }
         afu := { b.afu with inbox := rest, candidates := b.afu.candidates.filter fun c => r.old || frameAbove c.k r.k } }
     let clean := r.old = false ∧ r.valid = true ∧ ∃ c ∈ b.afu.candidates, c.k = r.k ∧ c.still = true
     (¬clean → Runs (.afuStatsReady m) s seen) ∧
     (clean → b.afu.search = none → b.afu.cafActive = false → Runs (.afuStatsReady m) s seen) ∧
     (clean → b.afu.search = none → b.afu.cafActive = true → b.afu.cafLast = none →
       Runs (.afuStatsReady m) s { seen with afu := { seen.afu with cafLast := some r.focus } }) ∧
     (∀ last, clean → b.afu.search = none → b.afu.cafActive = true → b.afu.cafLast = some last →
       Runs (.afuStatsReady m) s (cafFrame r.focus seen)) ∧
     (∀ sr, clean → b.afu.search = some sr → (sr.moving = true ∨ sr.ended ≠ none) → Runs (.afuStatsReady m) s seen) ∧
     (∀ sr, clean → b.afu.search = some sr → sr.moving = false → sr.ended = none →
       Runs (.afuStatsReady m) s (searchSample sr r seen))) ∧
  (∀ (b : Block) (k : Word) (jump untimed : Bool),
     statsFrameStart k jump untimed b =
       { b with stu := { b.stu with
           latched :=
             some { black := b.exu.prm.black, clip := b.exu.prm.clip, window := b.stu.window, coring := b.stu.coring }
           frame := some { k := k, periodJump := jump, untimed := untimed }
           zoneSums := List.replicate 64 0, focusAcc := 0, line := none } }) ∧
  (∀ (b : Block) (g : Geom) (l : Latched) (f : StuFrame) (j : Nat) (px : List Pixel), b.stu.geom = some g →
     b.stu.latched = some l → b.stu.frame = some f → g.zw * 8 ≤ g.width → l.window.x1 ≤ 7 →
     let p := fun n : Nat => if n < g.width then (px.getD n 0#12).toNat else 0
     let term := fun n : Nat =>
       let d := ((p n : Int) - p (n - 2)).natAbs
       if l.coring ≤ d then d else 0
     (8 ≤ j / g.zh → statsLineBegin j px b = { b with stu := { b.stu with line := none } }) ∧
     (j / g.zh < 8 →
       ∃ a : LineAcc,
         statsLineBegin j px b = { b with stu := { b.stu with line := some a } } ∧ a.row = j / g.zh ∧
         (∀ i, i < 8 → a.sums.getD i 0 = ∑ n ∈ Finset.range g.zw, p (i * g.zw + n)) ∧
         (l.window.y0 ≤ a.row → a.row ≤ l.window.y1 →
           a.focus = min 4294967295
             (∑ n ∈ Finset.Ico (max 2 (l.window.x0 * g.zw)) ((l.window.x1 + 1) * g.zw), term n)) ∧
         (a.row < l.window.y0 ∨ l.window.y1 < a.row → a.focus = 0))) ∧
  (∀ b : Block,
     (b.stu.line = none → statsLineEnd b = b) ∧
     ∀ a, b.stu.line = some a →
       ∃ sums : List Nat,
         statsLineEnd b =
           { b with stu := { b.stu with
               zoneSums := sums, focusAcc := min 4294967295 (b.stu.focusAcc + a.focus), line := none } } ∧
         ∀ z, sums[z]? =
           b.stu.zoneSums[z]?.map fun v => if z / 8 = a.row then v + a.sums.getD (z % 8) 0 else v) ∧
  (∀ (b : Block) (g : Geom) (l : Latched) (f : StuFrame) (lineCount cut : Bool), b.stu.geom = some g →
     b.stu.latched = some l → b.stu.frame = some f →
     ∃ r : StatsRecord,
       statsFrameEnd lineCount cut b =
         { b with
           stu := { b.stu with frame := none, line := none }
           exu := { b.exu with inbox := b.exu.inbox ++ [r] }
           afu := { b.afu with inbox := b.afu.inbox ++ [r] }
           fsu := { b.fsu with inbox := b.fsu.inbox ++ [r] } } ∧
       r.k = f.k ∧ r.levels.length = b.stu.zoneSums.length ∧
       (∀ (z v : Nat), b.stu.zoneSums[z]? = some v →
         ∃ level : Nat, r.levels[z]? = some level ∧
           (level : Int) = max 0 (min ((((v / (g.zw * g.zh) : Nat) : Int) - l.black) / 16) 255)) ∧
       r.clipped = r.levels.countP (fun v => decide (l.clip ≤ v)) ∧ r.focus = b.stu.focusAcc ∧
       (r.valid = true ↔ f.untimed = false ∧ lineCount = false ∧ cut = false) ∧ r.untimed = f.untimed ∧
       r.periodJump = f.periodJump ∧ r.lineCount = lineCount ∧ r.cut = cut ∧ r.old = false)

/-! ### Lens: inputs and expiries -/

/-- A phase input that changes counts one step up or down by the order (0,0), (1,0), (1,1), (0,1), and nothing else changes
but, in a reference search, the travel used, and that the next level of the input is timed by the filter time in force; the
first level an input takes counts nothing (the model's choice, log 19), and the reference level alone counts nothing.
Both phases that change at one sample are an illegal transition: the counter stays, the axis loses its reference, LENS_FAULT
is raised, a move or a reference search is braked, and an axis that stands idle or faulted becomes UNREFERENCED; the focus
axis leaving IDLE so takes the still marks. A reference edge of that sample is not stored (the model's choice, log 65). -/
def Obligations.EncoderInputsCount : Prop :=
  (∀ (s : State) (b : Block) (ax : Axis), Settles s b →
     let a := axisOf b ax
     (∀ x y : Bool, a.phaseA = some x → a.phaseB = some y → a.search = none →
       Runs (.inputFilterAccept ax (some !x) none none) s
         (setAxis ax
           { a with
             phaseA := some !x, counter := a.counter + (if x = y then 1#16 else -1#16), filter := { a.filter with a := none } }
           b) ∧
       Runs (.inputFilterAccept ax none (some !y) none) s
         (setAxis ax
           { a with
             phaseB := some !y, counter := a.counter + (if x = y then -1#16 else 1#16), filter := { a.filter with b := none } }
           b) ∧
       Runs (.inputFilterAccept ax (some x) (some y) none) s
         (setAxis ax { a with filter := { a.filter with a := none, b := none } } b)) ∧
     (∀ v : Bool, a.search = none →
       Runs (.inputFilterAccept ax none none (some v)) s
         (setAxis ax { a with refLevel := some v, filter := { a.filter with ref := none } } b)) ∧
     (∀ (x y : Bool) (r : RefPlan) (srch : RefSearch), a.phaseA = some x → a.phaseB = some y →
       a.search = some srch → b.ldu.refPlan = some r →
       (∃ b' : Block,
         Runs (.inputFilterAccept ax (some !x) none none) s b' ∧ travelOf b' ax = travelOf b ax + 1 ∧
         axisOf b' ax =
           { a with
             phaseA := some !x, counter := a.counter + (if x = y then 1#16 else -1#16),
             filter := { a.filter with a := none } }) ∧
       ∃ b' : Block,
         Runs (.inputFilterAccept ax none (some !y) none) s b' ∧ travelOf b' ax = travelOf b ax + 1 ∧
         axisOf b' ax =
           { a with
             phaseB := some !y, counter := a.counter + (if x = y then -1#16 else 1#16),
             filter := { a.filter with b := none } }) ∧
     (∀ v : Bool, a.phaseA = none →
       Runs (.inputFilterAccept ax (some v) none none) s
         (setAxis ax { a with phaseA := some v, filter := { a.filter with a := none } } b)) ∧
     (∀ v : Bool, a.phaseB = none →
       Runs (.inputFilterAccept ax none (some v) none) s
         (setAxis ax { a with phaseB := some v, filter := { a.filter with b := none } } b))) ∧
  (∀ (s : State) (b : Block) (ax : Axis) (x y : Bool), Settles s b →
     let a := axisOf b ax
     ∀ ref : Option Bool, a.phaseA = some x → a.phaseB = some y →
     (ref = none ∨ a.search = none ∨ a.state = .referencing) →
     ∃ b' : Block,
       Runs (.inputFilterAccept ax (some !x) (some !y) ref) s b' ∧ (axisOf b' ax).refCount = a.refCount ∧
       (axisOf b' ax).counter = a.counter ∧ (axisOf b' ax).referenced = false ∧
       (axisOf b' ax).phaseA = some !x ∧ (axisOf b' ax).phaseB = some !y ∧
       (levelOf b.ntu .lensFault ≠ 0 → flagOf b'.ntu .lensFault = true) ∧ b'.regs = b.regs ∧
       (a.state = .moving ∨ a.state = .settling → a.move ≠ none →
         (axisOf b' ax).state = .braking ∧ (axisOf b' ax).output = .brake ∧ (axisOf b' ax).move = none) ∧
       (a.state = .referencing → a.search ≠ none →
         (axisOf b' ax).state = .braking ∧ (axisOf b' ax).output = .brake ∧ (axisOf b' ax).search = none) ∧
       (a.state = .idle ∨ a.state = .faulted ∨ a.state = .unreferenced → a.move = none →
         (axisOf b' ax).state = .unreferenced ∧ (axisOf b' ax).output = a.output) ∧
       (ax = .focus → a.state = .idle → a.move = none → ∀ c ∈ b'.afu.candidates, c.still = false) ∧
       (a.state = .braking → (axisOf b' ax).state = .braking))

/-- A control-period expiry of a move: with no check that stops it, the output follows the bands, the settle counter counts
down inside the tolerance and is loaded again outside it, and the move has settled at 0; the stall count, the hard limit
margin and three low supply samples stop the move. An expiry of the zoom axis that finds the position changed since the last
one tells the zoom map, with a move and without. -/
def Obligations.MoveExpiryBands : Prop :=
  (∀ (s : State) (b : Block) (ax : Axis) (ms : Msense) (first : MoveCheck) (p : AxisBlock) (m : Move), Settles s b →
    blockOf b ax = some p → (axisOf b ax).move = some m →
    ((axisOf b ax).state = .moving ∨ (axisOf b ax).state = .settling) →
    let a := axisOf b ax
    let d := a.target - position a
    let duty :=
      if d.natAbs ≤ p.d1 then p.duty1 else if d.natAbs ≤ p.d2 then p.duty2 else if d.natAbs ≤ p.d3 then p.duty3 else p.duty4
    let stall :=
      if m.prevDuty.any (fun n => decide (p.stallDuty ≤ n)) = true ∧ position a = a.lastPos then a.stall + 1 else 0
    let low := if ms.val ≤ p.supplyLevel then a.supplyLow + 1 else 0
    let settle := if d.natAbs ≤ p.tolerance then a.settle - 1 else p.settleTime
    let beyond :=
      position a < (limitsOf b ax).lo - p.hardMargin ∨ (limitsOf b ax).hi + p.hardMargin < position a
    (ax = .zoom → stall < p.stallPeriods → low < 3 → ¬beyond → settle ≠ 0 →
      let h : Block :=
        { b with
          ldu := { b.ldu with msense := ms }
          zoom := { a with
            state := if d.natAbs ≤ p.wst then .settling else .moving
            output := if d.natAbs ≤ p.wst then .brake else .drive duty (decide (0 < d))
            settle := settle, stall := stall, supplyLow := low, lastPos := position a, period := p.period
            move := some { m with
              expiries := min 65535 (m.expiries + 1)
              prevDuty := if d.natAbs ≤ p.wst then none else some duty } } }
      Runs (.controlPeriodExpiry ax ms first) s (if position a = a.lastPos then h else zoomMoved h)) ∧
    ∃ b' : Block,
      Runs (.controlPeriodExpiry ax ms first) s b' ∧
      (stall < p.stallPeriods → low < 3 → ¬beyond →
        axisOf b' ax =
          { a with
            state := if d.natAbs ≤ p.wst then .settling else .moving
            output := if d.natAbs ≤ p.wst then .brake else .drive duty (decide (0 < d))
            settle := settle, stall := stall, supplyLow := low, lastPos := position a, period := p.period
            move := some { m with
              expiries := min 65535 (m.expiries + 1)
              prevDuty := if d.natAbs ≤ p.wst then none else some duty } } ∧
        (.settled ax ∈ b'.due ↔ settle = 0 ∨ .settled ax ∈ b.due) ∧
        (ax = .focus → b'.zoom = b.zoom ∧ b'.zmap = b.zmap ∧ b'.afu = b.afu ∧ b'.ntu = b.ntu) ∧
        b'.ple = b.ple ∧ b'.regs = b.regs) ∧
      (p.stallPeriods ≤ stall → low < 3 → ¬beyond → .stall ax ∈ b'.due ∧ (axisOf b' ax).output = a.output) ∧
      (stall < p.stallPeriods → 3 ≤ low → ¬beyond → .supply ax ∈ b'.due ∧ (axisOf b' ax).output = a.output) ∧
      (beyond → first = .limit ∨ stall < p.stallPeriods ∧ low < 3 →
        (axisOf b' ax).state = .braking ∧ (axisOf b' ax).output = .brake ∧ (axisOf b' ax).move = none ∧
        (axisOf b' ax).stopFaulted = true ∧ (levelOf b.ntu .lensFault ≠ 0 → flagOf b'.ntu .lensFault = true))) ∧
  ∀ (s : State) (b : Block) (ms : Msense) (first : MoveCheck), Settles s b →
    (b.zoom.state = .unreferenced ∨ b.zoom.state = .idle ∨ b.zoom.state = .faulted) →
    let h : Block :=
      { b with
        ldu := { b.ldu with msense := ms }
        zoom := { b.zoom with period := ((blockOf b .zoom).map (·.period)).getD 20, lastPos := position b.zoom } }
    Runs (.controlPeriodExpiry .zoom ms first) s (if position b.zoom = b.zoom.lastPos then h else zoomMoved h)

/-- The ends of a move and of BRAKING. MOVE_SETTLED: IDLE with the output OFF, and a ZOOM or FOCUS plan ends DONE with the
position, the target as it stands at the ending (the model's choice, log 61), u set to its distance or computed from its
position; a move of the search or of continuous AF is reported to it, and a tracking move to nobody. The end of a zoom
move computes a tracking target while tracking is active. STALL_STOP, SUPPLY_LOW_STOP and MOVE_TIMER_EXPIRY: the axis is
braked, LENS_FAULT is raised and the plan ends FAILED with its outcome and detail, and the same target; a failed move ends
a search, stops continuous AF, or disables tracking. A hard limit at a control-period expiry (LIMIT) and an illegal
transition (ENCODER_FAULT) end a move in the same way. BRAKING ends in UNREFERENCED, FAULTED or IDLE with the output OFF;
without a REFERENCE plan nothing else changes. -/
def Obligations.MoveEnds : Prop :=
  ∀ (s : State) (b : Block),
    (∀ m : Move, .settled .zoom ∈ s.due → dropDue (.settled .zoom) s.toBlock = b → b.zoom.move = some m →
      m.giver = .zoomPlan → b.zmap.trackActive = false →
      Runs (.moveSettled .zoom) s
        (endPlan .zoom .done .ok (leInt 4 (position b.zoom)) (moveArea b.zoom.target .ok m.expiries 0)
          { b with zoom := { b.zoom with state := .idle, output := .off, move := none, moveTimer := none } })) ∧
    (∀ (m : Move) (u : Nat), .settled .focus ∈ s.due → dropDue (.settled .focus) s.toBlock = b →
      b.focus.move = some m → m.giver = .focusPlan (.distance u) →
      Runs (.moveSettled .focus) s
        (endPlan .focus .done .ok (leInt 4 (position b.focus)) (moveArea b.focus.target .ok m.expiries u)
          { b with
            focus := { b.focus with state := .idle, output := .off, move := none, moveTimer := none }
            zmap := { b.zmap with u := u } })) ∧
    (∀ m : Move, .settled .zoom ∈ s.due → dropDue (.settled .zoom) s.toBlock = b → b.zoom.move = some m →
      m.giver = .zoomPlan → b.zmap.trackActive = true →
      Runs (.moveSettled .zoom) s
        (trackTarget
          (endPlan .zoom .done .ok (leInt 4 (position b.zoom)) (moveArea b.zoom.target .ok m.expiries 0)
            { b with zoom := { b.zoom with state := .idle, output := .off, move := none, moveTimer := none } }))) ∧
    (∀ m : Move, .settled .focus ∈ s.due → dropDue (.settled .focus) s.toBlock = b → b.focus.move = some m →
      let h : Block := { b with focus := { b.focus with state := .idle, output := .off, move := none, moveTimer := none } }
      (∀ x, m.giver = .focusPlan (.position x) →
        Runs (.moveSettled .focus) s
          (endPlan .focus .done .ok (leInt 4 (position b.focus))
            (moveArea b.focus.target .ok m.expiries (recomputeU h).zmap.u) (recomputeU h))) ∧
      (m.giver = .search → Runs (.moveSettled .focus) s (searchMoveDone h)) ∧
      (m.giver = .caf → Runs (.moveSettled .focus) s { h with afu := { b.afu with cafMoving := false } }) ∧
      (m.giver = .tracking → Runs (.moveSettled .focus) s h)) ∧
    (∀ (m : Move) (o detail : PlanOutcome) (ax : Axis) (i : Instr),
      (i = .stallStop ax ∧ o = .stall ∧ detail = .stall ∧ .stall ax ∈ s.due ∧ dropDue (.stall ax) s.toBlock = b) ∨
        (i = .supplyLowStop ax ∧ o = .supplyLow ∧ detail = .supplyLow ∧ .supply ax ∈ s.due ∧
          dropDue (.supply ax) s.toBlock = b ∧ (axisOf b ax).search = none) ∨
        (i = .moveTimerExpiry ax ∧ o = .stall ∧ detail = .timeout ∧ Settles s b ∧ (axisOf b ax).moveTimer ≠ none) →
      (axisOf b ax).move = some m → (axisOf b ax).state ≠ .idle →
      let a := axisOf b ax
      let st : Block :=
        setAxis ax
          { a with
            state := .braking, output := .brake, braking := settleTimeOf b ax, stopFaulted := true, move := none,
            moveTimer := none, search := none }
          { b with ntu := setFlag .lensFault b.ntu }
      (ax = .zoom → m.giver = .zoomPlan →
        Runs i s
          (endPlan .zoom .failed o (leInt 4 (position a)) (moveArea a.target detail m.expiries 0) st)) ∧
      (∀ t, ax = .focus → m.giver = .focusPlan t →
        Runs i s
          (endPlan .focus .failed o (leInt 4 (position a)) (moveArea a.target detail m.expiries b.zmap.u) st)) ∧
      (ax = .focus → m.giver = .caf →
        Runs i s { st with
          afu := { b.afu with cafActive := false, cafMoving := false }, cap := { b.cap with cafOutcome := o } }) ∧
      (ax = .focus → m.giver = .search → Runs i s (searchMoveFailed o detail st)) ∧
      (ax = .focus → m.giver = .tracking → b.zmap.trackActive = true →
        Runs i s { st with zmap := { b.zmap with trackEnabled := false, trackActive := false } })) ∧
    (∀ (m : Move) (o : PlanOutcome) (n : Nat) (ax : Axis) (i : Instr), Settles s b → (axisOf b ax).move = some m →
      ((axisOf b ax).state = .moving ∨ (axisOf b ax).state = .settling) →
      let a := axisOf b ax
      (o = .limit ∧ n = min 65535 (m.expiries + 1) ∧ (∃ ms, i = .controlPeriodExpiry ax ms .limit) ∧
          (∃ p, blockOf b ax = some p ∧
            (position a < (limitsOf b ax).lo - p.hardMargin ∨ (limitsOf b ax).hi + p.hardMargin < position a))) ∨
        (o = .encoderFault ∧ n = m.expiries ∧
          ∃ x y, a.phaseA = some x ∧ a.phaseB = some y ∧ i = .inputFilterAccept ax (some !x) (some !y) none) →
      ∃ b' : Block,
        Runs i s b' ∧ (axisOf b' ax).state = .braking ∧ (axisOf b' ax).output = .brake ∧ (axisOf b' ax).move = none ∧
        (axisOf b' ax).moveTimer = none ∧ (axisOf b' ax).stopFaulted = decide (o = .limit) ∧
        (levelOf b.ntu .lensFault ≠ 0 → flagOf b'.ntu .lensFault = true) ∧ b'.regs = b.regs ∧
        let failed := fun (k : PlanKind) (ok : EndingProg → Prop) =>
          ∀ t, takenOf b k = some t → t.ending = .running →
            ∃ e, takenOf b' k = some { t with ending := .results e } ∧ e.fin = .failed ∧
              (ResultWrite.outcome, writeAt b (t.offset + 3) (leBytes 1 o.code)) ∈ e.outstanding ∧
              (ResultWrite.word, writeAt b (t.offset + 12) (leInt 4 (position a))) ∈ e.outstanding ∧ ok e
        (ax = .zoom → m.giver = .zoomPlan →
          failed .zoom fun e => ∃ x, (ResultWrite.area, x) ∈ e.outstanding ∧ x.data = moveArea a.target o n 0) ∧
        (ax = .focus →
          (∀ d, m.giver = .focusPlan d →
            failed .focus fun e => ∃ x, (ResultWrite.area, x) ∈ e.outstanding ∧ x.data = moveArea a.target o n b.zmap.u) ∧
          (m.giver = .caf → b'.afu.cafActive = false ∧ b'.afu.cafMoving = false ∧ b'.cap.cafOutcome = o) ∧
          (∀ sr, m.giver = .search → b.afu.search = some sr →
            (b.afu.writes ≠ [] →
              b'.afu.search = some { sr with moving := false, ended := some (.failed, o, o) }) ∧
            (b.afu.writes = [] → b'.afu.search = none ∧ failed .afSearch fun _ => True)) ∧
          (m.giver = .tracking → b'.zmap.trackEnabled = false ∧ b'.zmap.trackActive = false))) ∧
    (∀ ax : Axis, .braking ax ∈ s.due → dropDue (.braking ax) s.toBlock = b → (axisOf b ax).state = .braking →
      b.ldu.refPlan = none →
      let a := axisOf b ax
      Runs (.brakingEnd ax) s
        (setAxis ax
          { a with
            state := if a.referenced = false then .unreferenced else if a.stopFaulted then .faulted else .idle
            output := .off, braking := 0, stopFaulted := false } b)) ∧
    (∀ (ax : Axis) (ms : Msense) (first : MoveCheck), Settles s b → (axisOf b ax).state = .braking →
      1 < (axisOf b ax).braking → position (axisOf b ax) = (axisOf b ax).lastPos →
      Runs (.controlPeriodExpiry ax ms first) s
        (setAxis ax
          { axisOf b ax with
            braking := (axisOf b ax).braking - 1
            period := ((blockOf b ax).map (·.period)).getD 20 }
          { b with ldu := { b.ldu with msense := ms } }))

/-- A reference search. At its edge the axis takes the counter as reference count, becomes referenced and is braked; a count
of either phase at the sample of the edge is made first, and adds to the travel used (the model's choice, log 19). An illegal
transition ends the plan FAILED ENCODER_FAULT with LENS_FAULT and its results: in the search, also at the sample of the edge
(the model's choice, log 65), and while the axis of the stage in progress brakes behind its edge (the model's reading, log
23); the braking of an axis of another stage leaves the plan running. At an
expiry the leave leg reverses once the level has returned; 63 expiries without a count make REF_NO_MOTION due, which ends
the plan FAILED REF_FAIL with LENS_FAULT; more counts than the travel allows end it so at once, if no other check comes
first (the order is the command's operand, log 20), and three low supply samples make the supply stop due, which ends it
FAILED SUPPLY_LOW. Once BRAKING ends, the zoom search is followed by the iris stage, which drops the steps still scheduled
from an earlier request (the model's choice, log 64), and the focus search ends the plan DONE. -/
def Obligations.ReferenceSearch : Prop :=
  ∀ (s : State) (b : Block) (r : RefPlan), b.ldu.refPlan = some r →
    (∀ (ax : Axis) (srch : RefSearch), Settles s b → (axisOf b ax).search = some srch → srch.leaving = false →
      (axisOf b ax).refLevel = some !srch.set.rising → (axisOf b ax).state = .referencing →
      ∃ b' : Block,
        Runs (.inputFilterAccept ax none none (some srch.set.rising)) s b' ∧
        (axisOf b' ax).refCount = (axisOf b ax).counter ∧ (axisOf b' ax).counter = (axisOf b ax).counter ∧
        (axisOf b' ax).refOffset = BitVec.ofInt 16 srch.set.offset ∧ (axisOf b' ax).referenced = true ∧
        (axisOf b' ax).state = .braking ∧ (axisOf b' ax).output = .brake ∧ (axisOf b' ax).search = none ∧
        (axisOf b' ax).refLevel = some srch.set.rising ∧ b'.regs = b.regs ∧ b'.ntu = b.ntu) ∧
    (∀ (ax : Axis) (srch : RefSearch) (x y : Bool) (pa pb : Option Bool) (d : BitVec 16), Settles s b →
      (axisOf b ax).phaseA = some x → (axisOf b ax).phaseB = some y →
      (pa, pb, d) ∈ [(some !x, none, if x = y then 1#16 else -1#16), (none, some !y, if x = y then -1#16 else 1#16)] →
      (axisOf b ax).search = some srch → srch.leaving = false → (axisOf b ax).refLevel = some !srch.set.rising →
      let c := (axisOf b ax).counter + d
      ∃ b' : Block,
        Runs (.inputFilterAccept ax pa pb (some srch.set.rising)) s b' ∧
        (axisOf b' ax).counter = c ∧ (axisOf b' ax).refCount = c ∧ (axisOf b' ax).referenced = true ∧
        (axisOf b' ax).refOffset = BitVec.ofInt 16 srch.set.offset ∧ (axisOf b' ax).state = .braking ∧
        (axisOf b' ax).search = none ∧
        b'.ldu.refPlan = some (match ax with
          | .zoom => { r with zoomTravel := r.zoomTravel + 1, zoomEdge := some c }
          | .focus => { r with focusTravel := r.focusTravel + 1, focusEdge := some c })) ∧
    (∀ (ax : Axis) (x y : Bool) (ref : Option Bool), Settles s b →
      (axisOf b ax).phaseA = some x → (axisOf b ax).phaseB = some y →
      let inStage := match ax with
        | .zoom => r.stage = .zoom
        | .focus => r.stage = .focus
      ∃ b' : Block,
        Runs (.inputFilterAccept ax (some !x) (some !y) ref) s b' ∧
        ((axisOf b ax).state = .referencing ∧ (axisOf b ax).search ≠ none ∨
            (axisOf b ax).state = .braking ∧ inStage ∧ (axisOf b ax).search = none →
          (axisOf b' ax).state = .braking ∧ (axisOf b' ax).search = none ∧ (axisOf b' ax).referenced = false ∧
          (axisOf b' ax).counter = (axisOf b ax).counter ∧ (axisOf b' ax).refCount = (axisOf b ax).refCount ∧
          b'.ldu.refPlan = none ∧ (levelOf b.ntu .lensFault ≠ 0 → flagOf b'.ntu .lensFault = true) ∧
          ∀ t, takenOf b .reference = some t → t.ending = .running →
            ∃ e, takenOf b' .reference = some { t with ending := .results e } ∧ e.fin = .failed ∧
              e.outstanding =
                [(.outcome, writeAt b (t.offset + 3) [8#8]),
                 (.word, writeAt b (t.offset + 12) (leInt 4 (position b.zoom))),
                 (.area, writeAt b (t.offset + 40)
                   (referenceArea (position b.focus) (r.zoomEdge.getD b.zoom.counter) (r.focusEdge.getD b.focus.counter)
                     r.zoomTravel r.focusTravel))]) ∧
        ((axisOf b ax).state = .braking → ¬inStage → (axisOf b ax).search = none →
          b'.ldu.refPlan = some r ∧ takenOf b' .reference = takenOf b .reference)) ∧
    (∀ (ax : Axis) (srch : RefSearch) (ms : Msense) (first : MoveCheck), Settles s b →
      (axisOf b ax).search = some srch → (axisOf b ax).state = .referencing →
      travelOf b ax ≤ srch.set.travel →
      ((blockOf b ax).map (·.supplyLevel)).getD 0 < ms.val →
      let a := axisOf b ax
      let still := if a.counter = srch.lastCounter then srch.still + 1 else 0
      let back := srch.leaving = true ∧ a.refLevel ≠ some srch.set.rising
      ∃ b' : Block,
        Runs (.controlPeriodExpiry ax ms first) s b' ∧
        (still < 63 →
          axisOf b' ax =
            { a with
              search := some { srch with
                leaving := if back then false else srch.leaving, lastCounter := a.counter, still := still }
              output := if back then .drive srch.set.duty srch.set.positive else a.output
              supplyLow := 0, lastPos := position a
              period := ((blockOf b ax).map (·.period)).getD 20 }) ∧
        (63 ≤ still → .noMotion ax ∈ b'.due ∧ (axisOf b' ax).state = .referencing)) ∧
    (∀ (ax : Axis) (srch : RefSearch) (ms : Msense) (first : MoveCheck), Settles s b →
      (axisOf b ax).search = some srch → (axisOf b ax).state = .referencing →
      let low := if ms.val ≤ ((blockOf b ax).map (·.supplyLevel)).getD 0 then (axisOf b ax).supplyLow + 1 else 0
      let still := if (axisOf b ax).counter = srch.lastCounter then srch.still + 1 else 0
      ∃ b' : Block,
        Runs (.controlPeriodExpiry ax ms first) s b' ∧
        (srch.set.travel < travelOf b ax → first = .limit ∨ still < 63 ∧ low < 3 →
          (axisOf b' ax).state = .braking ∧ (axisOf b' ax).output = .brake ∧ (axisOf b' ax).search = none ∧
          (axisOf b' ax).stopFaulted = false ∧ b'.ldu.refPlan = none ∧
          (levelOf b.ntu .lensFault ≠ 0 → flagOf b'.ntu .lensFault = true) ∧
          ∀ t, takenOf b .reference = some t → t.ending = .running →
            ∃ e, takenOf b' .reference = some { t with ending := .results e } ∧ e.fin = .failed ∧
              (ResultWrite.outcome, writeAt b (t.offset + 3) [9#8]) ∈ e.outstanding) ∧
        (travelOf b ax ≤ srch.set.travel → still < 63 → 3 ≤ low →
          .supply ax ∈ b'.due ∧ (axisOf b' ax).state = .referencing ∧ (axisOf b' ax).supplyLow = low)) ∧
    (∀ (ax : Axis) (i : Instr) (o : PlanOutcome),
      (i = .refNoMotion ax ∧ o = .refFail ∧ .noMotion ax ∈ s.due ∧ dropDue (.noMotion ax) s.toBlock = b) ∨
        (i = .supplyLowStop ax ∧ o = .supplyLow ∧ .supply ax ∈ s.due ∧ dropDue (.supply ax) s.toBlock = b) →
      (axisOf b ax).search ≠ none → (axisOf b ax).state = .referencing →
      Runs i s
        (endPlan .reference .failed o (leInt 4 (position b.zoom))
          (referenceArea (position b.focus) (r.zoomEdge.getD b.zoom.counter) (r.focusEdge.getD b.focus.counter)
            r.zoomTravel r.focusTravel)
          (setAxis ax
            { axisOf b ax with
              state := .braking, output := .brake, braking := settleTimeOf b ax, stopFaulted := false, move := none,
              moveTimer := none, search := none }
            { b with ntu := setFlag .lensFault b.ntu, ldu := { b.ldu with refPlan := none } }))) ∧
    (.braking .zoom ∈ s.due → dropDue (.braking .zoom) s.toBlock = b → b.zoom.state = .braking →
      b.zoom.referenced = true → b.zoom.stopFaulted = false → r.stage = .zoom →
      Runs (.brakingEnd .zoom) s
        { b with
          zoom := { b.zoom with state := .idle, output := .off, braking := 0 }
          iris := { b.iris with referenced := false, steps := 0, stage := some (r.prm.cTravel + 8) }
          ldu := { b.ldu with refPlan := some { r with stage := .iris } } }) ∧
    (.braking .focus ∈ s.due → dropDue (.braking .focus) s.toBlock = b → b.focus.state = .braking →
      b.focus.referenced = true → b.focus.stopFaulted = false → r.stage = .focus →
      Runs (.brakingEnd .focus) s
        (endPlan .reference .done .ok (leInt 4 (position b.zoom))
          (referenceArea (position b.focus) (r.zoomEdge.getD b.zoom.counter) (r.focusEdge.getD b.focus.counter)
            r.zoomTravel r.focusTravel)
          { b with
            focus := { b.focus with state := .idle, output := .off, braking := 0 }
            ldu := { b.ldu with refPlan := none } }))

/-- PWM_PERIOD_START puts the output last set in force. An iris step moves the position by one toward the requested position
and never below 0 or above its travel; in the reference stage it counts the steps left, the position as it was (the model's
choice, log 67), and the last one makes the iris referenced at 0 with the plan's travel and starts the focus search, which
takes the still marks of the candidates if the focus axis was IDLE; at a low supply the plan ends FAILED SUPPLY_LOW instead,
with LENS_FAULT, the focus axis untouched and the iris referenced. -/
def Obligations.PwmAndIrisSteps : Prop :=
  ∀ (s : State) (b : Block), Settles s b →
    (∀ ax : Axis, Runs (.pwmPeriodStart ax) s (setAxis ax { axisOf b ax with inForce := (axisOf b ax).output } b)) ∧
    ∀ ms : Msense,
      let bm : Block := { b with ldu := { b.ldu with msense := ms } }
      (b.iris.stage = none → 0 < b.iris.steps → b.iris.position < b.iris.cTravel →
        Runs (.irisStep ms) s
          { bm with iris := { b.iris with position := b.iris.position + 1, steps := b.iris.steps - 1 } }) ∧
      (b.iris.stage = none → b.iris.steps < 0 → 0 < b.iris.position →
        Runs (.irisStep ms) s
          { bm with iris := { b.iris with position := b.iris.position - 1, steps := b.iris.steps + 1 } }) ∧
      (b.iris.stage = none →
        (b.iris.steps = 0 ∨ 0 < b.iris.steps ∧ b.iris.cTravel ≤ b.iris.position ∨
          b.iris.steps < 0 ∧ b.iris.position = 0) →
        Runs (.irisStep ms) s { bm with iris := { b.iris with steps := 0 } }) ∧
      (∀ (n : Nat) (r : RefPlan), b.iris.stage = some n → b.ldu.refPlan = some r →
        (1 < n → Runs (.irisStep ms) s { bm with iris := { b.iris with stage := some (n - 1) } }) ∧
        (n ≤ 1 → ((blockOf b .focus).map (·.supplyLevel)).getD 0 < ms.val →
          ∃ b' : Block,
            Runs (.irisStep ms) s b' ∧
            b'.iris = { position := 0, referenced := true, cTravel := r.prm.cTravel, steps := 0, stage := none } ∧
            b'.focus = searchStarted b.focus (refSetOf b .focus r.prm) ∧
            b'.ldu.refPlan = some { r with stage := .focus } ∧ b'.zoom = b.zoom ∧ b'.ntu = b.ntu ∧
            (b.focus.state = .idle → ∀ c ∈ b'.afu.candidates, c.still = false)) ∧
        (n ≤ 1 → ms.val ≤ ((blockOf b .focus).map (·.supplyLevel)).getD 0 →
          Runs (.irisStep ms) s
            (endPlan .reference .failed .supplyLow (leInt 4 (position b.zoom))
              (referenceArea (position b.focus) (r.zoomEdge.getD b.zoom.counter) (r.focusEdge.getD b.focus.counter)
                r.zoomTravel r.focusTravel)
              { b with
                iris := { position := 0, referenced := true, cTravel := r.prm.cTravel, steps := 0, stage := none }
                ldu := { refPlan := none, msense := ms }
                ntu := setFlag .lensFault b.ntu })))

/-! ### Tables and the trace -/

/-- A TABLES plan reads its four blocks in order; a set that fails validation ends it BAD_TABLE with the check and the
index, one that passes is swapped at once without a running stream and waits for a frame-start with one; a read that fails
ends it with WINDOW or BUS_ERROR and the offset; the result fields that its outcome gives no value are 0 (the model's
choice, log 63); after an abort the answered read, failed or not, ends it CANCELLED (that the ending waits for it is the
model's reading, log 24). The swap makes the set and its margin current, clamps both targets into the new limits, takes
over the new filter times, with the time before a change kept for the next level of each input (the model's choice, log
57), and ends the plan DONE, with the number of the frame whose frame-start carries it; an FS that raises a frame-start
carries the swap that waits. A set holds the 33 nodes, the two axis blocks and the four weight tables at their offsets;
validation answers the first check of Table 37 that fails, with its lowest index (the model's choice, log 62). The
answered write of trace sample i: it leaves the writes in flight and is counted; a failed one is not counted, stops
further trace writes, latches FAULT and raises WINDOW_FAULT. A search that has ended reports once the last one is
answered, with an error or without. -/
def Obligations.TablesAndTraceResponses : Prop :=
  (∀ (s : State) (b : Block) (p : TablesParams) (got : List (List Byte)) (acc : ReadAcc), Settles s b →
     let set := fun (l : Loading) => { b with zmap := { b.zmap with loading := l } }
     (b.zmap.loading = .reading p got acc → ∀ bs : List Byte, acc.addr ≠ none →
       (got.length < 3 →
         let next := [(p.zoomOff, 64), (p.focusOff, 64), (p.weightOff, 256)].getD got.length (0, 0)
         Runs (.tablesReadDone ⟨false, .data bs⟩) s
           (set (.reading p (got ++ [bs]) (readAt b next.1 next.2)))) ∧
       (got.length = 3 →
         let t := parseTableSet (got ++ [bs]) p.margin
         (∀ check index, validateTables t = some (check, index) →
           Runs (.tablesReadDone ⟨false, .data bs⟩) s
             (endPlan .tables .failed .badTable (leBytes 4 check) (tablesArea false 0 index 0) (set .idle))) ∧
         (validateTables t = none → b.ftu.stream ≠ .stopped → b.ftu.stream ≠ .waitingSync →
           Runs (.tablesReadDone ⟨false, .data bs⟩) s (set (.ready t))) ∧
         (validateTables t = none → b.ftu.stream = .stopped ∨ b.ftu.stream = .waitingSync →
           Runs (.tablesReadDone ⟨false, .data bs⟩) s (swapTables none (set (.ready t)))))) ∧
     (b.zmap.loading = .reading p got acc → ∀ (r : ReadResp) (c : FaultCode), acc.result r = .error c →
       Runs (.tablesReadDone ⟨false, r⟩) s
         (endPlan .tables .failed (if c = .window then .window else .busError) (leBytes 4 0)
           (tablesArea false 0 0 acc.offset)
           { set .idle with
             regs := { b.regs with fault := latchIn c acc.offset b.regs.fault }
             ntu := setFlag .windowFault b.ntu })) ∧
     (b.zmap.loading = .aborted acc →
       (∀ bs : List Byte, acc.addr ≠ none →
         Runs (.tablesReadDone ⟨false, .data bs⟩) s
           (endPlan .tables .cancelled .ok (List.replicate 4 0#8) (List.replicate 24 0#8) (set .idle))) ∧
       ∀ (r : ReadResp) (c : FaultCode), acc.result r = .error c →
         Runs (.tablesReadDone ⟨false, r⟩) s
           (endPlan .tables .cancelled .ok (List.replicate 4 0#8) (List.replicate 24 0#8)
             { set .idle with
               regs := { b.regs with fault := latchIn c acc.offset b.regs.fault }
               ntu := setFlag .windowFault b.ntu }))) ∧
  (∀ (b : Block) (t : Tables) (k : Option Word), b.zmap.loading = .ready t →
     let timed := fun (new : Nat) (f : FilterTimes) =>
       if new = f.now then f
       else
         { now := new, a := some (f.a.getD f.now), b := some (f.b.getD f.now), ref := some (f.ref.getD f.now) }
     let c : Block := { b with zmap := { b.zmap with tables := some t, margin := t.margin, loading := .idle } }
     let z : Limits := { lo := max t.zoomBlk.lo (firstPos t.nodes), hi := min t.zoomBlk.hi (lastPos t.nodes) }
     let f := focusLimits c
     swapTables k b =
       endPlan .tables .done .ok (List.replicate 4 0#8) (tablesArea k.isSome (k.getD 0) 0 0)
         { c with
           zmap := { c.zmap with zoomLim := z, focusLim := f }
           zoom := { b.zoom with
             filter := timed t.zoomBlk.filter b.zoom.filter, target := max z.lo (min b.zoom.target z.hi) }
           focus := { b.focus with
             filter := timed t.focusBlk.filter b.focus.filter, target := max f.lo (min b.focus.target f.hi) } }) ∧
  (∀ (s : State) (b : Block) (n : Nat) (w : Bool) (t : Tables), Settles s b → b.ftu.stream ≠ .stopped →
     b.zmap.loading = .ready t →
     ∃ b' : Block,
       Runs (.frameSync n w) s b' ∧ b'.zmap.tables = some t ∧ b'.zmap.margin = t.margin ∧ b'.zmap.loading = .idle ∧
       ∀ p, takenOf b .tables = some p → p.ending = .running →
         ∃ e, takenOf b' .tables = some { p with ending := .results e } ∧ e.fin = .done ∧
           (ResultWrite.area, writeAt b (p.offset + 40) (tablesArea true b.ftu.frameStarts 0 0)) ∈ e.outstanding) ∧
  (∀ (m z f w : List Byte) (margin : Nat),
     let t := parseTableSet [m, z, f, w] margin
     t.margin = margin ∧ t.nodes.length = 33 ∧ t.weights.length = 4 ∧
     (∀ j, j < 33 →
       t.nodes[j]? = some
         { p := s16 m (16 * j), focal := u16 m (16 * j + 2), hand := u16 m (16 * j + 4), cMax := u8 m (16 * j + 6),
           gain := u16 m (16 * j + 8), inf := s16 m (16 * j + 10), near := s16 m (16 * j + 12) }) ∧
     (∀ x ∈ [(z, t.zoomBlk), (f, t.focusBlk)], x.2 =
       { period := u8 x.1 0, filter := u8 x.1 1, wst := u8 x.1 2, tolerance := u8 x.1 3, settleTime := u8 x.1 4,
         stallPeriods := u8 x.1 5, stallDuty := u8 x.1 6, supplyLevel := u8 x.1 7, duty1 := u8 x.1 8, duty2 := u8 x.1 9,
         duty3 := u8 x.1 10, duty4 := u8 x.1 11, d1 := u16 x.1 12, d2 := u16 x.1 14, d3 := u16 x.1 16,
         moveTimeout := u16 x.1 18, lo := s16 x.1 20, hi := s16 x.1 22, hardMargin := u16 x.1 24,
         ref := { direction := u8 x.1 26, edge := u8 x.1 27, duty := u8 x.1 28, travel := u16 x.1 30, offset := s16 x.1 32 },
         trackStep := u16 x.1 34 }) ∧
     (∀ i j, i < 4 → j < 64 → (t.weights[i]?.bind fun l => l[j]?) = some (u8 w (64 * i + j))) ∧
     let out := fun (lo hi v : Nat) => v < lo ∨ hi < v
     let row := fun (zoom : Prop) (a : AxisBlock) (i : Nat) =>
       i = 1 ∧ out 2 40 a.period ∨ i = 2 ∧ out 1 15 a.filter ∨
       i = 3 ∧ (out 1 32767 a.d1 ∨ out 1 32767 a.d2 ∨ out 1 32767 a.d3) ∨ i = 5 ∧ out 1 255 a.wst ∨
       i = 7 ∧ out 1 63 a.settleTime ∨ i = 8 ∧ out 1 65535 a.moveTimeout ∨ i = 9 ∧ out 2 63 a.stallPeriods ∨
       i = 12 ∧ 32767 < a.hardMargin ∨ i = 13 ∧ 7 < a.supplyLevel ∨ i = 14 ∧ 1 < a.ref.direction ∨
       i = 15 ∧ 1 < a.ref.edge ∨ i = 16 ∧ out 1 255 a.ref.duty ∨ i = 17 ∧ out 1 65535 a.ref.travel ∨
       i = 19 ∧ ¬zoom ∧ out 1 4095 a.trackStep
     let order := fun (zoom : Prop) (a : AxisBlock) (i : Nat) =>
       i = 1 ∧ ¬(a.d1 < a.d2 ∧ a.d2 < a.d3) ∨ i = 2 ∧ ¬(a.duty1 ≤ a.duty2 ∧ a.duty2 ≤ a.duty3 ∧ a.duty3 ≤ a.duty4) ∨
       i = 3 ∧ a.wst < a.tolerance ∨ i = 4 ∧ zoom ∧ a.hi ≤ a.lo
     let fails := fun (c i : Nat) =>
       c = 1 ∧ 1 ≤ i ∧ i < 33 ∧ s16 m (16 * i) ≤ s16 m (16 * (i - 1)) ∨
       c = 2 ∧ i < 33 ∧ (u16 m (16 * i + 4) = 0 ∨ 96 < u8 m (16 * i + 6)) ∨
       c = 3 ∧ row True t.zoomBlk i ∨ c = 4 ∧ order True t.zoomBlk i ∨
       c = 5 ∧ row False t.focusBlk i ∨ c = 6 ∧ order False t.focusBlk i ∨
       c = 7 ∧ i = 0 ∧ min t.zoomBlk.hi (s16 m 512) < max t.zoomBlk.lo (s16 m 0) ∨
       c = 8 ∧ i < 256 ∧ 15 < u8 w i ∨ c = 9 ∧ i < 4 ∧ ∀ j, j < 64 → u8 w (64 * i + j) = 0
     ∀ c i, validateTables t = some (c, i) ↔
       fails c i ∧ (∀ j, j < i → ¬fails c j) ∧ ∀ d j, d < c → ¬fails d j) ∧
  (∀ (s : State) (b : Block) (i : Nat) (acc : WriteAcc) (err : Bool), Settles s b →
     b.afu.writes.find? (fun w => w.1 == i) = some (i, acc) →
     let left := b.afu.writes.filter (fun w => w.1 != i)
     let answered : Block :=
       match acc.fault err with
       | none => { b with afu := { b.afu with writes := left, written := b.afu.written + 1 } }
       | some c =>
         { b with
           regs := { b.regs with fault := latchIn c acc.offset b.regs.fault }
           ntu := setFlag .windowFault b.ntu
           afu := { b.afu with writes := left, traceStopped := true } }
     ((∀ sr, b.afu.search = some sr → sr.ended = none) → Runs (.traceWriteDone i ⟨false, err⟩) s answered) ∧
     (∀ (sr : Search) (fin : FinalState) (o detail : PlanOutcome), b.afu.search = some sr →
       sr.ended = some (fin, o, detail) →
       (left ≠ [] → Runs (.traceWriteDone i ⟨false, err⟩) s answered) ∧
       ∀ t : Taken, left = [] → takenOf b .afSearch = some t → t.ending = .running ∨ t.ending = .cancelling →
         let cancelled := decide (t.ending = .cancelling)
         ∃ (b' : Block) (e : EndingProg),
           Runs (.traceWriteDone i ⟨false, err⟩) s b' ∧ b'.afu = { answered.afu with search := none } ∧
           b'.regs = answered.regs ∧ b'.ntu = answered.ntu ∧ b'.focus = b.focus ∧
           takenOf b' .afSearch = some { t with ending := .results e } ∧
           e.fin = (if cancelled then .cancelled else fin) ∧
           (ResultWrite.outcome, writeAt b (t.offset + 3) (leBytes 1 (if cancelled then PlanOutcome.ok else o).code)) ∈
             e.outstanding ∧
           (ResultWrite.word, writeAt b (t.offset + 12) (leInt 4 (position b.focus))) ∈ e.outstanding ∧
           (ResultWrite.area, writeAt b (t.offset + 40) (afArea answered sr detail)) ∈ e.outstanding))

/-- A sample of the focus search joins the trace with the clamped target of its move, the focus value, the frame and the
phase; best is the greatest value, the first taken on equal values; the sample is written when the plan has a trace and no
write has failed. In COARSE a fall below q sixteenths of best's value counts below; at two, or past the limit with a best
that is not the last sample, the fine range around best is worked, and past the limit with best last the search ends at
EDGE; 32 samples end it TRACE_FULL. The fine range is sampled step by step in the search direction, and its best sample,
moved to the vertex of the parabola through it and its neighbours, but by at most half a fine step, is the final target.
The move to it that ends DONE ends the plan, FOUND or LOW_CONTRAST if no outcome was recorded; a refused or failed move
ends it FAILED. An ending is reported once no trace write is in flight, with the focus position of that moment as result
word (the model's choice, log 52). Continuous AF: a fall of more than h sixteenths of the last clean value turns the
direction; a step goes on in it, and turns it at a limit. -/
def Obligations.SearchSampleRecorded : Prop :=
  (∀ (b : Block) (sr : Search) (r : StatsRecord),
    let x : Sample := { position := sr.moveTarget, value := r.focus, frame := r.k, phase := sr.phase }
    let b' := searchSample sr r b
    b'.afu.trace = b.afu.trace ++ [x] ∧
    b'.afu.best =
      (if b.afu.best = none ∨ bestValue b.afu < r.focus then some b.afu.trace.length else b.afu.best) ∧
    b'.afu.writes =
      (if sr.prm.trace = 0 ∨ b.afu.traceStopped = true then b.afu.writes
        else b.afu.writes ++
          [(b.afu.trace.length, writeAt b (sr.prm.trace + 16 * b.afu.trace.length) (sampleBytes x))]) ∧
    b'.zoom = b.zoom ∧ b'.regs = b.regs ∧ b'.sbu = b.sbu) ∧
  (∀ (fine : Nat) (a v c : Int),
    -(fine / 2 : Nat) ≤ vertexOffset fine a v c ∧ vertexOffset fine a v c ≤ (fine / 2 : Nat)) ∧
  (∀ (b : Block) (sr : Search) (r : StatsRecord),
    let x : Sample := { position := sr.moveTarget, value := r.focus, frame := r.k, phase := sr.phase }
    let i := b.afu.trace.length
    let best := if b.afu.best = none ∨ bestValue b.afu < r.focus then some i else b.afu.best
    let below :=
      if bestValue b.afu < r.focus then 0 else if r.focus * 16 < bestValue b.afu * sr.prm.drop then b.afu.below + 1 else 0
    let h : Block := { b with afu := { b.afu with
      trace := b.afu.trace ++ [x], best := best, below := if sr.phase = .coarse then below else b.afu.below
      writes := if sr.prm.trace = 0 ∨ b.afu.traceStopped = true then b.afu.writes
        else b.afu.writes ++ [(i, writeAt b (sr.prm.trace + 16 * i) (sampleBytes x))] } }
    (32 ≤ i + 1 → searchSample sr r b = enterFinal { sr with recorded := some .traceFull } (bestPosition h.afu) h) ∧
    (i + 1 < 32 → sr.phase = .fine → searchSample sr r b = fineNext sr x.position h) ∧
    (i + 1 < 32 → sr.phase ≠ .fine → searchSample sr r b = coarseDecide sr x.position h)) ∧
  (∀ (b : Block) (sr : Search) (p : Int), b.afu.dir = 1 ∨ b.afu.dir = -1 →
    let l := b.zmap.focusLim
    let within := fun x : Int => max l.lo (min x l.hi)
    let n := p + sr.prm.coarse * b.afu.dir
    let span := sr.prm.coarse * b.afu.dir
    let past := b.afu.dir = 1 ∧ l.hi < n ∨ b.afu.dir = -1 ∧ n < l.lo ∨ (within n - p) * b.afu.dir ≤ 0
    let fine :=
      giveSearchMove
        { sr with
          phase := .fine, fineStart := within (bestPosition b.afu - span), fineEnd := within (bestPosition b.afu + span),
          fineIndex := 0 }
        (within (bestPosition b.afu - span)) b
    (b.afu.below = 2 → coarseDecide sr p b = fine) ∧
    (b.afu.below ≠ 2 → past → b.afu.best = some (b.afu.trace.length - 1) →
      coarseDecide sr p b = enterFinal { sr with recorded := some .edge } (bestPosition b.afu) b) ∧
    (b.afu.below ≠ 2 → past → b.afu.best ≠ some (b.afu.trace.length - 1) → coarseDecide sr p b = fine) ∧
    (b.afu.below ≠ 2 → ¬past → coarseDecide sr p b = giveSearchMove { sr with phase := .coarse } n b) ∧
    (∀ x : Int, enterFinal sr x b = giveSearchMove { sr with phase := .final, finalTarget := within x } x b) ∧
    let f := sr.fineStart + ((sr.fineIndex + 1 : Nat) : Int) * (sr.prm.fine * b.afu.dir)
    let done := 0 < (f - sr.fineEnd) * b.afu.dir ∨ (within f - p) * b.afu.dir ≤ 0
    (done → fineNext sr p b = finishFine sr b) ∧
    (¬done → fineNext sr p b = giveSearchMove { sr with fineIndex := sr.fineIndex + 1 } f b)) ∧
  (∀ (b : Block) (sr : Search) (i : Nat) (m : Sample),
    let l := b.afu.trace.filter fun x => decide (x.phase = .fine)
    let step : Int := sr.prm.fine * b.afu.dir
    (l.map (·.position)).Nodup → l[i]? = some m → (∀ x ∈ l, x.value ≤ m.value) →
    (∀ (j : Nat) (x : Sample), j < i → l[j]? = some x → x.value < m.value) →
    (∀ a c : Sample, a ∈ l → c ∈ l → a.position = m.position - step → c.position = m.position + step →
      let den : Int := a.value - 2 * m.value + c.value
      let half : Int := (sr.prm.fine / 2 : Nat)
      let off : Int :=
        if 0 ≤ den then 0 else max (-half) (min ((sr.prm.fine * ((a.value : Int) - c.value)).tdiv (2 * den)) half)
      finishFine sr b = enterFinal { sr with offset := off } (m.position + off * b.afu.dir) b) ∧
    ((∀ x ∈ l, x.position ≠ m.position - step) ∨ (∀ x ∈ l, x.position ≠ m.position + step) →
      finishFine sr b = enterFinal { sr with offset := 0 } m.position b)) ∧
  (∀ (b : Block) (sr : Search) (x : Int) (fin : FinalState) (o d : PlanOutcome),
    (∀ h, startMove .focus .search x b = (h, none) →
      giveSearchMove sr x b =
        { h with afu := { h.afu with search := some { sr with moving := true, moveTarget := h.focus.target } } }) ∧
    (∀ h, startMove .focus .search x b = (h, some o) → (∀ m, h.focus.move = some m → m.giver ≠ .tracking) →
      giveSearchMove sr x b = searchEnd sr .failed o o h) ∧
    (b.afu.writes ≠ [] →
      searchEnd sr fin o d b =
        { b with afu := { b.afu with search := some { sr with moving := false, ended := some (fin, o, d) } } }) ∧
    (b.afu.writes = [] → ∀ e,
      let h := if fin = .done then recomputeU b else b
      let word := leInt 4 (position b.focus)
      let area :=
        leInt 2 sr.finalTarget ++ leBytes 1 b.afu.trace.length ++ leBytes 1 b.afu.written ++ leBytes 4 (bestValue b.afu) ++
          leBytes 4 (minValue b.afu) ++ leBytes 1 (b.afu.best.getD 0) ++ leBytes 1 sr.phase.code ++ leInt 2 sr.offset ++
          leBytes 1 d.code ++ List.replicate 7 0#8
      e = endPlan .afSearch fin o word area
        { h with afu := { b.afu with search := some { sr with moving := false, ended := some (fin, o, d) } } } →
      searchEnd sr fin o d b = { e with afu := { e.afu with search := none } }) ∧
    (b.afu.search = some sr →
      searchMoveFailed o d b = searchEnd sr .failed o d b ∧
      (sr.phase ≠ .final → searchMoveDone b = { b with afu := { b.afu with search := some { sr with moving := false } } }) ∧
      (∀ q, sr.phase = .final → sr.recorded = some q → searchMoveDone b = searchEnd sr .done q .ok b) ∧
      (sr.phase = .final → sr.recorded = none →
        searchMoveDone b =
          searchEnd sr .done
            (if minValue b.afu < bestValue b.afu ∧ minValue b.afu * sr.prm.contrast ≤ bestValue b.afu * 16 then .found
              else .lowContrast) .ok b))) ∧
  ∀ (b : Block) (v last : Nat), b.afu.cafLast = some last →
    let dir := if last * b.afu.cafHyst < ((last : Int) - v) * 16 then -b.afu.cafDir else b.afu.cafDir
    let h : Block := { b with afu := { b.afu with cafLast := some v, cafDir := dir } }
    let x := position b.focus + b.afu.cafStep * dir
    let clipped := max b.zmap.focusLim.lo (min x b.zmap.focusLim.hi)
    (clipped = position b.focus → cafFrame v b = { h with afu := { h.afu with cafDir := -dir } }) ∧
    (∀ g, clipped ≠ position b.focus → startMove .focus .caf x h = (g, none) →
      cafFrame v b = { g with afu := { g.afu with cafMoving := true } }) ∧
    (∀ g o, clipped ≠ position b.focus → startMove .focus .caf x h = (g, some o) →
      cafFrame v b =
        { g with afu := { g.afu with cafActive := false, cafMoving := false }, cap := { g.cap with cafOutcome := o } })

/-! ### The gyro link and stabilization -/

/-- A gyro packet outside ACTIVE: OFF ignores it; in GYRO_LOST a packet in sequence advances the run, any other restarts
it at 1, and 16 make the recovery due; in CENTERING a packet moves the biases and the count, which at or above its
parameter has reached it (the model's reading, log 29), and a gap of four or more lost packets loses the gyro, as it does
in ACTIVE. Every packet but one in OFF restarts the gyro timer with the timeout loaded last and becomes the last sequence
number. A discarded packet changes nothing but the reception. -/
def Obligations.GyroPackets : Prop :=
  ∀ (s : State) (b : Block) (k : BitVec 40), Settles s b →
    let seq := k.extractLsb' 36 4
    let gap := match b.sbu.lastSeq with
      | none => 0
      | some l => (seq - l - 1#4).toNat
    let pitch : Int := (k.extractLsb' 16 8 ++ k.extractLsb' 24 8 : BitVec 16).toInt
    let yaw : Int := (k.extractLsb' 0 8 ++ k.extractLsb' 8 8 : BitVec 16).toInt
    let got : Sbu := { b.sbu with rx := none, lastSeq := some seq, gyroTimer := b.sbu.gyroTimeout }
    let cleared := fun (u : RotUnit) => { u with a := 0, d := 0, pan := false, run := 0, hold := 0, s := 0 }
    let centered := fun (u : RotUnit) (r : Int) => { u with b32 := u.b32 + (r * 256 - u.b32) / 16, a := 0, s := 0 }
    (b.sbu.base = .off → Runs (.gyroPacket k) s { b with sbu := { b.sbu with rx := none } }) ∧
    (b.sbu.base = .gyroLost →
      let run := if gap = 0 then b.sbu.inSeq + 1 else 1
      let lost : Sbu :=
        { got with inSeq := run, pitch := { b.sbu.pitch with s := 0 }, yaw := { b.sbu.yaw with s := 0 } }
      (run < 16 → Runs (.gyroPacket k) s { b with sbu := lost }) ∧
      (16 ≤ run → .recovered ∉ b.due → Runs (.gyroPacket k) s { b with sbu := lost, due := b.due ++ [.recovered] })) ∧
    (b.sbu.base = .centering → gap < 4 →
      let c : Sbu :=
        { got with
          centering := b.sbu.centering + 1, pitch := centered b.sbu.pitch pitch, yaw := centered b.sbu.yaw yaw }
      (b.sbu.centering + 1 < b.sbu.prm.centering → Runs (.gyroPacket k) s { b with sbu := c }) ∧
      (b.sbu.prm.centering ≤ b.sbu.centering + 1 → .centering ∉ b.due →
        Runs (.gyroPacket k) s { b with sbu := c, due := b.due ++ [.centering] })) ∧
    (b.sbu.base = .centering ∨ b.sbu.base = .active → 4 ≤ gap →
      Runs (.gyroPacket k) s { b with
        ntu := setCondIn .gyroLost true b.ntu
        sbu := { got with
          base := .gyroLost, inSeq := 1, sample := none, pitch := cleared b.sbu.pitch, yaw := cleared b.sbu.yaw } }) ∧
    Runs (.gyroPacketDiscard true) s { b with sbu := { b.sbu with rx := some 0 } } ∧
    Runs (.gyroPacketDiscard false) s { b with sbu := { b.sbu with rx := none } }

/-- The gyro timer's expiry loses the gyro in CENTERING and ACTIVE with the in-sequence run at 0, and restarts the run at
0 in GYRO_LOST; an expiry of a timer that does not run changes nothing (the model's choice, log 3). CENTERING_DONE enters
ACTIVE with both axes cleared; GYRO_RECOVERED enters CENTERING from its start and ends the GYRO_LOST condition;
SATURATION_HOLD_END ends a hold. PAN_FLAG_CHANGE: a run at or above the pan count has reached it (the model's reading, log
29) and makes the change of its axis's pan flag due; the change flips the flag, clears A and the run, and the sample goes
on, with A held at 0 while the flag is set. -/
def Obligations.GyroStatesAndPanFlags : Prop :=
  (∀ (s : State) (b : Block),
     let cleared := fun (u : RotUnit) => { u with a := 0, d := 0, pan := false, run := 0, hold := 0 }
     (Settles s b → b.sbu.gyroTimer ≠ none →
       (b.sbu.base = .centering ∨ b.sbu.base = .active →
         Runs .gyroTimerExpiry s { b with
           ntu := setCondIn .gyroLost true b.ntu
           sbu := { b.sbu with
             base := .gyroLost, inSeq := 0, sample := none, gyroTimer := none
             pitch := { cleared b.sbu.pitch with s := 0 }, yaw := { cleared b.sbu.yaw with s := 0 } } }) ∧
       (b.sbu.base = .gyroLost →
         Runs .gyroTimerExpiry s { b with sbu := { b.sbu with gyroTimer := none, inSeq := 0 } })) ∧
     (Settles s b → b.sbu.gyroTimer = none → Runs .gyroTimerExpiry s b) ∧
     (.centering ∈ s.due → dropDue .centering s.toBlock = b → b.sbu.base = .centering →
       Runs .centeringDone s { b with
         sbu := { b.sbu with base := .active, pitch := cleared b.sbu.pitch, yaw := cleared b.sbu.yaw } }) ∧
     (.recovered ∈ s.due → dropDue .recovered s.toBlock = b → b.sbu.base = .gyroLost →
       Runs .gyroRecovered s { b with
         ntu := { b.ntu with gyroLost := false }, sbu := { b.sbu with base := .centering, centering := 0 } }) ∧
     (.hold .pitch ∈ s.due → dropDue (.hold .pitch) s.toBlock = b →
       Runs (.saturationHoldEnd .pitch) s { b with sbu := { b.sbu with pitch := { b.sbu.pitch with hold := 0 } } }) ∧
     (.hold .yaw ∈ s.due → dropDue (.hold .yaw) s.toBlock = b →
       Runs (.saturationHoldEnd .yaw) s { b with sbu := { b.sbu with yaw := { b.sbu.yaw with hold := 0 } } })) ∧
  (∀ (s : State) (b : Block) (g : GyroSample) (r : Rot), .pan r ∈ s.due → dropDue (.pan r) s.toBlock = b →
     b.sbu.sample = some g →
     let u := rotOf b.sbu r
     let d := (match r with
       | .pitch => g.pitch
       | .yaw => g.yaw).d
     ∃ b' : Block,
       Runs (.panFlagChange r) s b' ∧ (rotOf b'.sbu r).pan = !u.pan ∧ (rotOf b'.sbu r).run = 0 ∧
       (rotOf b'.sbu r).b32 = u.b32 ∧ b'.sbu.base = b.sbu.base ∧ b'.ntu = b.ntu ∧
       (∀ q : Rot, .pan q ∈ b.due → b'.sbu.sample = some g ∧ (rotOf b'.sbu r).a = 0) ∧
       ((∀ q : Rot, .pan q ∉ b.due) →
         b'.sbu.sample = none ∧
         (rotOf b'.sbu r).a = (if u.pan then max (-1073741824) (min d 1073741824) else 0) ∧ (rotOf b'.sbu r).d = d)) ∧
  (∀ (s : State) (b : Block) (k : BitVec 40) (r : Rot), Settles s b → b.sbu.base = .active →
     let gap := match b.sbu.lastSeq with
       | none => 0
       | some l => (k.extractLsb' 36 4 - l - 1#4).toNat
     let rate : Int := match r with
       | .pitch => (k.extractLsb' 16 8 ++ k.extractLsb' 24 8 : BitVec 16).toInt
       | .yaw => (k.extractLsb' 0 8 ++ k.extractLsb' 8 8 : BitVec 16).toInt
     let prm := b.sbu.prm
     let u := rotOf b.sbu r
     let d := rate - u.b32 / 256
     let counts := if u.pan then d.natAbs < prm.panThreshold / 2 else prm.panThreshold < d.natAbs
     gap < 4 → counts → prm.panCount ≤ u.run + 1 →
     ∃ (b' : Block) (g : GyroSample),
       Runs (.gyroPacket k) s b' ∧ .pan r ∈ b'.due ∧ (∀ x ∈ b.due, x ∈ b'.due) ∧ b'.sbu.sample = some g ∧
       (match r with
         | .pitch => g.pitch
         | .yaw => g.yaw).d = d ∧
       (rotOf b'.sbu r).run = u.run + 1 ∧ (rotOf b'.sbu r).pan = u.pan ∧ (rotOf b'.sbu r).s = u.s ∧
       (rotOf b'.sbu r).b32 =
         (if prm.biasOn = true ∧ d.natAbs < prm.still then u.b32 + (rate * 256 - u.b32) / 2 ^ prm.track else u.b32) ∧
       b'.sbu.base = .active ∧ b'.sbu.gyroTimer = b.sbu.gyroTimeout ∧ b'.sbu.lastSeq = some (k.extractLsb' 36 4) ∧ b'.ntu = b.ntu)

/-- A packet in ACTIVE after fewer than four lost ones, where no pan flag changes: each axis fills the gap with its last
difference, takes the new difference, leaks and integrates within the bound, tracks its bias while still, and sends the
scaled angle clamped to the shift range, to which the peaks of the window list rise; a saturated sample sets the hold to
32, any other counts it down to the hold's end. A filled sample that saturates counts as saturation of the packet's sample
(the model's reading, log 44). A recording window, in which the leak has no boost, is open while the window list holds a frame
and capture control reports STORING: in STORING, and in DRAINING while the frame that fills has not had its frame-end. -/
def Obligations.GyroSampleInActive : Prop :=
  (∀ b : Block,
    capReportsStoring b = true ↔
      b.cap.state = .storing ∨
      b.cap.state = .draining ∧ ∃ f, b.fsu.cur = some f ∧ f.slot ≠ none ∧ f.frameEnded = false) ∧
  ∀ (s : State) (b : Block) (k : BitVec 40), Settles s b → b.sbu.base = .active → b.due = [] →
    let gap := match b.sbu.lastSeq with
      | none => 0
      | some l => (k.extractLsb' 36 4 - l - 1#4).toNat
    let prm := b.sbu.prm
    let h := if b.sbu.windows ≠ [] ∧ capReportsStoring b = true then prm.leak else max (prm.leak - prm.boost) 4
    let bound := fun (x : Int) => max (-1073741824) (min x 1073741824)
    let step := fun (d a : Int) => bound (a - a / 2 ^ h + d)
    let counts := fun (u : RotUnit) (d : Int) =>
      if u.pan then decide (d.natAbs < prm.panThreshold / 2) else decide (prm.panThreshold < d.natAbs)
    let run := fun (u : RotUnit) (r : Int) => if counts u (r - u.b32 / 256) then u.run + 1 else 0
    let after := fun (u v : RotUnit) (r : Int) =>
      let d := r - u.b32 / 256
      let a := if u.pan then 0 else step d ((step u.d)^[gap] u.a)
      let raw := (a * gainAt b (position b.zoom) + 524288) / 1048576
      v.a = a ∧ v.d = d ∧ v.s = max (-(prm.range : Int)) (min raw prm.range) ∧ v.pan = u.pan ∧ v.run = run u r ∧
      v.b32 =
        (if prm.biasOn = true ∧ d.natAbs < prm.still then u.b32 + (r * 256 - u.b32) / 2 ^ prm.track else u.b32) ∧
      let filled := u.pan = false ∧ ∃ i, 1 ≤ i ∧ i ≤ gap ∧ ((step u.d)^[i] u.a).natAbs = 1073741824
      (filled ∨ a.natAbs = 1073741824 ∨ v.s ≠ raw → v.hold = 32) ∧
      (¬(filled ∨ a.natAbs = 1073741824 ∨ v.s ≠ raw) → v.hold = if 1 < u.hold then u.hold - 1 else u.hold)
    let pitch : Int := (k.extractLsb' 16 8 ++ k.extractLsb' 24 8 : BitVec 16).toInt
    let yaw : Int := (k.extractLsb' 0 8 ++ k.extractLsb' 8 8 : BitVec 16).toInt
    gap < 4 → run b.sbu.pitch pitch < prm.panCount → run b.sbu.yaw yaw < prm.panCount →
    ∃ b' : Block,
      Runs (.gyroPacket k) s b' ∧ after b.sbu.pitch b'.sbu.pitch pitch ∧ after b.sbu.yaw b'.sbu.yaw yaw ∧
      b'.sbu.base = .active ∧ b'.sbu.sample = none ∧ b'.sbu.gyroTimer = b.sbu.gyroTimeout ∧
      b'.sbu.lastSeq = some (k.extractLsb' 36 4) ∧ b'.ntu = b.ntu ∧ b'.zoom = b.zoom ∧ b'.ftu = b.ftu ∧
      b'.sbu.windows =
        b.sbu.windows.map (fun w => { w with peak := max w.peak (max b'.sbu.pitch.s.natAbs b'.sbu.yaw.s.natAbs) }) ∧
      (.hold .pitch ∈ b'.due ↔ b.sbu.pitch.hold = 1 ∧ b'.sbu.pitch.hold = 1) ∧
      (.hold .yaw ∈ b'.due ↔ b.sbu.yaw.hold = 1 ∧ b'.sbu.yaw.hold = 1)

/-! ### Capture and the frame store -/

/-- The answer to a read of Q: an unchanged Q ends a refusal; a Q that releases no more frames than are held is taken; any
other is refused, with RELEASE_FAULT and FAULT for a value not refused already; a failed read latches FAULT, raises
WINDOW_FAULT and leaves Q, with a refused value as it stands (the model's choice, log 54). Of two reads the older one is
answered first (the model's choice, log 55). -/
def Obligations.ReleasedCountRead : Prop :=
  ∀ (s : State) (b : Block) (q : QRead) (rest : List QRead) (bs : List Byte), Settles s b →
    b.fsu.qReads = q :: rest → q.request = none →
    let v := BitVec.ofNat 32 (u32 bs 0)
    let more := (v - b.fsu.heldQ).toNat
    let held := (b.fsu.p - b.fsu.heldQ).toNat
    (q.acc.addr ≠ none → more = 0 →
      Runs (.qReadDone ⟨false, .data bs⟩) s { b with fsu := { b.fsu with qReads := rest, refusedQ := none } }) ∧
    (q.acc.addr ≠ none → more ≠ 0 → more ≤ held →
      Runs (.qReadDone ⟨false, .data bs⟩) s { b with fsu := { b.fsu with qReads := rest, heldQ := v, refusedQ := none } }) ∧
    (q.acc.addr ≠ none → held < more → b.fsu.refusedQ ≠ some v →
      Runs (.qReadDone ⟨false, .data bs⟩) s { b with
        regs := { b.regs with fault := latchIn .release 4 b.regs.fault }
        ntu := setFlag .releaseFault b.ntu
        fsu := { b.fsu with qReads := rest, refusedQ := some v } }) ∧
    (q.acc.addr ≠ none → held < more → b.fsu.refusedQ = some v →
      Runs (.qReadDone ⟨false, .data bs⟩) s { b with fsu := { b.fsu with qReads := rest } }) ∧
    (∀ (r : ReadResp) (c : FaultCode), q.acc.result r = .error c →
      Runs (.qReadDone ⟨false, r⟩) s { b with
        regs := { b.regs with fault := latchIn c q.acc.offset b.regs.fault }
        ntu := setFlag .windowFault b.ntu
        fsu := { b.fsu with qReads := rest } })

/-- The answer to a read of Q, unchanged, changed, refused or failed, decides the slot request that waits for it: with N −
(P − Q) above 0 the frame gets slot P mod N, the count of reserved slots rises, SLOT_WAIT ends, and a count that is
reached drains the plan; with no slot free and policy WAIT the frame is withdrawn, counted, and SLOT_WAIT becomes true,
with policy END the plan ends DONE SHORT. A frame that has ended before the decision still gets its slot (the model's
choice, log 26), and a flag it has already stays (log 56). CAPTURE_MAX_WAIT starts an armed burst with the unsettled mark
at the frame in progress. A frame-start: ARMED with start NEXT, or with the settled flag set, becomes STORING from that
frame on, else the wait count rises (so does one handed over in LOST, at the FS that ends LOST: the model's choice, log
53); in STORING a frame on the stride is skipped for want of an entry or while a slot is taken, else asks for a slot with
the read of Q of that frame-start, and holds the focus position until the decision. Other frame-starts only drop the notes
of that frame and below (the model's choice, log 68), and none while an earlier frame waits for its decision. The decision
moves the frame's note to it, if there is one by then, else the position at its frame-start stands (the model's reading of a
note that later ones have removed, log 70); it drops the notes of that frame and below, also where it gives no slot (the
model's choice, log 68). -/
def Obligations.SlotRequestDecided : Prop :=
  (∀ (s : State) (b : Block) (q : QRead) (rest : List QRead) (r : ReadResp) (f : StoreFrame) (pool : Pool) (p : CapParams),
    Settles s b → b.fsu.qReads = q :: rest → q.request = some f.k → b.fsu.cur = some f → f.slot = none →
    b.fsu.pool = some pool → b.cap.prm = some p →
    let held := match q.acc.result r with
      | .ok bs =>
        let v := BitVec.ofNat 32 (u32 bs 0)
        if (v - b.fsu.heldQ).toNat ≤ (b.fsu.p - b.fsu.heldQ).toNat then v else b.fsu.heldQ
      | .error _ => b.fsu.heldQ
    let free := pool.n - (b.fsu.p - held).toNat
    let left := b.fsu.notes.filter fun n => frameAbove n.k f.k
    (1 ≤ free →
      ∃ (b' : Block) (f' : StoreFrame),
        Runs (.qReadDone ⟨false, r⟩) s b' ∧ b'.fsu.cur = some f' ∧ f'.k = f.k ∧ f'.truncated = f.truncated ∧
        f'.slot = some (b.fsu.p.toNat % pool.n) ∧ f'.index = b.cap.reserved ∧
        b'.cap.reserved = b.cap.reserved + 1 ∧ b'.cap.filling = true ∧ b'.ntu.slotWait = false ∧
        b'.fsu.p = b.fsu.p ∧ b'.fsu.heldQ = held ∧ b'.fsu.qReads = rest ∧ b'.ple = b.ple ∧
        (b'.fsu.p - b'.fsu.heldQ).toNat + 1 ≤ pool.n ∧ b'.fsu.notes = left ∧
        (∀ n, b.fsu.notes.find? (fun x => x.k == f.k) = some n → f'.focusOpen = n.focus) ∧
        ((∀ n ∈ b.fsu.notes, n.k ≠ f.k) → f'.focusOpen = f.focusOpen) ∧
        (b.fsu.places = [] → b'.fsu.lines = 0 ∧ b'.fsu.crc = 0xFFFFFFFF#32) ∧
        (p.count ≠ 0 → b.cap.reserved + 1 = p.count → b.cap.endCause = none →
          b'.cap.state = .draining ∧ b'.cap.endCause = some .ok) ∧
        (p.count = 0 ∨ b.cap.reserved + 1 ≠ p.count →
          b'.cap.state = b.cap.state ∧ b'.cap.endCause = b.cap.endCause)) ∧
    (free = 0 → p.endPolicy = false →
      ∃ b' : Block,
        Runs (.qReadDone ⟨false, r⟩) s b' ∧ b'.fsu.cur = none ∧ b'.fsu.line = none ∧ b'.fsu.places = [] ∧
        b'.ntu.slotWait = true ∧ b'.cap = { b.cap with skipSlot := b.cap.skipSlot + 1 } ∧ b'.fsu.p = b.fsu.p ∧
        b'.fsu.heldQ = held ∧ b'.fsu.notes = left ∧ b'.ple = b.ple) ∧
    (free = 0 → p.endPolicy = true → b.cap.filling = false → b.cap.endCause = none →
      ∃ b' : Block,
        Runs (.qReadDone ⟨false, r⟩) s b' ∧ b'.fsu.cur = none ∧ b'.fsu.heldQ = held ∧ b'.fsu.notes = left ∧
        b'.cap.state = .ended ∧ b'.ntu.slotWait = false ∧ b'.exu.lock = false ∧ b'.afu.cafActive = false ∧
        ∀ t, takenOf b .capture = some t → t.ending = .running →
          ∃ e, takenOf b' .capture = some { t with ending := .results e } ∧ e.fin = .done ∧
            (ResultWrite.outcome, writeAt b (t.offset + 3) [17#8]) ∈ e.outstanding ∧
            (ResultWrite.word, writeAt b (t.offset + 12) (leWord b.cap.stored)) ∈ e.outstanding)) ∧
  (∀ (s : State) (b : Block), .captureMaxWait ∈ s.due → dropDue .captureMaxWait s.toBlock = b →
    b.cap.state = .armed →
    ∃ b' : Block,
      Runs .captureMaxWait s b' ∧ b'.cap.state = .storing ∧ b'.cap.kFirst = b.ftu.frameNo ∧
      b'.cap.startKind = .unsettled ∧ b'.cap.unsettled = true ∧ b'.ple = b.ple ∧ b'.ntu = b.ntu ∧
      (entryOf b b.ftu.frameNo ≠ none → b.cap.filling = false → b.fsu.cur = none →
        ∃ f, b'.fsu.cur = some f ∧ f.k = b.ftu.frameNo ∧ f.slot = none) ∧
      (entryOf b b.ftu.frameNo = none → b'.cap.skipOther = b.cap.skipOther + 1 ∧ b'.fsu.cur = b.fsu.cur)) ∧
  ∀ (b : Block) (k : Word) (jump : Bool) (p : CapParams), b.cap.prm = some p →
    let pending := ∃ f, b.fsu.cur = some f ∧ f.slot = none
    let passes := fun h : Block =>
      (pending → capFrameStart k jump b = h) ∧
      (¬pending → capFrameStart k jump b =
        { h with fsu := { h.fsu with notes := h.fsu.notes.filter fun n => frameAbove n.k k } })
    let begun := fun kind : StartKind =>
      { b with cap := { b.cap with
          state := .storing, kFirst := k, startKind := kind, unsettled := decide (kind = .unsettled) } }
    let waited : Block := { b with cap := { b.cap with wait := b.cap.wait + 1 } }
    let on := (k - b.cap.kFirst).toNat % p.stride = 0
    (b.cap.state = .armed → p.settledStart = false → capFrameStart k jump b = capFrameStart k jump (begun .next)) ∧
    (b.cap.state = .armed → p.settledStart = true → b.exu.settled = true →
      capFrameStart k jump b = capFrameStart k jump (begun .settled)) ∧
    (b.cap.state = .armed → p.settledStart = true → b.exu.settled = false →
      (b.cap.wait + 1 < p.maxWait → passes waited) ∧
      (p.maxWait ≤ b.cap.wait + 1 → .captureMaxWait ∉ b.due →
        capFrameStart k jump b = { waited with due := b.due ++ [.captureMaxWait] })) ∧
    (b.cap.state = .storing → ¬on → passes b) ∧
    (b.cap.state = .storing → on → (entryOf b k = none ∨ b.cap.filling = true ∨ b.fsu.cur ≠ none) →
      passes { b with cap := { b.cap with skipOther := b.cap.skipOther + 1 } }) ∧
    (∀ (q : QRead) (reads : List QRead), b.cap.state = .storing → on → entryOf b k ≠ none → b.cap.filling = false →
      b.fsu.cur = none → b.fsu.qReads = reads ++ [q] →
      ∃ f : StoreFrame,
        capFrameStart k jump b =
          { b with fsu := { b.fsu with
              cur := some f, line := none, places := [], overrun := false
              qReads := reads ++ [{ q with request := some k }] } } ∧
        f.k = k ∧ f.slot = none ∧ f.truncated = false ∧ f.busError = false ∧ f.periodJump = jump ∧ f.entry = none ∧
        f.unsettled = (b.cap.unsettled && !b.exu.settled) ∧ f.m = 0 ∧ f.e = 0 ∧
        f.frameEnded = false ∧ f.statsHandled = false ∧ f.metered = false ∧ f.answered = false ∧
        f.focusOpen = position b.focus) ∧
    (b.cap.state ≠ .armed → b.cap.state ≠ .storing → passes b)

/-- The writes of a frame. A burst's answer leaves the write buffer, an error marks the frame, latches FAULT and raises
WINDOW_FAULT; the last answer after the frame-end completes the marks, and the record is written; until P's answer the
slot counts as filling for capture control (the model's choice, log 27). The record's answer raises P by one, frees the
filling frame and writes P. The answers to P writes are taken in their order (the model's choice, log 40); one completes
the publication: FRAME_PUBLISHED if asked for, one more frame stored, the second one with BUS_ERROR or the last one of a
draining plan ends the plan, CANCELLED with outcome OK after an abort. A failed write latches FAULT and raises
WINDOW_FAULT, and the publication goes on. Bursts that wait go out after an answer, one after the other, as long as one
can be issued. The record of a frame holds its fields at their offsets. At a frame-end the frame that fills collects its
values, and every other frame gets its record release at once; a candidate whose slot is undecided then collects too and
keeps its entry (the model's choice, log 26); a frame whose bursts are all answered by then has its answered mark at once,
and its record is written if no other mark is missing. A finished line takes a place of the line buffer, or overruns it; bursts of
64 bytes go out in order while the write buffer holds fewer than eight, at the offset of the line in its slot, from the
bottom up with flip; a burst that meets a window fault counts as answered; a line whose last burst is issued counts as
written and enters the CRC. -/
def Obligations.FrameWritesAnswered : Prop :=
  (∀ (s : State) (b : Block), Settles s b →
    let failed := fun (f : Option FaultCode) (o : Nat) (h : Block) =>
      match f with
      | none => h
      | some c =>
        { h with regs := { h.regs with fault := latchIn c o b.regs.fault }, ntu := setFlag .windowFault b.ntu }
    (∀ (i : Nat) (acc : WriteAcc) (f : StoreFrame) (err : Bool), b.fsu.wbuf[i]? = some acc → b.fsu.places = [] →
      b.fsu.cur = some f → f.frameEnded = false →
      Runs (.burstResponse i ⟨false, err⟩) s
        (failed (if err then some .writeError else none) acc.offset
          { b with fsu := { b.fsu with
              wbuf := b.fsu.wbuf.eraseIdx i, cur := some { f with busError := f.busError || err } } })) ∧
    (∀ (i : Nat) (acc : WriteAcc) (f : StoreFrame) (err : Bool), b.fsu.wbuf[i]? = some acc → b.fsu.cur = some f →
      Runs (.burstResponse i ⟨false, err⟩) s
        (pump (failed (if err then some .writeError else none) acc.offset
          { b with fsu := { b.fsu with
              wbuf := b.fsu.wbuf.eraseIdx i, cur := some { f with busError := f.busError || err } } }))) ∧
    (∀ (acc : WriteAcc) (f : StoreFrame) (slot : Nat) (err : Bool), b.fsu.wbuf = [acc] → b.fsu.places = [] →
      b.fsu.cur = some f → f.frameEnded = true → f.slot = some slot → b.fsu.recWrite = none →
      let done : StoreFrame := { f with busError := f.busError || err, answered := true }
      (f.statsHandled = true → f.metered = true →
        Runs (.burstResponse 0 ⟨false, err⟩) s
          (failed (if err then some .writeError else none) acc.offset
            { b with fsu := { b.fsu with
                wbuf := [], cur := some done, recWrite := some (writeAt b (0x800 + 64 * slot) (frameRecord b done)) } })) ∧
      (f.statsHandled = false ∨ f.metered = false →
        Runs (.burstResponse 0 ⟨false, err⟩) s
          (failed (if err then some .writeError else none) acc.offset
            { b with fsu := { b.fsu with wbuf := [], cur := some done } }))) ∧
    (∀ (acc : WriteAcc) (f : StoreFrame) (err : Bool), b.fsu.recWrite = some acc → b.fsu.cur = some f →
      let w : PWrite :=
        { acc := match b.ple.mirror with
            | .body _ => none
            | _ => some (writeAt b 0x044 (leWord (b.fsu.p + 1)))
          pub := some { k := f.k, busError := f.busError || (acc.fault err).isSome, notify := b.fsu.notify } }
      Runs (.recordWriteDone ⟨false, err⟩) s
        (failed (acc.fault err) acc.offset
          { b with fsu := { b.fsu with
              p := b.fsu.p + 1, cur := none, line := none, places := [], overrun := false, recWrite := none
              pWrites := b.fsu.pWrites ++ [w] } })) ∧
    (∀ (acc : WriteAcc) (w : PWrite) (rest : List PWrite) (err : Bool), b.fsu.pWrites = w :: rest → w.acc = some acc →
      let h := failed (acc.fault err) acc.offset { b with fsu := { b.fsu with pWrites := rest } }
      (w.pub = none → Runs (.pWriteDone ⟨false, err⟩) s h) ∧
      ∀ p, w.pub = some p →
        let bus := if p.busError then b.cap.busErrs + 1 else b.cap.busErrs
        let cap : Cap := { b.cap with
          stored := b.cap.stored + 1, lastFrame := p.k, filling := false, busErrs := bus
          firstFrame := match b.cap.firstFrame with
            | none => some p.k
            | some n => some n }
        let ended := fun (fin : FinalState) (o : PlanOutcome) =>
          ∃ b' : Block,
            Runs (.pWriteDone ⟨false, err⟩) s b' ∧ b'.cap.state = .ended ∧ b'.cap.stored = cap.stored ∧
            b'.cap.firstFrame = cap.firstFrame ∧ b'.cap.lastFrame = p.k ∧ b'.cap.busErrs = bus ∧
            b'.cap.filling = false ∧ b'.exu.lock = false ∧ b'.ntu.slotWait = false ∧ b'.afu.cafActive = false ∧
            b'.regs = h.regs ∧ b'.fsu.pWrites = rest ∧
            ∀ t, takenOf b .capture = some t → t.ending = .running →
              ∃ e, takenOf b' .capture = some { t with ending := .results e } ∧ e.fin = fin ∧
                (ResultWrite.outcome, writeAt b (t.offset + 3) (leBytes 1 o.code)) ∈ e.outstanding ∧
                (ResultWrite.word, writeAt b (t.offset + 12) (leWord cap.stored)) ∈ e.outstanding
        (b.cap.state = .storing → p.busError = false ∨ bus < 2 →
          ∃ b' : Block,
            Runs (.pWriteDone ⟨false, err⟩) s b' ∧ b'.fsu = h.fsu ∧ b'.cap = cap ∧
            b'.ntu = (if p.notify then setFlag .framePublished h.ntu else h.ntu) ∧ b'.regs = h.regs ∧ b'.ple = b.ple ∧
            ∀ e ∈ b'.ftu.pipeline, e.k = p.k → e.recordReleased = true) ∧
        (b.cap.state = .storing → p.busError = true → 2 ≤ bus → b.cap.endCause = none → b.fsu.cur = none →
          ended .failed .busError) ∧
        (∀ c, b.cap.state = .draining → b.cap.endCause = some c → b.fsu.cur = none → c ≠ .busError → c ≠ .syncLost →
          (p.busError = false ∨ bus < 2 → ended .done c) ∧ (p.busError = true → 2 ≤ bus → ended .failed .busError)) ∧
        (∀ c, b.cap.state = .draining → b.cap.endCause = some c → b.fsu.cur = none → (c = .busError ∨ c = .syncLost) →
          ended .failed c) ∧
        (∀ t, b.cap.state = .draining → planCancelling b .capture = true → takenOf b .capture = some t →
          ∃ (b' : Block) (e : EndingProg),
            Runs (.pWriteDone ⟨false, err⟩) s b' ∧ b'.cap.state = .ended ∧ b'.cap.endCause = some .ok ∧
            b'.cap.stored = cap.stored ∧ b'.cap.firstFrame = cap.firstFrame ∧ b'.cap.lastFrame = p.k ∧
            b'.cap.busErrs = bus ∧ b'.exu.lock = false ∧ b'.ntu.slotWait = false ∧ b'.afu.cafActive = false ∧
            takenOf b' .capture = some { t with ending := .results e } ∧ e.fin = .cancelled ∧
            (ResultWrite.outcome, writeAt b (t.offset + 3) (leBytes 1 PlanOutcome.ok.code)) ∈ e.outstanding ∧
            (ResultWrite.word, writeAt b (t.offset + 12) (leWord cap.stored)) ∈ e.outstanding))) ∧
  (∀ b : Block, (∀ l ∈ b.fsu.places, l.bytes ≠ []) →
    (∀ c, issueBurst b = some c → pump b = pump c) ∧
    (∀ f, issueBurst b = none → b.fsu.cur = some f → f.slot ≠ none →
      (f.frameEnded = false ∨ b.fsu.places ≠ [] ∨ b.fsu.wbuf ≠ []) →
      ((f.frameEnded && f.statsHandled && f.metered && f.answered) = false ∨ b.fsu.recWrite ≠ none) → pump b = b)) ∧
  (∀ (b : Block) (f : StoreFrame) (e : Entry),
    (f.entry = some e ∨ f.entry = none ∧ entryOf b f.k = some e) →
    let flag := fun (v : Bool) (n : Nat) => if v then n else 0
    let fields : List (Nat × Nat × List Byte) :=
      [(0x00, 4, leWord f.k), (0x04, 4, leWord b.fsu.tag), (0x08, 1, leBytes 1 f.index), (0x09, 1, leBytes 1 e.source.code),
       (0x0A, 1, leBytes 1 (flag e.underFlag 1 + flag e.overFlag 2 + flag e.slewFlag 4)), (0x0B, 1, leBytes 1 f.clipped),
       (0x0C, 2, leBytes 2 e.e), (0x0E, 1, leBytes 1 e.g), (0x0F, 1, leBytes 1 e.c), (0x10, 2, leInt 2 e.xApp),
       (0x12, 2, leInt 2 e.xTarget), (0x14, 1, leBytes 1 f.m), (0x15, 1, leBytes 1 e.sbu.code), (0x16, 2, leInt 2 f.e),
       (0x18, 4, leBytes 4 f.focusValue), (0x1C, 2, leInt 2 f.focusOpen), (0x1E, 2, leInt 2 f.focusEnd),
       (0x20, 2, leInt 2 e.zoomPos), (0x22, 2, leBytes 2 (focalAt b e.zoomPos).toNat), (0x24, 1, leBytes 1 f.sbuEnd.code),
       (0x25, 1, List.replicate 1 0#8), (0x26, 2, leBytes 2 f.peak), (0x28, 2, leBytes 2 b.fsu.lines),
       (0x2A, 2, leBytes 2 (flag f.truncated 1 + flag f.busError 2 + flag (!f.busError) 4 + flag e.late 8 +
         flag f.periodJump 16 + flag f.lineCount 32 + flag f.unsettled 64)),
       (0x2C, 4, leWord (~~~ b.fsu.crc)), (0x30, 16, List.replicate 16 0#8)]
    frameRecord b f = fields.flatMap (·.2.2) ∧ (∀ x ∈ fields, x.2.2.length = x.2.1) ∧
      fields.IsChain (fun x y => y.1 = x.1 + x.2.1)) ∧
  (∀ (b : Block) (k : Word) (cut : Bool) (st : SbuState) (peak : Nat),
    ((∀ f, b.fsu.cur = some f → f.k ≠ k) → storeFrameEnd k cut st peak b = recordRelease k b) ∧
    ∀ f, b.fsu.cur = some f → f.k = k →
      let f' : StoreFrame := { f with
        frameEnded := true, truncated := f.truncated || cut, focusEnd := position b.focus, sbuEnd := st, peak := peak }
      (f.slot = none →
        storeFrameEnd k cut st peak b =
          recordRelease k { b with fsu := { b.fsu with line := none, cur := some { f' with entry := entryOf b k } } }) ∧
      (f.slot ≠ none → b.fsu.places = [] → b.fsu.wbuf ≠ [] → (f.statsHandled && f.metered && f.answered) = false →
        storeFrameEnd k cut st peak b = { b with fsu := { b.fsu with line := none, cur := some f' } }) ∧
      ∀ slot, f.slot = some slot → b.fsu.places = [] → b.fsu.wbuf = [] →
        let g : StoreFrame := { f' with answered := true }
        let last := f.statsHandled = true ∧ f.metered = true ∧ b.fsu.recWrite = none
        (¬last → storeFrameEnd k cut st peak b = { b with fsu := { b.fsu with line := none, cur := some g } }) ∧
        (last → storeFrameEnd k cut st peak b = { b with fsu := { b.fsu with
          line := none, cur := some g, recWrite := some (writeAt b (0x800 + 64 * slot) (frameRecord b g)) } })) ∧
  (∀ (b : Block) (f : StoreFrame) (px : List Pixel), b.fsu.line = some px → b.fsu.cur = some f →
    (2 ≤ b.fsu.places.length →
      storeLineEnd b =
        { b with fsu := { b.fsu with line := none, overrun := true, cur := some { f with truncated := true } } }) ∧
    (b.fsu.places.length < 2 → f.slot = none →
      storeLineEnd b =
        { b with fsu := { b.fsu with
            line := none
            places := b.fsu.places ++
              [{ row := b.fsu.places.length
                 bytes := px.flatMap fun x : Pixel => [x.setWidth 8, (x >>> 8).setWidth 8], issued := 0 }] } }) ∧
    (b.fsu.places.length < 2 → f.slot ≠ none →
      storeLineEnd b =
        pump { b with fsu := { b.fsu with
          line := none
          places := b.fsu.places ++
            [{ row := b.fsu.lines + b.fsu.places.length
               bytes := px.flatMap fun x : Pixel => [x.setWidth 8, (x >>> 8).setWidth 8], issued := 0 }] } })) ∧
  (∀ (b : Block) (f : StoreFrame) (pool : Pool) (fmt : StreamParams) (slot : Nat) (l : LineBuf) (rest : List LineBuf),
    b.fsu.cur = some f → f.slot = some slot → b.fsu.pool = some pool → b.ftu.fmt = some fmt → b.fsu.places = l :: rest →
    let row := if b.fsu.flip then fmt.active - 1 - l.row else l.row
    let acc :=
      writeAt b (pool.base + slot * pool.stride + row * l.bytes.length + 64 * l.issued)
        ((l.bytes.drop (64 * l.issued)).take 64)
    let bad := acc.addr = none
    let last := l.bytes.length ≤ 64 * (l.issued + 1)
    (8 ≤ b.fsu.wbuf.length → issueBurst b = none) ∧
    (b.fsu.wbuf.length < 8 →
      issueBurst b = some
        { b with
          regs := { b.regs with fault := if bad then latchIn .window acc.offset b.regs.fault else b.regs.fault }
          ntu := if bad then setFlag .windowFault b.ntu else b.ntu
          fsu := { b.fsu with
            cur := some { f with busError := f.busError || decide bad }
            wbuf := if bad then b.fsu.wbuf else b.fsu.wbuf ++ [acc]
            places := if last then rest else { l with issued := l.issued + 1 } :: rest
            lines := if last then b.fsu.lines + 1 else b.fsu.lines
            crc := if last then crcBytes b.fsu.crc l.bytes else b.fsu.crc } })) ∧
  ∀ (c : Word) (bs : List Byte) (x : Byte),
    crcBytes c [] = c ∧
    crcBytes c (bs ++ [x]) =
      (fun v : Word => if v.getLsbD 0 then (v >>> 1) ^^^ 0xEDB88320#32 else v >>> 1)^[8] (crcBytes c bs ^^^ x.setWidth 32)

/-! ### Invariants -/

/-- Every step keeps a good block: the flags agree with the levels and reserved bits of LEVELS are 0; the settings pipeline
holds at most L + 1 entries; the line buffer, the write buffer and the lists keep their sizes; the shifts stay within the
shift range and are 0 outside ACTIVE; the trace holds at most 32 samples; the target of a running move lies within the soft
limits in force; no two plans hold one class, the one about to be taken among them. -/
def Obligations.StepKeepsInv : Prop :=
  ∀ s t : State, s.toBlock.Inv → step s = .next t → t.toBlock.Inv

/-- The state after power-on reset is a good one. -/
def Obligations.ResetInv : Prop :=
  State.reset.toBlock.Inv
end

