-- ==== Sys2Proof/Laws/State.lean ====
section
/-!
SUPPORT. What each named update of the block leaves in each field: one lemma per field per update, true by rfl, so that no
proof unfolds a record update.
-/

namespace Sys2Proof.Machine

variable (b : Block)

/-! ### setFtu -/

@[simp] theorem setFtu_regs (f : Ftu → Ftu) : (setFtu f b).regs = b.regs := rfl
@[simp] theorem setFtu_ntu (f : Ftu → Ftu) : (setFtu f b).ntu = b.ntu := rfl
@[simp] theorem setFtu_ple (f : Ftu → Ftu) : (setFtu f b).ple = b.ple := rfl
@[simp] theorem setFtu_ftu (f : Ftu → Ftu) : (setFtu f b).ftu = f b.ftu := rfl
@[simp] theorem setFtu_stu (f : Ftu → Ftu) : (setFtu f b).stu = b.stu := rfl
@[simp] theorem setFtu_exu (f : Ftu → Ftu) : (setFtu f b).exu = b.exu := rfl
@[simp] theorem setFtu_zoom (f : Ftu → Ftu) : (setFtu f b).zoom = b.zoom := rfl
@[simp] theorem setFtu_focus (f : Ftu → Ftu) : (setFtu f b).focus = b.focus := rfl
@[simp] theorem setFtu_iris (f : Ftu → Ftu) : (setFtu f b).iris = b.iris := rfl
@[simp] theorem setFtu_ldu (f : Ftu → Ftu) : (setFtu f b).ldu = b.ldu := rfl
@[simp] theorem setFtu_zmap (f : Ftu → Ftu) : (setFtu f b).zmap = b.zmap := rfl
@[simp] theorem setFtu_afu (f : Ftu → Ftu) : (setFtu f b).afu = b.afu := rfl
@[simp] theorem setFtu_sbu (f : Ftu → Ftu) : (setFtu f b).sbu = b.sbu := rfl
@[simp] theorem setFtu_cap (f : Ftu → Ftu) : (setFtu f b).cap = b.cap := rfl
@[simp] theorem setFtu_fsu (f : Ftu → Ftu) : (setFtu f b).fsu = b.fsu := rfl
@[simp] theorem setFtu_due (f : Ftu → Ftu) : (setFtu f b).due = b.due := rfl

/-! ### setStu -/

@[simp] theorem setStu_regs (f : Stu → Stu) : (setStu f b).regs = b.regs := rfl
@[simp] theorem setStu_ntu (f : Stu → Stu) : (setStu f b).ntu = b.ntu := rfl
@[simp] theorem setStu_ple (f : Stu → Stu) : (setStu f b).ple = b.ple := rfl
@[simp] theorem setStu_ftu (f : Stu → Stu) : (setStu f b).ftu = b.ftu := rfl
@[simp] theorem setStu_stu (f : Stu → Stu) : (setStu f b).stu = f b.stu := rfl
@[simp] theorem setStu_exu (f : Stu → Stu) : (setStu f b).exu = b.exu := rfl
@[simp] theorem setStu_zoom (f : Stu → Stu) : (setStu f b).zoom = b.zoom := rfl
@[simp] theorem setStu_focus (f : Stu → Stu) : (setStu f b).focus = b.focus := rfl
@[simp] theorem setStu_iris (f : Stu → Stu) : (setStu f b).iris = b.iris := rfl
@[simp] theorem setStu_ldu (f : Stu → Stu) : (setStu f b).ldu = b.ldu := rfl
@[simp] theorem setStu_zmap (f : Stu → Stu) : (setStu f b).zmap = b.zmap := rfl
@[simp] theorem setStu_afu (f : Stu → Stu) : (setStu f b).afu = b.afu := rfl
@[simp] theorem setStu_sbu (f : Stu → Stu) : (setStu f b).sbu = b.sbu := rfl
@[simp] theorem setStu_cap (f : Stu → Stu) : (setStu f b).cap = b.cap := rfl
@[simp] theorem setStu_fsu (f : Stu → Stu) : (setStu f b).fsu = b.fsu := rfl
@[simp] theorem setStu_due (f : Stu → Stu) : (setStu f b).due = b.due := rfl

/-! ### setFsu -/

@[simp] theorem setFsu_regs (f : Fsu → Fsu) : (setFsu f b).regs = b.regs := rfl
@[simp] theorem setFsu_ntu (f : Fsu → Fsu) : (setFsu f b).ntu = b.ntu := rfl
@[simp] theorem setFsu_ple (f : Fsu → Fsu) : (setFsu f b).ple = b.ple := rfl
@[simp] theorem setFsu_ftu (f : Fsu → Fsu) : (setFsu f b).ftu = b.ftu := rfl
@[simp] theorem setFsu_stu (f : Fsu → Fsu) : (setFsu f b).stu = b.stu := rfl
@[simp] theorem setFsu_exu (f : Fsu → Fsu) : (setFsu f b).exu = b.exu := rfl
@[simp] theorem setFsu_zoom (f : Fsu → Fsu) : (setFsu f b).zoom = b.zoom := rfl
@[simp] theorem setFsu_focus (f : Fsu → Fsu) : (setFsu f b).focus = b.focus := rfl
@[simp] theorem setFsu_iris (f : Fsu → Fsu) : (setFsu f b).iris = b.iris := rfl
@[simp] theorem setFsu_ldu (f : Fsu → Fsu) : (setFsu f b).ldu = b.ldu := rfl
@[simp] theorem setFsu_zmap (f : Fsu → Fsu) : (setFsu f b).zmap = b.zmap := rfl
@[simp] theorem setFsu_afu (f : Fsu → Fsu) : (setFsu f b).afu = b.afu := rfl
@[simp] theorem setFsu_sbu (f : Fsu → Fsu) : (setFsu f b).sbu = b.sbu := rfl
@[simp] theorem setFsu_cap (f : Fsu → Fsu) : (setFsu f b).cap = b.cap := rfl
@[simp] theorem setFsu_fsu (f : Fsu → Fsu) : (setFsu f b).fsu = f b.fsu := rfl
@[simp] theorem setFsu_due (f : Fsu → Fsu) : (setFsu f b).due = b.due := rfl

/-! ### setCap -/

@[simp] theorem setCap_regs (f : Cap → Cap) : (setCap f b).regs = b.regs := rfl
@[simp] theorem setCap_ntu (f : Cap → Cap) : (setCap f b).ntu = b.ntu := rfl
@[simp] theorem setCap_ple (f : Cap → Cap) : (setCap f b).ple = b.ple := rfl
@[simp] theorem setCap_ftu (f : Cap → Cap) : (setCap f b).ftu = b.ftu := rfl
@[simp] theorem setCap_stu (f : Cap → Cap) : (setCap f b).stu = b.stu := rfl
@[simp] theorem setCap_exu (f : Cap → Cap) : (setCap f b).exu = b.exu := rfl
@[simp] theorem setCap_zoom (f : Cap → Cap) : (setCap f b).zoom = b.zoom := rfl
@[simp] theorem setCap_focus (f : Cap → Cap) : (setCap f b).focus = b.focus := rfl
@[simp] theorem setCap_iris (f : Cap → Cap) : (setCap f b).iris = b.iris := rfl
@[simp] theorem setCap_ldu (f : Cap → Cap) : (setCap f b).ldu = b.ldu := rfl
@[simp] theorem setCap_zmap (f : Cap → Cap) : (setCap f b).zmap = b.zmap := rfl
@[simp] theorem setCap_afu (f : Cap → Cap) : (setCap f b).afu = b.afu := rfl
@[simp] theorem setCap_sbu (f : Cap → Cap) : (setCap f b).sbu = b.sbu := rfl
@[simp] theorem setCap_cap (f : Cap → Cap) : (setCap f b).cap = f b.cap := rfl
@[simp] theorem setCap_fsu (f : Cap → Cap) : (setCap f b).fsu = b.fsu := rfl
@[simp] theorem setCap_due (f : Cap → Cap) : (setCap f b).due = b.due := rfl

/-! ### setAfu -/

@[simp] theorem setAfu_regs (f : Afu → Afu) : (setAfu f b).regs = b.regs := rfl
@[simp] theorem setAfu_ntu (f : Afu → Afu) : (setAfu f b).ntu = b.ntu := rfl
@[simp] theorem setAfu_ple (f : Afu → Afu) : (setAfu f b).ple = b.ple := rfl
@[simp] theorem setAfu_ftu (f : Afu → Afu) : (setAfu f b).ftu = b.ftu := rfl
@[simp] theorem setAfu_stu (f : Afu → Afu) : (setAfu f b).stu = b.stu := rfl
@[simp] theorem setAfu_exu (f : Afu → Afu) : (setAfu f b).exu = b.exu := rfl
@[simp] theorem setAfu_zoom (f : Afu → Afu) : (setAfu f b).zoom = b.zoom := rfl
@[simp] theorem setAfu_focus (f : Afu → Afu) : (setAfu f b).focus = b.focus := rfl
@[simp] theorem setAfu_iris (f : Afu → Afu) : (setAfu f b).iris = b.iris := rfl
@[simp] theorem setAfu_ldu (f : Afu → Afu) : (setAfu f b).ldu = b.ldu := rfl
@[simp] theorem setAfu_zmap (f : Afu → Afu) : (setAfu f b).zmap = b.zmap := rfl
@[simp] theorem setAfu_afu (f : Afu → Afu) : (setAfu f b).afu = f b.afu := rfl
@[simp] theorem setAfu_sbu (f : Afu → Afu) : (setAfu f b).sbu = b.sbu := rfl
@[simp] theorem setAfu_cap (f : Afu → Afu) : (setAfu f b).cap = b.cap := rfl
@[simp] theorem setAfu_fsu (f : Afu → Afu) : (setAfu f b).fsu = b.fsu := rfl
@[simp] theorem setAfu_due (f : Afu → Afu) : (setAfu f b).due = b.due := rfl

/-! ### setSbu -/

@[simp] theorem setSbu_regs (f : Sbu → Sbu) : (setSbu f b).regs = b.regs := rfl
@[simp] theorem setSbu_ntu (f : Sbu → Sbu) : (setSbu f b).ntu = b.ntu := rfl
@[simp] theorem setSbu_ple (f : Sbu → Sbu) : (setSbu f b).ple = b.ple := rfl
@[simp] theorem setSbu_ftu (f : Sbu → Sbu) : (setSbu f b).ftu = b.ftu := rfl
@[simp] theorem setSbu_stu (f : Sbu → Sbu) : (setSbu f b).stu = b.stu := rfl
@[simp] theorem setSbu_exu (f : Sbu → Sbu) : (setSbu f b).exu = b.exu := rfl
@[simp] theorem setSbu_zoom (f : Sbu → Sbu) : (setSbu f b).zoom = b.zoom := rfl
@[simp] theorem setSbu_focus (f : Sbu → Sbu) : (setSbu f b).focus = b.focus := rfl
@[simp] theorem setSbu_iris (f : Sbu → Sbu) : (setSbu f b).iris = b.iris := rfl
@[simp] theorem setSbu_ldu (f : Sbu → Sbu) : (setSbu f b).ldu = b.ldu := rfl
@[simp] theorem setSbu_zmap (f : Sbu → Sbu) : (setSbu f b).zmap = b.zmap := rfl
@[simp] theorem setSbu_afu (f : Sbu → Sbu) : (setSbu f b).afu = b.afu := rfl
@[simp] theorem setSbu_sbu (f : Sbu → Sbu) : (setSbu f b).sbu = f b.sbu := rfl
@[simp] theorem setSbu_cap (f : Sbu → Sbu) : (setSbu f b).cap = b.cap := rfl
@[simp] theorem setSbu_fsu (f : Sbu → Sbu) : (setSbu f b).fsu = b.fsu := rfl
@[simp] theorem setSbu_due (f : Sbu → Sbu) : (setSbu f b).due = b.due := rfl

/-! ### setZmap -/

@[simp] theorem setZmap_regs (f : Zmap → Zmap) : (setZmap f b).regs = b.regs := rfl
@[simp] theorem setZmap_ntu (f : Zmap → Zmap) : (setZmap f b).ntu = b.ntu := rfl
@[simp] theorem setZmap_ple (f : Zmap → Zmap) : (setZmap f b).ple = b.ple := rfl
@[simp] theorem setZmap_ftu (f : Zmap → Zmap) : (setZmap f b).ftu = b.ftu := rfl
@[simp] theorem setZmap_stu (f : Zmap → Zmap) : (setZmap f b).stu = b.stu := rfl
@[simp] theorem setZmap_exu (f : Zmap → Zmap) : (setZmap f b).exu = b.exu := rfl
@[simp] theorem setZmap_zoom (f : Zmap → Zmap) : (setZmap f b).zoom = b.zoom := rfl
@[simp] theorem setZmap_focus (f : Zmap → Zmap) : (setZmap f b).focus = b.focus := rfl
@[simp] theorem setZmap_iris (f : Zmap → Zmap) : (setZmap f b).iris = b.iris := rfl
@[simp] theorem setZmap_ldu (f : Zmap → Zmap) : (setZmap f b).ldu = b.ldu := rfl
@[simp] theorem setZmap_zmap (f : Zmap → Zmap) : (setZmap f b).zmap = f b.zmap := rfl
@[simp] theorem setZmap_afu (f : Zmap → Zmap) : (setZmap f b).afu = b.afu := rfl
@[simp] theorem setZmap_sbu (f : Zmap → Zmap) : (setZmap f b).sbu = b.sbu := rfl
@[simp] theorem setZmap_cap (f : Zmap → Zmap) : (setZmap f b).cap = b.cap := rfl
@[simp] theorem setZmap_fsu (f : Zmap → Zmap) : (setZmap f b).fsu = b.fsu := rfl
@[simp] theorem setZmap_due (f : Zmap → Zmap) : (setZmap f b).due = b.due := rfl

/-! ### setPle -/

@[simp] theorem setPle_regs (f : Ple → Ple) : (setPle f b).regs = b.regs := rfl
@[simp] theorem setPle_ntu (f : Ple → Ple) : (setPle f b).ntu = b.ntu := rfl
@[simp] theorem setPle_ple (f : Ple → Ple) : (setPle f b).ple = f b.ple := rfl
@[simp] theorem setPle_ftu (f : Ple → Ple) : (setPle f b).ftu = b.ftu := rfl
@[simp] theorem setPle_stu (f : Ple → Ple) : (setPle f b).stu = b.stu := rfl
@[simp] theorem setPle_exu (f : Ple → Ple) : (setPle f b).exu = b.exu := rfl
@[simp] theorem setPle_zoom (f : Ple → Ple) : (setPle f b).zoom = b.zoom := rfl
@[simp] theorem setPle_focus (f : Ple → Ple) : (setPle f b).focus = b.focus := rfl
@[simp] theorem setPle_iris (f : Ple → Ple) : (setPle f b).iris = b.iris := rfl
@[simp] theorem setPle_ldu (f : Ple → Ple) : (setPle f b).ldu = b.ldu := rfl
@[simp] theorem setPle_zmap (f : Ple → Ple) : (setPle f b).zmap = b.zmap := rfl
@[simp] theorem setPle_afu (f : Ple → Ple) : (setPle f b).afu = b.afu := rfl
@[simp] theorem setPle_sbu (f : Ple → Ple) : (setPle f b).sbu = b.sbu := rfl
@[simp] theorem setPle_cap (f : Ple → Ple) : (setPle f b).cap = b.cap := rfl
@[simp] theorem setPle_fsu (f : Ple → Ple) : (setPle f b).fsu = b.fsu := rfl
@[simp] theorem setPle_due (f : Ple → Ple) : (setPle f b).due = b.due := rfl

/-! ### setLook -/

@[simp] theorem setLook_regs (l : Look) : (setLook l b).regs = b.regs := rfl
@[simp] theorem setLook_ntu (l : Look) : (setLook l b).ntu = b.ntu := rfl
@[simp] theorem setLook_ple (l : Look) : (setLook l b).ple = { b.ple with look := l } := rfl
@[simp] theorem setLook_ftu (l : Look) : (setLook l b).ftu = b.ftu := rfl
@[simp] theorem setLook_stu (l : Look) : (setLook l b).stu = b.stu := rfl
@[simp] theorem setLook_exu (l : Look) : (setLook l b).exu = b.exu := rfl
@[simp] theorem setLook_zoom (l : Look) : (setLook l b).zoom = b.zoom := rfl
@[simp] theorem setLook_focus (l : Look) : (setLook l b).focus = b.focus := rfl
@[simp] theorem setLook_iris (l : Look) : (setLook l b).iris = b.iris := rfl
@[simp] theorem setLook_ldu (l : Look) : (setLook l b).ldu = b.ldu := rfl
@[simp] theorem setLook_zmap (l : Look) : (setLook l b).zmap = b.zmap := rfl
@[simp] theorem setLook_afu (l : Look) : (setLook l b).afu = b.afu := rfl
@[simp] theorem setLook_sbu (l : Look) : (setLook l b).sbu = b.sbu := rfl
@[simp] theorem setLook_cap (l : Look) : (setLook l b).cap = b.cap := rfl
@[simp] theorem setLook_fsu (l : Look) : (setLook l b).fsu = b.fsu := rfl
@[simp] theorem setLook_due (l : Look) : (setLook l b).due = b.due := rfl

/-! ### setSearch -/

@[simp] theorem setSearch_regs (s : Option Search) : (setSearch s b).regs = b.regs := rfl
@[simp] theorem setSearch_ntu (s : Option Search) : (setSearch s b).ntu = b.ntu := rfl
@[simp] theorem setSearch_ple (s : Option Search) : (setSearch s b).ple = b.ple := rfl
@[simp] theorem setSearch_ftu (s : Option Search) : (setSearch s b).ftu = b.ftu := rfl
@[simp] theorem setSearch_stu (s : Option Search) : (setSearch s b).stu = b.stu := rfl
@[simp] theorem setSearch_exu (s : Option Search) : (setSearch s b).exu = b.exu := rfl
@[simp] theorem setSearch_zoom (s : Option Search) : (setSearch s b).zoom = b.zoom := rfl
@[simp] theorem setSearch_focus (s : Option Search) : (setSearch s b).focus = b.focus := rfl
@[simp] theorem setSearch_iris (s : Option Search) : (setSearch s b).iris = b.iris := rfl
@[simp] theorem setSearch_ldu (s : Option Search) : (setSearch s b).ldu = b.ldu := rfl
@[simp] theorem setSearch_zmap (s : Option Search) : (setSearch s b).zmap = b.zmap := rfl
@[simp] theorem setSearch_afu (s : Option Search) : (setSearch s b).afu = { b.afu with search := s } := rfl
@[simp] theorem setSearch_sbu (s : Option Search) : (setSearch s b).sbu = b.sbu := rfl
@[simp] theorem setSearch_cap (s : Option Search) : (setSearch s b).cap = b.cap := rfl
@[simp] theorem setSearch_fsu (s : Option Search) : (setSearch s b).fsu = b.fsu := rfl
@[simp] theorem setSearch_due (s : Option Search) : (setSearch s b).due = b.due := rfl

/-! ### setRef -/

@[simp] theorem setRef_regs (r : Option RefPlan) : (setRef r b).regs = b.regs := rfl
@[simp] theorem setRef_ntu (r : Option RefPlan) : (setRef r b).ntu = b.ntu := rfl
@[simp] theorem setRef_ple (r : Option RefPlan) : (setRef r b).ple = b.ple := rfl
@[simp] theorem setRef_ftu (r : Option RefPlan) : (setRef r b).ftu = b.ftu := rfl
@[simp] theorem setRef_stu (r : Option RefPlan) : (setRef r b).stu = b.stu := rfl
@[simp] theorem setRef_exu (r : Option RefPlan) : (setRef r b).exu = b.exu := rfl
@[simp] theorem setRef_zoom (r : Option RefPlan) : (setRef r b).zoom = b.zoom := rfl
@[simp] theorem setRef_focus (r : Option RefPlan) : (setRef r b).focus = b.focus := rfl
@[simp] theorem setRef_iris (r : Option RefPlan) : (setRef r b).iris = b.iris := rfl
@[simp] theorem setRef_ldu (r : Option RefPlan) : (setRef r b).ldu = { b.ldu with refPlan := r } := rfl
@[simp] theorem setRef_zmap (r : Option RefPlan) : (setRef r b).zmap = b.zmap := rfl
@[simp] theorem setRef_afu (r : Option RefPlan) : (setRef r b).afu = b.afu := rfl
@[simp] theorem setRef_sbu (r : Option RefPlan) : (setRef r b).sbu = b.sbu := rfl
@[simp] theorem setRef_cap (r : Option RefPlan) : (setRef r b).cap = b.cap := rfl
@[simp] theorem setRef_fsu (r : Option RefPlan) : (setRef r b).fsu = b.fsu := rfl
@[simp] theorem setRef_due (r : Option RefPlan) : (setRef r b).due = b.due := rfl

/-! ### setMsense -/

@[simp] theorem setMsense_regs (m : Msense) : (setMsense m b).regs = b.regs := rfl
@[simp] theorem setMsense_ntu (m : Msense) : (setMsense m b).ntu = b.ntu := rfl
@[simp] theorem setMsense_ple (m : Msense) : (setMsense m b).ple = b.ple := rfl
@[simp] theorem setMsense_ftu (m : Msense) : (setMsense m b).ftu = b.ftu := rfl
@[simp] theorem setMsense_stu (m : Msense) : (setMsense m b).stu = b.stu := rfl
@[simp] theorem setMsense_exu (m : Msense) : (setMsense m b).exu = b.exu := rfl
@[simp] theorem setMsense_zoom (m : Msense) : (setMsense m b).zoom = b.zoom := rfl
@[simp] theorem setMsense_focus (m : Msense) : (setMsense m b).focus = b.focus := rfl
@[simp] theorem setMsense_iris (m : Msense) : (setMsense m b).iris = b.iris := rfl
@[simp] theorem setMsense_ldu (m : Msense) : (setMsense m b).ldu = { b.ldu with msense := m } := rfl
@[simp] theorem setMsense_zmap (m : Msense) : (setMsense m b).zmap = b.zmap := rfl
@[simp] theorem setMsense_afu (m : Msense) : (setMsense m b).afu = b.afu := rfl
@[simp] theorem setMsense_sbu (m : Msense) : (setMsense m b).sbu = b.sbu := rfl
@[simp] theorem setMsense_cap (m : Msense) : (setMsense m b).cap = b.cap := rfl
@[simp] theorem setMsense_fsu (m : Msense) : (setMsense m b).fsu = b.fsu := rfl
@[simp] theorem setMsense_due (m : Msense) : (setMsense m b).due = b.due := rfl

/-! ### setEnding -/

@[simp] theorem setEnding_regs (k : PlanKind) (e : Ending) : (setEnding k e b).regs = b.regs := rfl
@[simp] theorem setEnding_ntu (k : PlanKind) (e : Ending) : (setEnding k e b).ntu = b.ntu := rfl
@[simp] theorem setEnding_ple (k : PlanKind) (e : Ending) :
    (setEnding k e b).ple = { b.ple with taken := b.ple.taken.map fun t => if t.kind = k then { t with ending := e } else t } := rfl
@[simp] theorem setEnding_ftu (k : PlanKind) (e : Ending) : (setEnding k e b).ftu = b.ftu := rfl
@[simp] theorem setEnding_stu (k : PlanKind) (e : Ending) : (setEnding k e b).stu = b.stu := rfl
@[simp] theorem setEnding_exu (k : PlanKind) (e : Ending) : (setEnding k e b).exu = b.exu := rfl
@[simp] theorem setEnding_zoom (k : PlanKind) (e : Ending) : (setEnding k e b).zoom = b.zoom := rfl
@[simp] theorem setEnding_focus (k : PlanKind) (e : Ending) : (setEnding k e b).focus = b.focus := rfl
@[simp] theorem setEnding_iris (k : PlanKind) (e : Ending) : (setEnding k e b).iris = b.iris := rfl
@[simp] theorem setEnding_ldu (k : PlanKind) (e : Ending) : (setEnding k e b).ldu = b.ldu := rfl
@[simp] theorem setEnding_zmap (k : PlanKind) (e : Ending) : (setEnding k e b).zmap = b.zmap := rfl
@[simp] theorem setEnding_afu (k : PlanKind) (e : Ending) : (setEnding k e b).afu = b.afu := rfl
@[simp] theorem setEnding_sbu (k : PlanKind) (e : Ending) : (setEnding k e b).sbu = b.sbu := rfl
@[simp] theorem setEnding_cap (k : PlanKind) (e : Ending) : (setEnding k e b).cap = b.cap := rfl
@[simp] theorem setEnding_fsu (k : PlanKind) (e : Ending) : (setEnding k e b).fsu = b.fsu := rfl
@[simp] theorem setEnding_due (k : PlanKind) (e : Ending) : (setEnding k e b).due = b.due := rfl

/-! ### dropDue -/

@[simp] theorem dropDue_regs (d : DueStep) : (dropDue d b).regs = b.regs := rfl
@[simp] theorem dropDue_ntu (d : DueStep) : (dropDue d b).ntu = b.ntu := rfl
@[simp] theorem dropDue_ple (d : DueStep) : (dropDue d b).ple = b.ple := rfl
@[simp] theorem dropDue_ftu (d : DueStep) : (dropDue d b).ftu = b.ftu := rfl
@[simp] theorem dropDue_stu (d : DueStep) : (dropDue d b).stu = b.stu := rfl
@[simp] theorem dropDue_exu (d : DueStep) : (dropDue d b).exu = b.exu := rfl
@[simp] theorem dropDue_zoom (d : DueStep) : (dropDue d b).zoom = b.zoom := rfl
@[simp] theorem dropDue_focus (d : DueStep) : (dropDue d b).focus = b.focus := rfl
@[simp] theorem dropDue_iris (d : DueStep) : (dropDue d b).iris = b.iris := rfl
@[simp] theorem dropDue_ldu (d : DueStep) : (dropDue d b).ldu = b.ldu := rfl
@[simp] theorem dropDue_zmap (d : DueStep) : (dropDue d b).zmap = b.zmap := rfl
@[simp] theorem dropDue_afu (d : DueStep) : (dropDue d b).afu = b.afu := rfl
@[simp] theorem dropDue_sbu (d : DueStep) : (dropDue d b).sbu = b.sbu := rfl
@[simp] theorem dropDue_cap (d : DueStep) : (dropDue d b).cap = b.cap := rfl
@[simp] theorem dropDue_fsu (d : DueStep) : (dropDue d b).fsu = b.fsu := rfl
@[simp] theorem dropDue_due (d : DueStep) : (dropDue d b).due = b.due.filter (· != d) := rfl

/-! ### raise -/

@[simp] theorem raise_regs (c : Cause) : (raise c b).regs = b.regs := rfl
@[simp] theorem raise_ntu (c : Cause) : (raise c b).ntu = setFlag c b.ntu := rfl
@[simp] theorem raise_ple (c : Cause) : (raise c b).ple = b.ple := rfl
@[simp] theorem raise_ftu (c : Cause) : (raise c b).ftu = b.ftu := rfl
@[simp] theorem raise_stu (c : Cause) : (raise c b).stu = b.stu := rfl
@[simp] theorem raise_exu (c : Cause) : (raise c b).exu = b.exu := rfl
@[simp] theorem raise_zoom (c : Cause) : (raise c b).zoom = b.zoom := rfl
@[simp] theorem raise_focus (c : Cause) : (raise c b).focus = b.focus := rfl
@[simp] theorem raise_iris (c : Cause) : (raise c b).iris = b.iris := rfl
@[simp] theorem raise_ldu (c : Cause) : (raise c b).ldu = b.ldu := rfl
@[simp] theorem raise_zmap (c : Cause) : (raise c b).zmap = b.zmap := rfl
@[simp] theorem raise_afu (c : Cause) : (raise c b).afu = b.afu := rfl
@[simp] theorem raise_sbu (c : Cause) : (raise c b).sbu = b.sbu := rfl
@[simp] theorem raise_cap (c : Cause) : (raise c b).cap = b.cap := rfl
@[simp] theorem raise_fsu (c : Cause) : (raise c b).fsu = b.fsu := rfl
@[simp] theorem raise_due (c : Cause) : (raise c b).due = b.due := rfl

/-! ### setCond -/

@[simp] theorem setCond_regs (c : Cond) (v : Bool) : (setCond c v b).regs = b.regs := rfl
@[simp] theorem setCond_ntu (c : Cond) (v : Bool) : (setCond c v b).ntu = setCondIn c v b.ntu := rfl
@[simp] theorem setCond_ple (c : Cond) (v : Bool) : (setCond c v b).ple = b.ple := rfl
@[simp] theorem setCond_ftu (c : Cond) (v : Bool) : (setCond c v b).ftu = b.ftu := rfl
@[simp] theorem setCond_stu (c : Cond) (v : Bool) : (setCond c v b).stu = b.stu := rfl
@[simp] theorem setCond_exu (c : Cond) (v : Bool) : (setCond c v b).exu = b.exu := rfl
@[simp] theorem setCond_zoom (c : Cond) (v : Bool) : (setCond c v b).zoom = b.zoom := rfl
@[simp] theorem setCond_focus (c : Cond) (v : Bool) : (setCond c v b).focus = b.focus := rfl
@[simp] theorem setCond_iris (c : Cond) (v : Bool) : (setCond c v b).iris = b.iris := rfl
@[simp] theorem setCond_ldu (c : Cond) (v : Bool) : (setCond c v b).ldu = b.ldu := rfl
@[simp] theorem setCond_zmap (c : Cond) (v : Bool) : (setCond c v b).zmap = b.zmap := rfl
@[simp] theorem setCond_afu (c : Cond) (v : Bool) : (setCond c v b).afu = b.afu := rfl
@[simp] theorem setCond_sbu (c : Cond) (v : Bool) : (setCond c v b).sbu = b.sbu := rfl
@[simp] theorem setCond_cap (c : Cond) (v : Bool) : (setCond c v b).cap = b.cap := rfl
@[simp] theorem setCond_fsu (c : Cond) (v : Bool) : (setCond c v b).fsu = b.fsu := rfl
@[simp] theorem setCond_due (c : Cond) (v : Bool) : (setCond c v b).due = b.due := rfl

/-! ### latchFault -/

@[simp] theorem latchFault_regs (c : FaultCode) (o : Nat) :
    (latchFault c o b).regs = { b.regs with fault := latchIn c o b.regs.fault } := rfl
@[simp] theorem latchFault_ntu (c : FaultCode) (o : Nat) : (latchFault c o b).ntu = b.ntu := rfl
@[simp] theorem latchFault_ple (c : FaultCode) (o : Nat) : (latchFault c o b).ple = b.ple := rfl
@[simp] theorem latchFault_ftu (c : FaultCode) (o : Nat) : (latchFault c o b).ftu = b.ftu := rfl
@[simp] theorem latchFault_stu (c : FaultCode) (o : Nat) : (latchFault c o b).stu = b.stu := rfl
@[simp] theorem latchFault_exu (c : FaultCode) (o : Nat) : (latchFault c o b).exu = b.exu := rfl
@[simp] theorem latchFault_zoom (c : FaultCode) (o : Nat) : (latchFault c o b).zoom = b.zoom := rfl
@[simp] theorem latchFault_focus (c : FaultCode) (o : Nat) : (latchFault c o b).focus = b.focus := rfl
@[simp] theorem latchFault_iris (c : FaultCode) (o : Nat) : (latchFault c o b).iris = b.iris := rfl
@[simp] theorem latchFault_ldu (c : FaultCode) (o : Nat) : (latchFault c o b).ldu = b.ldu := rfl
@[simp] theorem latchFault_zmap (c : FaultCode) (o : Nat) : (latchFault c o b).zmap = b.zmap := rfl
@[simp] theorem latchFault_afu (c : FaultCode) (o : Nat) : (latchFault c o b).afu = b.afu := rfl
@[simp] theorem latchFault_sbu (c : FaultCode) (o : Nat) : (latchFault c o b).sbu = b.sbu := rfl
@[simp] theorem latchFault_cap (c : FaultCode) (o : Nat) : (latchFault c o b).cap = b.cap := rfl
@[simp] theorem latchFault_fsu (c : FaultCode) (o : Nat) : (latchFault c o b).fsu = b.fsu := rfl
@[simp] theorem latchFault_due (c : FaultCode) (o : Nat) : (latchFault c o b).due = b.due := rfl

/-! ### memoryFault -/

@[simp] theorem memoryFault_regs (c : FaultCode) (o : Nat) :
    (memoryFault c o b).regs = { b.regs with fault := latchIn c o b.regs.fault } := rfl
@[simp] theorem memoryFault_ntu (c : FaultCode) (o : Nat) : (memoryFault c o b).ntu = setFlag .windowFault b.ntu := rfl
@[simp] theorem memoryFault_ple (c : FaultCode) (o : Nat) : (memoryFault c o b).ple = b.ple := rfl
@[simp] theorem memoryFault_ftu (c : FaultCode) (o : Nat) : (memoryFault c o b).ftu = b.ftu := rfl
@[simp] theorem memoryFault_stu (c : FaultCode) (o : Nat) : (memoryFault c o b).stu = b.stu := rfl
@[simp] theorem memoryFault_exu (c : FaultCode) (o : Nat) : (memoryFault c o b).exu = b.exu := rfl
@[simp] theorem memoryFault_zoom (c : FaultCode) (o : Nat) : (memoryFault c o b).zoom = b.zoom := rfl
@[simp] theorem memoryFault_focus (c : FaultCode) (o : Nat) : (memoryFault c o b).focus = b.focus := rfl
@[simp] theorem memoryFault_iris (c : FaultCode) (o : Nat) : (memoryFault c o b).iris = b.iris := rfl
@[simp] theorem memoryFault_ldu (c : FaultCode) (o : Nat) : (memoryFault c o b).ldu = b.ldu := rfl
@[simp] theorem memoryFault_zmap (c : FaultCode) (o : Nat) : (memoryFault c o b).zmap = b.zmap := rfl
@[simp] theorem memoryFault_afu (c : FaultCode) (o : Nat) : (memoryFault c o b).afu = b.afu := rfl
@[simp] theorem memoryFault_sbu (c : FaultCode) (o : Nat) : (memoryFault c o b).sbu = b.sbu := rfl
@[simp] theorem memoryFault_cap (c : FaultCode) (o : Nat) : (memoryFault c o b).cap = b.cap := rfl
@[simp] theorem memoryFault_fsu (c : FaultCode) (o : Nat) : (memoryFault c o b).fsu = b.fsu := rfl
@[simp] theorem memoryFault_due (c : FaultCode) (o : Nat) : (memoryFault c o b).due = b.due := rfl

/-! ### recomputeU -/

@[simp] theorem recomputeU_regs : (recomputeU b).regs = b.regs := rfl
@[simp] theorem recomputeU_ntu : (recomputeU b).ntu = b.ntu := rfl
@[simp] theorem recomputeU_ple : (recomputeU b).ple = b.ple := rfl
@[simp] theorem recomputeU_ftu : (recomputeU b).ftu = b.ftu := rfl
@[simp] theorem recomputeU_stu : (recomputeU b).stu = b.stu := rfl
@[simp] theorem recomputeU_exu : (recomputeU b).exu = b.exu := rfl
@[simp] theorem recomputeU_zoom : (recomputeU b).zoom = b.zoom := rfl
@[simp] theorem recomputeU_focus : (recomputeU b).focus = b.focus := rfl
@[simp] theorem recomputeU_iris : (recomputeU b).iris = b.iris := rfl
@[simp] theorem recomputeU_ldu : (recomputeU b).ldu = b.ldu := rfl
@[simp] theorem recomputeU_zmap : (recomputeU b).zmap = { b.zmap with u := fractionOf b } := rfl
@[simp] theorem recomputeU_afu : (recomputeU b).afu = b.afu := rfl
@[simp] theorem recomputeU_sbu : (recomputeU b).sbu = b.sbu := rfl
@[simp] theorem recomputeU_cap : (recomputeU b).cap = b.cap := rfl
@[simp] theorem recomputeU_fsu : (recomputeU b).fsu = b.fsu := rfl
@[simp] theorem recomputeU_due : (recomputeU b).due = b.due := rfl

/-! ### spoilCandidates -/

@[simp] theorem spoilCandidates_regs : (spoilCandidates b).regs = b.regs := rfl
@[simp] theorem spoilCandidates_ntu : (spoilCandidates b).ntu = b.ntu := rfl
@[simp] theorem spoilCandidates_ple : (spoilCandidates b).ple = b.ple := rfl
@[simp] theorem spoilCandidates_ftu : (spoilCandidates b).ftu = b.ftu := rfl
@[simp] theorem spoilCandidates_stu : (spoilCandidates b).stu = b.stu := rfl
@[simp] theorem spoilCandidates_exu : (spoilCandidates b).exu = b.exu := rfl
@[simp] theorem spoilCandidates_zoom : (spoilCandidates b).zoom = b.zoom := rfl
@[simp] theorem spoilCandidates_focus : (spoilCandidates b).focus = b.focus := rfl
@[simp] theorem spoilCandidates_iris : (spoilCandidates b).iris = b.iris := rfl
@[simp] theorem spoilCandidates_ldu : (spoilCandidates b).ldu = b.ldu := rfl
@[simp] theorem spoilCandidates_zmap : (spoilCandidates b).zmap = b.zmap := rfl
@[simp] theorem spoilCandidates_afu :
    (spoilCandidates b).afu = { b.afu with candidates := b.afu.candidates.map fun c => { c with still := false } } := rfl
@[simp] theorem spoilCandidates_sbu : (spoilCandidates b).sbu = b.sbu := rfl
@[simp] theorem spoilCandidates_cap : (spoilCandidates b).cap = b.cap := rfl
@[simp] theorem spoilCandidates_fsu : (spoilCandidates b).fsu = b.fsu := rfl
@[simp] theorem spoilCandidates_due : (spoilCandidates b).due = b.due := rfl

/-! ### leaveEnded -/

@[simp] theorem leaveEnded_regs : (leaveEnded b).regs = b.regs := rfl
@[simp] theorem leaveEnded_ntu : (leaveEnded b).ntu = b.ntu := rfl
@[simp] theorem leaveEnded_ple : (leaveEnded b).ple = b.ple := rfl
@[simp] theorem leaveEnded_ftu : (leaveEnded b).ftu = b.ftu := rfl
@[simp] theorem leaveEnded_stu : (leaveEnded b).stu = b.stu := rfl
@[simp] theorem leaveEnded_exu : (leaveEnded b).exu = b.exu := rfl
@[simp] theorem leaveEnded_zoom : (leaveEnded b).zoom = b.zoom := rfl
@[simp] theorem leaveEnded_focus : (leaveEnded b).focus = b.focus := rfl
@[simp] theorem leaveEnded_iris : (leaveEnded b).iris = b.iris := rfl
@[simp] theorem leaveEnded_ldu : (leaveEnded b).ldu = b.ldu := rfl
@[simp] theorem leaveEnded_zmap : (leaveEnded b).zmap = b.zmap := rfl
@[simp] theorem leaveEnded_afu : (leaveEnded b).afu = b.afu := rfl
@[simp] theorem leaveEnded_sbu : (leaveEnded b).sbu = b.sbu := rfl
@[simp] theorem leaveEnded_cap : (leaveEnded b).cap = { b.cap with state := .none } := rfl
@[simp] theorem leaveEnded_fsu : (leaveEnded b).fsu = b.fsu := rfl
@[simp] theorem leaveEnded_due : (leaveEnded b).due = b.due := rfl

/-! ### refilterAxes -/

@[simp] theorem refilterAxes_regs (t : Tables) : (refilterAxes t b).regs = b.regs := rfl
@[simp] theorem refilterAxes_ntu (t : Tables) : (refilterAxes t b).ntu = b.ntu := rfl
@[simp] theorem refilterAxes_ple (t : Tables) : (refilterAxes t b).ple = b.ple := rfl
@[simp] theorem refilterAxes_ftu (t : Tables) : (refilterAxes t b).ftu = b.ftu := rfl
@[simp] theorem refilterAxes_stu (t : Tables) : (refilterAxes t b).stu = b.stu := rfl
@[simp] theorem refilterAxes_exu (t : Tables) : (refilterAxes t b).exu = b.exu := rfl
@[simp] theorem refilterAxes_zoom (t : Tables) :
    (refilterAxes t b).zoom = { b.zoom with filter := refilter t.zoomBlk.filter b.zoom.filter } := rfl
@[simp] theorem refilterAxes_focus (t : Tables) :
    (refilterAxes t b).focus = { b.focus with filter := refilter t.focusBlk.filter b.focus.filter } := rfl
@[simp] theorem refilterAxes_iris (t : Tables) : (refilterAxes t b).iris = b.iris := rfl
@[simp] theorem refilterAxes_ldu (t : Tables) : (refilterAxes t b).ldu = b.ldu := rfl
@[simp] theorem refilterAxes_zmap (t : Tables) : (refilterAxes t b).zmap = b.zmap := rfl
@[simp] theorem refilterAxes_afu (t : Tables) : (refilterAxes t b).afu = b.afu := rfl
@[simp] theorem refilterAxes_sbu (t : Tables) : (refilterAxes t b).sbu = b.sbu := rfl
@[simp] theorem refilterAxes_cap (t : Tables) : (refilterAxes t b).cap = b.cap := rfl
@[simp] theorem refilterAxes_fsu (t : Tables) : (refilterAxes t b).fsu = b.fsu := rfl
@[simp] theorem refilterAxes_due (t : Tables) : (refilterAxes t b).due = b.due := rfl

/-! ### adoptTables -/

@[simp] theorem adoptTables_regs (t : Tables) : (adoptTables t b).regs = b.regs := rfl
@[simp] theorem adoptTables_ntu (t : Tables) : (adoptTables t b).ntu = b.ntu := rfl
@[simp] theorem adoptTables_ple (t : Tables) : (adoptTables t b).ple = b.ple := rfl
@[simp] theorem adoptTables_ftu (t : Tables) : (adoptTables t b).ftu = b.ftu := rfl
@[simp] theorem adoptTables_stu (t : Tables) : (adoptTables t b).stu = b.stu := rfl
@[simp] theorem adoptTables_exu (t : Tables) : (adoptTables t b).exu = b.exu := rfl
@[simp] theorem adoptTables_zoom (t : Tables) :
    (adoptTables t b).zoom = { b.zoom with filter := refilter t.zoomBlk.filter b.zoom.filter } := rfl
@[simp] theorem adoptTables_focus (t : Tables) :
    (adoptTables t b).focus = { b.focus with filter := refilter t.focusBlk.filter b.focus.filter } := rfl
@[simp] theorem adoptTables_iris (t : Tables) : (adoptTables t b).iris = b.iris := rfl
@[simp] theorem adoptTables_ldu (t : Tables) : (adoptTables t b).ldu = b.ldu := rfl
@[simp] theorem adoptTables_zmap (t : Tables) :
    (adoptTables t b).zmap = { b.zmap with tables := some t, margin := t.margin, loading := .idle } := rfl
@[simp] theorem adoptTables_afu (t : Tables) : (adoptTables t b).afu = b.afu := rfl
@[simp] theorem adoptTables_sbu (t : Tables) : (adoptTables t b).sbu = b.sbu := rfl
@[simp] theorem adoptTables_cap (t : Tables) : (adoptTables t b).cap = b.cap := rfl
@[simp] theorem adoptTables_fsu (t : Tables) : (adoptTables t b).fsu = b.fsu := rfl
@[simp] theorem adoptTables_due (t : Tables) : (adoptTables t b).due = b.due := rfl

/-! ### emptyWindowLists -/

@[simp] theorem emptyWindowLists_regs : (emptyWindowLists b).regs = b.regs := rfl
@[simp] theorem emptyWindowLists_ntu : (emptyWindowLists b).ntu = b.ntu := rfl
@[simp] theorem emptyWindowLists_ple : (emptyWindowLists b).ple = b.ple := rfl
@[simp] theorem emptyWindowLists_ftu : (emptyWindowLists b).ftu = b.ftu := rfl
@[simp] theorem emptyWindowLists_stu : (emptyWindowLists b).stu = b.stu := rfl
@[simp] theorem emptyWindowLists_exu : (emptyWindowLists b).exu = b.exu := rfl
@[simp] theorem emptyWindowLists_zoom : (emptyWindowLists b).zoom = b.zoom := rfl
@[simp] theorem emptyWindowLists_focus : (emptyWindowLists b).focus = b.focus := rfl
@[simp] theorem emptyWindowLists_iris : (emptyWindowLists b).iris = b.iris := rfl
@[simp] theorem emptyWindowLists_ldu : (emptyWindowLists b).ldu = b.ldu := rfl
@[simp] theorem emptyWindowLists_zmap : (emptyWindowLists b).zmap = b.zmap := rfl
@[simp] theorem emptyWindowLists_afu : (emptyWindowLists b).afu = { b.afu with candidates := [] } := rfl
@[simp] theorem emptyWindowLists_sbu : (emptyWindowLists b).sbu = { b.sbu with windows := [] } := rfl
@[simp] theorem emptyWindowLists_cap : (emptyWindowLists b).cap = b.cap := rfl
@[simp] theorem emptyWindowLists_fsu : (emptyWindowLists b).fsu = { b.fsu with notes := [] } := rfl
@[simp] theorem emptyWindowLists_due : (emptyWindowLists b).due = b.due := rfl

/-! ### An axis unit -/

@[simp] theorem axisOf_zoom : axisOf b .zoom = b.zoom := rfl
@[simp] theorem axisOf_focus : axisOf b .focus = b.focus := rfl
@[simp] theorem setAxis_zoom_regs (a : AxisUnit) : (setAxis .zoom a b).regs = b.regs := rfl
@[simp] theorem setAxis_zoom_ntu (a : AxisUnit) : (setAxis .zoom a b).ntu = b.ntu := rfl
@[simp] theorem setAxis_zoom_ple (a : AxisUnit) : (setAxis .zoom a b).ple = b.ple := rfl
@[simp] theorem setAxis_zoom_ftu (a : AxisUnit) : (setAxis .zoom a b).ftu = b.ftu := rfl
@[simp] theorem setAxis_zoom_stu (a : AxisUnit) : (setAxis .zoom a b).stu = b.stu := rfl
@[simp] theorem setAxis_zoom_exu (a : AxisUnit) : (setAxis .zoom a b).exu = b.exu := rfl
@[simp] theorem setAxis_zoom_zoom (a : AxisUnit) : (setAxis .zoom a b).zoom = a := rfl
@[simp] theorem setAxis_zoom_focus (a : AxisUnit) : (setAxis .zoom a b).focus = b.focus := rfl
@[simp] theorem setAxis_zoom_iris (a : AxisUnit) : (setAxis .zoom a b).iris = b.iris := rfl
@[simp] theorem setAxis_zoom_ldu (a : AxisUnit) : (setAxis .zoom a b).ldu = b.ldu := rfl
@[simp] theorem setAxis_zoom_zmap (a : AxisUnit) : (setAxis .zoom a b).zmap = b.zmap := rfl
@[simp] theorem setAxis_zoom_afu (a : AxisUnit) : (setAxis .zoom a b).afu = b.afu := rfl
@[simp] theorem setAxis_zoom_sbu (a : AxisUnit) : (setAxis .zoom a b).sbu = b.sbu := rfl
@[simp] theorem setAxis_zoom_cap (a : AxisUnit) : (setAxis .zoom a b).cap = b.cap := rfl
@[simp] theorem setAxis_zoom_fsu (a : AxisUnit) : (setAxis .zoom a b).fsu = b.fsu := rfl
@[simp] theorem setAxis_zoom_due (a : AxisUnit) : (setAxis .zoom a b).due = b.due := rfl
@[simp] theorem setAxis_focus_regs (a : AxisUnit) : (setAxis .focus a b).regs = b.regs := rfl
@[simp] theorem setAxis_focus_ntu (a : AxisUnit) : (setAxis .focus a b).ntu = b.ntu := rfl
@[simp] theorem setAxis_focus_ple (a : AxisUnit) : (setAxis .focus a b).ple = b.ple := rfl
@[simp] theorem setAxis_focus_ftu (a : AxisUnit) : (setAxis .focus a b).ftu = b.ftu := rfl
@[simp] theorem setAxis_focus_stu (a : AxisUnit) : (setAxis .focus a b).stu = b.stu := rfl
@[simp] theorem setAxis_focus_exu (a : AxisUnit) : (setAxis .focus a b).exu = b.exu := rfl
@[simp] theorem setAxis_focus_zoom (a : AxisUnit) : (setAxis .focus a b).zoom = b.zoom := rfl
@[simp] theorem setAxis_focus_focus (a : AxisUnit) : (setAxis .focus a b).focus = a := rfl
@[simp] theorem setAxis_focus_iris (a : AxisUnit) : (setAxis .focus a b).iris = b.iris := rfl
@[simp] theorem setAxis_focus_ldu (a : AxisUnit) : (setAxis .focus a b).ldu = b.ldu := rfl
@[simp] theorem setAxis_focus_zmap (a : AxisUnit) : (setAxis .focus a b).zmap = b.zmap := rfl
@[simp] theorem setAxis_focus_afu (a : AxisUnit) : (setAxis .focus a b).afu = b.afu := rfl
@[simp] theorem setAxis_focus_sbu (a : AxisUnit) : (setAxis .focus a b).sbu = b.sbu := rfl
@[simp] theorem setAxis_focus_cap (a : AxisUnit) : (setAxis .focus a b).cap = b.cap := rfl
@[simp] theorem setAxis_focus_fsu (a : AxisUnit) : (setAxis .focus a b).fsu = b.fsu := rfl
@[simp] theorem setAxis_focus_due (a : AxisUnit) : (setAxis .focus a b).due = b.due := rfl

/-- Reading an axis just replaced. -/
@[simp] theorem axisOf_setAxis (ax : Axis) (a : AxisUnit) : axisOf (setAxis ax a b) ax = a := by cases ax <;> rfl

theorem setAxis_regs (ax : Axis) (a : AxisUnit) : (setAxis ax a b).regs = b.regs := by cases ax <;> rfl
theorem setAxis_ntu (ax : Axis) (a : AxisUnit) : (setAxis ax a b).ntu = b.ntu := by cases ax <;> rfl
theorem setAxis_ple (ax : Axis) (a : AxisUnit) : (setAxis ax a b).ple = b.ple := by cases ax <;> rfl
theorem setAxis_ftu (ax : Axis) (a : AxisUnit) : (setAxis ax a b).ftu = b.ftu := by cases ax <;> rfl
theorem setAxis_stu (ax : Axis) (a : AxisUnit) : (setAxis ax a b).stu = b.stu := by cases ax <;> rfl
theorem setAxis_exu (ax : Axis) (a : AxisUnit) : (setAxis ax a b).exu = b.exu := by cases ax <;> rfl
theorem setAxis_iris (ax : Axis) (a : AxisUnit) : (setAxis ax a b).iris = b.iris := by cases ax <;> rfl
theorem setAxis_ldu (ax : Axis) (a : AxisUnit) : (setAxis ax a b).ldu = b.ldu := by cases ax <;> rfl
theorem setAxis_zmap (ax : Axis) (a : AxisUnit) : (setAxis ax a b).zmap = b.zmap := by cases ax <;> rfl
theorem setAxis_afu (ax : Axis) (a : AxisUnit) : (setAxis ax a b).afu = b.afu := by cases ax <;> rfl
theorem setAxis_sbu (ax : Axis) (a : AxisUnit) : (setAxis ax a b).sbu = b.sbu := by cases ax <;> rfl
theorem setAxis_cap (ax : Axis) (a : AxisUnit) : (setAxis ax a b).cap = b.cap := by cases ax <;> rfl
theorem setAxis_fsu (ax : Axis) (a : AxisUnit) : (setAxis ax a b).fsu = b.fsu := by cases ax <;> rfl
theorem setAxis_due (ax : Axis) (a : AxisUnit) : (setAxis ax a b).due = b.due := by cases ax <;> rfl

/-! ### Due steps -/

@[simp] theorem markDue_regs (d : DueStep) : (markDue d b).regs = b.regs := by unfold markDue; split <;> rfl
@[simp] theorem markDue_ntu (d : DueStep) : (markDue d b).ntu = b.ntu := by unfold markDue; split <;> rfl
@[simp] theorem markDue_ple (d : DueStep) : (markDue d b).ple = b.ple := by unfold markDue; split <;> rfl
@[simp] theorem markDue_ftu (d : DueStep) : (markDue d b).ftu = b.ftu := by unfold markDue; split <;> rfl
@[simp] theorem markDue_stu (d : DueStep) : (markDue d b).stu = b.stu := by unfold markDue; split <;> rfl
@[simp] theorem markDue_exu (d : DueStep) : (markDue d b).exu = b.exu := by unfold markDue; split <;> rfl
@[simp] theorem markDue_zoom (d : DueStep) : (markDue d b).zoom = b.zoom := by unfold markDue; split <;> rfl
@[simp] theorem markDue_focus (d : DueStep) : (markDue d b).focus = b.focus := by unfold markDue; split <;> rfl
@[simp] theorem markDue_iris (d : DueStep) : (markDue d b).iris = b.iris := by unfold markDue; split <;> rfl
@[simp] theorem markDue_ldu (d : DueStep) : (markDue d b).ldu = b.ldu := by unfold markDue; split <;> rfl
@[simp] theorem markDue_zmap (d : DueStep) : (markDue d b).zmap = b.zmap := by unfold markDue; split <;> rfl
@[simp] theorem markDue_afu (d : DueStep) : (markDue d b).afu = b.afu := by unfold markDue; split <;> rfl
@[simp] theorem markDue_sbu (d : DueStep) : (markDue d b).sbu = b.sbu := by unfold markDue; split <;> rfl
@[simp] theorem markDue_cap (d : DueStep) : (markDue d b).cap = b.cap := by unfold markDue; split <;> rfl
@[simp] theorem markDue_fsu (d : DueStep) : (markDue d b).fsu = b.fsu := by unfold markDue; split <;> rfl

/-- A step marked as due is due. -/
theorem mem_markDue (d : DueStep) : d ∈ (markDue d b).due := by
  unfold markDue
  split
  · assumption
  · simp

end Sys2Proof.Machine
end

