-- ==== Sys2Proof/Laws/Frame.lean ====
section
/-!
SUPPORT. One lemma per operation of the block that names every field it can change: `Changes l b c` says that c differs from b
only in the fields of l. From `h : Changes l b c`, `h .zoom (by decide)` is `c.zoom = b.zoom`.
-/

set_option linter.tactic.unusedName false
set_option linter.unreachableTactic false
set_option linter.unusedTactic false

namespace Sys2Proof.Machine

/-- The fields of the block. -/
inductive Fld
  | regs | ntu | ple | ftu | stu | exu | zoom | focus | iris | ldu | zmap | afu | sbu | cap | fsu | due
  deriving DecidableEq, Repr

/-- Two blocks agree in a field. -/
def Agree (b c : Block) : Fld → Prop
  | .regs => c.regs = b.regs
  | .ntu => c.ntu = b.ntu
  | .ple => c.ple = b.ple
  | .ftu => c.ftu = b.ftu
  | .stu => c.stu = b.stu
  | .exu => c.exu = b.exu
  | .zoom => c.zoom = b.zoom
  | .focus => c.focus = b.focus
  | .iris => c.iris = b.iris
  | .ldu => c.ldu = b.ldu
  | .zmap => c.zmap = b.zmap
  | .afu => c.afu = b.afu
  | .sbu => c.sbu = b.sbu
  | .cap => c.cap = b.cap
  | .fsu => c.fsu = b.fsu
  | .due => c.due = b.due

/-- c differs from b only in the fields of l. -/
def Changes (l : List Fld) (b c : Block) : Prop := ∀ f, f ∉ l → Agree b c f

/-- Every field of one list stands in another. -/
def Among (k l : List Fld) : Prop := ∀ f ∈ k, f ∈ l

theorem Among.refl (l : List Fld) : Among l l := fun _ h => h

theorem Among.mono {j k l : List Fld} (hl : Among k l) (h : j.all (fun f => decide (f ∈ k)) = true) : Among j l :=
  fun f hf => hl f (of_decide_eq_true (List.all_eq_true.mp h f hf))

theorem Among.mem {k l : List Fld} (hl : Among k l) {f : Fld} (h : decide (f ∈ k) = true) : f ∈ l :=
  hl f (of_decide_eq_true h)

theorem Changes.refl (l : List Fld) (b : Block) : Changes l b b := fun f _ => by cases f <;> exact rfl

theorem Changes.trans {l : List Fld} {a b c : Block} (h : Changes l a b) (g : Changes l b c) : Changes l a c :=
  fun f hf => by
    have h1 := h f hf
    have h2 := g f hf
    cases f <;> exact Eq.trans h2 h1

theorem Changes.mono {k l : List Fld} {a b : Block} (h : Changes k a b) (hk : Among k l) : Changes l a b :=
  fun f hf => h f fun g => hf (hk f g)

/-! ### One field -/

theorem changes_regs {l : List Fld} {a b : Block} {v} (h : Changes l a b) (hl : .regs ∈ l) :
    Changes l a { b with regs := v } := fun f hf => by
  cases f
  case regs => exact absurd hl hf
  all_goals exact h _ hf

theorem changes_ntu {l : List Fld} {a b : Block} {v} (h : Changes l a b) (hl : .ntu ∈ l) :
    Changes l a { b with ntu := v } := fun f hf => by
  cases f
  case ntu => exact absurd hl hf
  all_goals exact h _ hf

theorem changes_ple {l : List Fld} {a b : Block} {v} (h : Changes l a b) (hl : .ple ∈ l) :
    Changes l a { b with ple := v } := fun f hf => by
  cases f
  case ple => exact absurd hl hf
  all_goals exact h _ hf

theorem changes_ftu {l : List Fld} {a b : Block} {v} (h : Changes l a b) (hl : .ftu ∈ l) :
    Changes l a { b with ftu := v } := fun f hf => by
  cases f
  case ftu => exact absurd hl hf
  all_goals exact h _ hf

theorem changes_stu {l : List Fld} {a b : Block} {v} (h : Changes l a b) (hl : .stu ∈ l) :
    Changes l a { b with stu := v } := fun f hf => by
  cases f
  case stu => exact absurd hl hf
  all_goals exact h _ hf

theorem changes_exu {l : List Fld} {a b : Block} {v} (h : Changes l a b) (hl : .exu ∈ l) :
    Changes l a { b with exu := v } := fun f hf => by
  cases f
  case exu => exact absurd hl hf
  all_goals exact h _ hf

theorem changes_zoom {l : List Fld} {a b : Block} {v} (h : Changes l a b) (hl : .zoom ∈ l) :
    Changes l a { b with zoom := v } := fun f hf => by
  cases f
  case zoom => exact absurd hl hf
  all_goals exact h _ hf

theorem changes_focus {l : List Fld} {a b : Block} {v} (h : Changes l a b) (hl : .focus ∈ l) :
    Changes l a { b with focus := v } := fun f hf => by
  cases f
  case focus => exact absurd hl hf
  all_goals exact h _ hf

theorem changes_iris {l : List Fld} {a b : Block} {v} (h : Changes l a b) (hl : .iris ∈ l) :
    Changes l a { b with iris := v } := fun f hf => by
  cases f
  case iris => exact absurd hl hf
  all_goals exact h _ hf

theorem changes_ldu {l : List Fld} {a b : Block} {v} (h : Changes l a b) (hl : .ldu ∈ l) :
    Changes l a { b with ldu := v } := fun f hf => by
  cases f
  case ldu => exact absurd hl hf
  all_goals exact h _ hf

theorem changes_zmap {l : List Fld} {a b : Block} {v} (h : Changes l a b) (hl : .zmap ∈ l) :
    Changes l a { b with zmap := v } := fun f hf => by
  cases f
  case zmap => exact absurd hl hf
  all_goals exact h _ hf

theorem changes_afu {l : List Fld} {a b : Block} {v} (h : Changes l a b) (hl : .afu ∈ l) :
    Changes l a { b with afu := v } := fun f hf => by
  cases f
  case afu => exact absurd hl hf
  all_goals exact h _ hf

theorem changes_sbu {l : List Fld} {a b : Block} {v} (h : Changes l a b) (hl : .sbu ∈ l) :
    Changes l a { b with sbu := v } := fun f hf => by
  cases f
  case sbu => exact absurd hl hf
  all_goals exact h _ hf

theorem changes_cap {l : List Fld} {a b : Block} {v} (h : Changes l a b) (hl : .cap ∈ l) :
    Changes l a { b with cap := v } := fun f hf => by
  cases f
  case cap => exact absurd hl hf
  all_goals exact h _ hf

theorem changes_fsu {l : List Fld} {a b : Block} {v} (h : Changes l a b) (hl : .fsu ∈ l) :
    Changes l a { b with fsu := v } := fun f hf => by
  cases f
  case fsu => exact absurd hl hf
  all_goals exact h _ hf

theorem changes_due {l : List Fld} {a b : Block} {v} (h : Changes l a b) (hl : .due ∈ l) :
    Changes l a { b with due := v } := fun f hf => by
  cases f
  case due => exact absurd hl hf
  all_goals exact h _ hf

theorem setStu_frame {l : List Fld} {x₀ b : Block} (g : Stu → Stu) (hl : Among [.stu] l) (h : Changes l x₀ b) :
    Changes l x₀ (setStu g b) := changes_stu h (hl.mem rfl)

theorem setCap_frame {l : List Fld} {x₀ b : Block} (g : Cap → Cap) (hl : Among [.cap] l) (h : Changes l x₀ b) :
    Changes l x₀ (setCap g b) := changes_cap h (hl.mem rfl)

theorem setZmap_frame {l : List Fld} {x₀ b : Block} (g : Zmap → Zmap) (hl : Among [.zmap] l) (h : Changes l x₀ b) :
    Changes l x₀ (setZmap g b) := changes_zmap h (hl.mem rfl)

theorem setFtu_frame {l : List Fld} {x₀ b : Block} (g : Ftu → Ftu) (hl : Among [.ftu] l) (h : Changes l x₀ b) :
    Changes l x₀ (setFtu g b) := changes_ftu h (hl.mem rfl)

theorem setFsu_frame {l : List Fld} {x₀ b : Block} (g : Fsu → Fsu) (hl : Among [.fsu] l) (h : Changes l x₀ b) :
    Changes l x₀ (setFsu g b) := changes_fsu h (hl.mem rfl)

theorem setSbu_frame {l : List Fld} {x₀ b : Block} (g : Sbu → Sbu) (hl : Among [.sbu] l) (h : Changes l x₀ b) :
    Changes l x₀ (setSbu g b) := changes_sbu h (hl.mem rfl)

theorem setAfu_frame {l : List Fld} {x₀ b : Block} (g : Afu → Afu) (hl : Among [.afu] l) (h : Changes l x₀ b) :
    Changes l x₀ (setAfu g b) := changes_afu h (hl.mem rfl)

theorem setPle_frame {l : List Fld} {x₀ b : Block} (g : Ple → Ple) (hl : Among [.ple] l) (h : Changes l x₀ b) :
    Changes l x₀ (setPle g b) := changes_ple h (hl.mem rfl)

theorem setRef_frame {l : List Fld} {x₀ b : Block} (r : Option RefPlan) (hl : Among [.ldu] l) (h : Changes l x₀ b) :
    Changes l x₀ (setRef r b) := changes_ldu h (hl.mem rfl)

theorem setMsense_frame {l : List Fld} {x₀ b : Block} (m : Msense) (hl : Among [.ldu] l) (h : Changes l x₀ b) :
    Changes l x₀ (setMsense m b) := changes_ldu h (hl.mem rfl)

theorem setSearch_frame {l : List Fld} {x₀ b : Block} (s : Option Search) (hl : Among [.afu] l) (h : Changes l x₀ b) :
    Changes l x₀ (setSearch s b) := changes_afu h (hl.mem rfl)

/-! ### One axis -/

theorem setAxis_zoom_frame {l : List Fld} {x₀ b : Block} (a : AxisUnit) (hl : Among [.zoom] l) (h : Changes l x₀ b) :
    Changes l x₀ (setAxis .zoom a b) := changes_zoom h (hl.mem rfl)

theorem setAxis_focus_frame {l : List Fld} {x₀ b : Block} (a : AxisUnit) (hl : Among [.focus] l)
    (h : Changes l x₀ b) : Changes l x₀ (setAxis .focus a b) := changes_focus h (hl.mem rfl)

theorem setAxis_frame {l : List Fld} {x₀ b : Block} (ax : Axis) (a : AxisUnit) (hl : Among [.zoom, .focus] l)
    (h : Changes l x₀ b) : Changes l x₀ (setAxis ax a b) := by
  cases ax
  · exact setAxis_zoom_frame a (hl.mono rfl) h
  · exact setAxis_focus_frame a (hl.mono rfl) h

theorem putAxis_zoom_frame {l : List Fld} {x₀ b : Block} (a : AxisUnit) (hl : Among [.zoom] l) (h : Changes l x₀ b) :
    Changes l x₀ (putAxis .zoom a b) := changes_zoom h (hl.mem rfl)

theorem putAxis_focus_frame {l : List Fld} {x₀ b : Block} (a : AxisUnit) (hl : Among [.focus, .afu] l)
    (h : Changes l x₀ b) : Changes l x₀ (putAxis .focus a b) := by
  unfold putAxis
  split
  · exact changes_afu (setAxis_focus_frame a (hl.mono rfl) h) (hl.mem rfl)
  · exact setAxis_focus_frame a (hl.mono rfl) h

theorem brake_zoom_frame {l : List Fld} {x₀ b : Block} (v : Bool) (hl : Among [.zoom] l) (h : Changes l x₀ b) :
    Changes l x₀ (brake .zoom v b) := putAxis_zoom_frame _ hl h

theorem brake_focus_frame {l : List Fld} {x₀ b : Block} (v : Bool) (hl : Among [.focus, .afu] l)
    (h : Changes l x₀ b) : Changes l x₀ (brake .focus v b) := putAxis_focus_frame _ hl h

theorem clampTarget_zoom_frame {l : List Fld} {x₀ b : Block} (hl : Among [.zoom] l) (h : Changes l x₀ b) :
    Changes l x₀ (clampTarget .zoom b) := setAxis_zoom_frame _ hl h

theorem clampTarget_focus_frame {l : List Fld} {x₀ b : Block} (hl : Among [.focus] l) (h : Changes l x₀ b) :
    Changes l x₀ (clampTarget .focus b) := setAxis_focus_frame _ hl h

theorem startMove_zoom_frame {l : List Fld} {x₀ b : Block} (g : Giver) (t : Int) (hl : Among [.zoom, .ntu] l)
    (h : Changes l x₀ b) : Changes l x₀ (startMove .zoom g t b).1 := by
  unfold startMove
  split
  · exact h
  · split
    · exact changes_ntu h (hl.mem rfl)
    · exact putAxis_zoom_frame _ (hl.mono rfl) h

theorem startMove_focus_frame {l : List Fld} {x₀ b : Block} (g : Giver) (t : Int) (hl : Among [.focus, .afu, .ntu] l)
    (h : Changes l x₀ b) : Changes l x₀ (startMove .focus g t b).1 := by
  unfold startMove
  split
  · exact h
  · split
    · exact changes_ntu h (hl.mem rfl)
    · exact putAxis_focus_frame _ (hl.mono rfl) h

/-! ### Flags.lean -/

theorem raise_frame {fs : List Fld} {x₀ b : Block} (c : Cause) (hl : Among [.ntu] fs) (h : Changes fs x₀ b) :
    Changes fs x₀ (raise c b) := by
  unfold raise
  repeat'
    first
      | with_reducible exact h | (with_reducible refine hl.mono ?_) <;> rfl
      | (with_reducible refine hl.mem ?_) <;> rfl | split | with_reducible refine changes_ntu ?_ ?_

theorem setCond_frame {fs : List Fld} {x₀ b : Block} (c : Cond) (v : Bool)
    (hl : Among [.ntu] fs) (h : Changes fs x₀ b) :
    Changes fs x₀ (setCond c v b) := by
  unfold setCond
  repeat'
    first
      | with_reducible exact h | (with_reducible refine hl.mono ?_) <;> rfl
      | (with_reducible refine hl.mem ?_) <;> rfl | split | with_reducible refine changes_ntu ?_ ?_

theorem latchFault_frame {fs : List Fld} {x₀ b : Block} (code : FaultCode) (offset : Nat)
    (hl : Among [.regs] fs) (h : Changes fs x₀ b) :
    Changes fs x₀ (latchFault code offset b) := by
  unfold latchFault
  repeat'
    first
      | with_reducible exact h | (with_reducible refine hl.mono ?_) <;> rfl
      | (with_reducible refine hl.mem ?_) <;> rfl | split | with_reducible refine changes_regs ?_ ?_

theorem memoryFault_frame {fs : List Fld} {x₀ b : Block} (code : FaultCode) (offset : Nat)
    (hl : Among [.regs, .ntu] fs) (h : Changes fs x₀ b) :
    Changes fs x₀ (memoryFault code offset b) := by
  unfold memoryFault
  repeat'
    first
      | with_reducible exact h | (with_reducible refine hl.mono ?_) <;> rfl
      | (with_reducible refine hl.mem ?_) <;> rfl | with_reducible apply raise_frame
      | with_reducible apply latchFault_frame | split

theorem memoryFault?_frame {fs : List Fld} {x₀ b : Block} (code : Option FaultCode) (offset : Nat)
    (hl : Among [.regs, .ntu] fs) (h : Changes fs x₀ b) :
    Changes fs x₀ (memoryFault? code offset b) := by
  unfold memoryFault?
  repeat'
    first
      | with_reducible exact h | (with_reducible refine hl.mono ?_) <;> rfl
      | (with_reducible refine hl.mem ?_) <;> rfl | with_reducible apply memoryFault_frame | split

/-! ### Ops.lean -/

theorem markDue_frame {fs : List Fld} {x₀ b : Block} (d : DueStep) (hl : Among [.due] fs) (h : Changes fs x₀ b) :
    Changes fs x₀ (markDue d b) := by
  unfold markDue
  repeat'
    first
      | with_reducible exact h | (with_reducible refine hl.mono ?_) <;> rfl
      | (with_reducible refine hl.mem ?_) <;> rfl | split | with_reducible refine changes_due ?_ ?_

theorem dropDue_frame {fs : List Fld} {x₀ b : Block} (d : DueStep) (hl : Among [.due] fs) (h : Changes fs x₀ b) :
    Changes fs x₀ (dropDue d b) := by
  unfold dropDue
  repeat'
    first
      | with_reducible exact h | (with_reducible refine hl.mono ?_) <;> rfl
      | (with_reducible refine hl.mem ?_) <;> rfl | split | with_reducible refine changes_due ?_ ?_

theorem requestLook_frame {fs : List Fld} {x₀ b : Block} (hl : Among [.ple, .due] fs) (h : Changes fs x₀ b) :
    Changes fs x₀ (requestLook b) := by
  unfold requestLook
  repeat'
    first
      | with_reducible exact h | (with_reducible refine hl.mono ?_) <;> rfl
      | (with_reducible refine hl.mem ?_) <;> rfl | with_reducible apply markDue_frame | split
      | with_reducible refine changes_ple ?_ ?_

theorem requestMirror_frame {fs : List Fld} {x₀ b : Block} (hl : Among [.ple, .due] fs) (h : Changes fs x₀ b) :
    Changes fs x₀ (requestMirror b) := by
  unfold requestMirror
  repeat'
    first
      | with_reducible exact h | (with_reducible refine hl.mono ?_) <;> rfl
      | (with_reducible refine hl.mem ?_) <;> rfl | with_reducible apply markDue_frame | split
      | with_reducible refine changes_ple ?_ ?_

theorem setEnding_frame {fs : List Fld} {x₀ b : Block} (k : PlanKind) (e : Ending)
    (hl : Among [.ple] fs) (h : Changes fs x₀ b) :
    Changes fs x₀ (setEnding k e b) := by
  unfold setEnding
  repeat'
    first
      | with_reducible exact h | (with_reducible refine hl.mono ?_) <;> rfl
      | (with_reducible refine hl.mem ?_) <;> rfl | split | with_reducible refine changes_ple ?_ ?_

theorem startEnding_frame {fs : List Fld} {x₀ b : Block} (t : Taken) (fin : FinalState) (o : PlanOutcome) (word area : List Byte)
    (hl : Among [.ple, .due] fs) (h : Changes fs x₀ b) :
    Changes fs x₀ (startEnding t fin o word area b) := by
  unfold startEnding
  repeat'
    first
      | with_reducible exact h | (with_reducible refine hl.mono ?_) <;> rfl
      | (with_reducible refine hl.mem ?_) <;> rfl | with_reducible apply requestMirror_frame
      | with_reducible apply setEnding_frame | split

theorem endPlan_frame {fs : List Fld} {x₀ b : Block} (k : PlanKind) (fin : FinalState) (o : PlanOutcome) (word area : List Byte)
    (hl : Among [.ple, .due] fs) (h : Changes fs x₀ b) :
    Changes fs x₀ (endPlan k fin o word area b) := by
  unfold endPlan
  repeat'
    first
      | with_reducible exact h | (with_reducible refine hl.mono ?_) <;> rfl
      | (with_reducible refine hl.mem ?_) <;> rfl | with_reducible apply startEnding_frame | split

/-! ### ZoomMap.lean -/

theorem recomputeU_frame {fs : List Fld} {x₀ b : Block} (hl : Among [.zmap] fs) (h : Changes fs x₀ b) :
    Changes fs x₀ (recomputeU b) := by
  unfold recomputeU
  repeat'
    first
      | with_reducible exact h | (with_reducible refine hl.mono ?_) <;> rfl
      | (with_reducible refine hl.mem ?_) <;> rfl | split | with_reducible refine changes_zmap ?_ ?_

/-! ### Exposure.lean -/

theorem exposureHandOver_frame {fs : List Fld} {x₀ b : Block} (p : ExpParams)
    (hl : Among [.exu] fs) (h : Changes fs x₀ b) :
    Changes fs x₀ (exposureHandOver p b) := by
  unfold exposureHandOver
  repeat'
    first
      | with_reducible exact h | (with_reducible refine hl.mono ?_) <;> rfl
      | (with_reducible refine hl.mem ?_) <;> rfl | split | with_reducible refine changes_exu ?_ ?_

/-! ### Lens.lean -/

theorem spoilCandidates_frame {fs : List Fld} {x₀ b : Block} (hl : Among [.afu] fs) (h : Changes fs x₀ b) :
    Changes fs x₀ (spoilCandidates b) := by
  unfold spoilCandidates
  repeat'
    first
      | with_reducible exact h | (with_reducible refine hl.mono ?_) <;> rfl
      | (with_reducible refine hl.mem ?_) <;> rfl | split | with_reducible refine changes_afu ?_ ?_

theorem putAxis_frame {fs : List Fld} {x₀ b : Block} (ax : Axis) (a : AxisUnit)
    (hl : Among [.zoom, .focus, .afu] fs) (h : Changes fs x₀ b) :
    Changes fs x₀ (putAxis ax a b) := by
  unfold putAxis
  repeat'
    first
      | with_reducible exact h | (with_reducible refine hl.mono ?_) <;> rfl
      | (with_reducible refine hl.mem ?_) <;> rfl | with_reducible apply spoilCandidates_frame
      | with_reducible apply setAxis_frame | split

theorem brake_frame {fs : List Fld} {x₀ b : Block} (ax : Axis) (faulted : Bool)
    (hl : Among [.zoom, .focus, .afu] fs) (h : Changes fs x₀ b) :
    Changes fs x₀ (brake ax faulted b) := by
  unfold brake
  repeat'
    first
      | with_reducible exact h | (with_reducible refine hl.mono ?_) <;> rfl
      | (with_reducible refine hl.mem ?_) <;> rfl | with_reducible apply putAxis_frame | split

theorem clampTarget_frame {fs : List Fld} {x₀ b : Block} (ax : Axis)
    (hl : Among [.zoom, .focus] fs) (h : Changes fs x₀ b) :
    Changes fs x₀ (clampTarget ax b) := by
  unfold clampTarget
  repeat'
    first
      | with_reducible exact h | (with_reducible refine hl.mono ?_) <;> rfl
      | (with_reducible refine hl.mem ?_) <;> rfl | with_reducible apply setAxis_frame | extract_lets c1 c2
      | dsimp only [c1] | dsimp only [c2] | split

theorem updateFocusLimits_frame {fs : List Fld} {x₀ b : Block} (hl : Among [.focus, .zmap] fs) (h : Changes fs x₀ b) :
    Changes fs x₀ (updateFocusLimits b) := by
  unfold updateFocusLimits
  repeat'
    first
      | with_reducible exact h | (with_reducible refine hl.mono ?_) <;> rfl
      | (with_reducible refine hl.mem ?_) <;> rfl | with_reducible apply clampTarget_focus_frame | split
      | with_reducible refine changes_zmap ?_ ?_

theorem updateZoomLimits_frame {fs : List Fld} {x₀ b : Block} (hl : Among [.zoom, .zmap] fs) (h : Changes fs x₀ b) :
    Changes fs x₀ (updateZoomLimits b) := by
  unfold updateZoomLimits
  repeat'
    first
      | with_reducible exact h | (with_reducible refine hl.mono ?_) <;> rfl
      | (with_reducible refine hl.mem ?_) <;> rfl | with_reducible apply clampTarget_zoom_frame | split
      | with_reducible refine changes_zmap ?_ ?_

theorem stopTracking_frame {fs : List Fld} {x₀ b : Block} (hl : Among [.focus, .afu] fs) (h : Changes fs x₀ b) :
    Changes fs x₀ (stopTracking b) := by
  unfold stopTracking
  repeat'
    first
      | with_reducible exact h | (with_reducible refine hl.mono ?_) <;> rfl
      | (with_reducible refine hl.mem ?_) <;> rfl | with_reducible apply brake_focus_frame | split

theorem retrack_frame {fs : List Fld} {x₀ b : Block} (takeOver : Bool)
    (hl : Among [.focus, .zmap, .afu] fs) (h : Changes fs x₀ b) :
    Changes fs x₀ (retrack takeOver b) := by
  unfold retrack
  repeat'
    first
      | with_reducible exact h | (with_reducible refine hl.mono ?_) <;> rfl
      | (with_reducible refine hl.mem ?_) <;> rfl | with_reducible apply stopTracking_frame | extract_lets c1
      | dsimp only [c1] | split | with_reducible refine changes_zmap ?_ ?_

theorem trackFailed_frame {fs : List Fld} {x₀ b : Block} (hl : Among [.focus, .zmap, .afu] fs) (h : Changes fs x₀ b) :
    Changes fs x₀ (trackFailed b) := by
  unfold trackFailed
  repeat'
    first
      | with_reducible exact h | (with_reducible refine hl.mono ?_) <;> rfl
      | (with_reducible refine hl.mem ?_) <;> rfl | with_reducible apply retrack_frame | split
      | with_reducible refine changes_zmap ?_ ?_

theorem trackTarget_frame {fs : List Fld} {x₀ b : Block}
    (hl : Among [.ntu, .focus, .zmap, .afu] fs) (h : Changes fs x₀ b) :
    Changes fs x₀ (trackTarget b) := by
  unfold trackTarget
  repeat'
    first
      | with_reducible exact h | (with_reducible refine hl.mono ?_) <;> rfl
      | (with_reducible refine hl.mem ?_) <;> rfl | with_reducible apply startMove_focus_frame
      | with_reducible apply trackFailed_frame | extract_lets c1 c2 c3 c4 | dsimp only [c1] | dsimp only [c2]
      | dsimp only [c3] | dsimp only [c4] | split | with_reducible refine changes_zmap ?_ ?_

theorem zoomMoved_frame {fs : List Fld} {x₀ b : Block}
    (hl : Among [.ntu, .focus, .zmap, .afu] fs) (h : Changes fs x₀ b) :
    Changes fs x₀ (zoomMoved b) := by
  unfold zoomMoved
  repeat'
    first
      | with_reducible exact h | (with_reducible refine hl.mono ?_) <;> rfl
      | (with_reducible refine hl.mem ?_) <;> rfl | with_reducible apply updateFocusLimits_frame
      | with_reducible apply trackTarget_frame | extract_lets c1 c2 | dsimp only [c1] | dsimp only [c2] | split

theorem referenceChanged_frame {fs : List Fld} {x₀ b : Block} (ax : Axis)
    (hl : Among [.focus, .zmap, .afu] fs) (h : Changes fs x₀ b) :
    Changes fs x₀ (referenceChanged ax b) := by
  unfold referenceChanged
  repeat'
    first
      | with_reducible exact h | (with_reducible refine hl.mono ?_) <;> rfl
      | (with_reducible refine hl.mem ?_) <;> rfl | with_reducible apply retrack_frame
      | with_reducible apply updateFocusLimits_frame | split

theorem irisRequest_frame {fs : List Fld} {x₀ b : Block} (c : Nat) (hl : Among [.iris] fs) (h : Changes fs x₀ b) :
    Changes fs x₀ (irisRequest c b) := by
  unfold irisRequest
  repeat'
    first
      | with_reducible exact h | (with_reducible refine hl.mono ?_) <;> rfl
      | (with_reducible refine hl.mem ?_) <;> rfl | split | with_reducible refine changes_iris ?_ ?_

/-! ### Search.lean -/

theorem addCandidate_frame {fs : List Fld} {x₀ b : Block} (k : Word) (hl : Among [.afu] fs) (h : Changes fs x₀ b) :
    Changes fs x₀ (addCandidate k b) := by
  unfold addCandidate
  repeat'
    first
      | with_reducible exact h | (with_reducible refine hl.mono ?_) <;> rfl
      | (with_reducible refine hl.mem ?_) <;> rfl | extract_lets c1 c2 | dsimp only [c1] | dsimp only [c2] | split
      | with_reducible refine changes_afu ?_ ?_

theorem writeSample_frame {fs : List Fld} {x₀ b : Block} (s : Search) (x : Sample)
    (hl : Among [.afu] fs) (h : Changes fs x₀ b) :
    Changes fs x₀ (writeSample s x b) := by
  unfold writeSample
  repeat'
    first
      | with_reducible exact h | (with_reducible refine hl.mono ?_) <;> rfl
      | (with_reducible refine hl.mem ?_) <;> rfl | extract_lets c1 | dsimp only [c1] | split
      | with_reducible refine changes_afu ?_ ?_

theorem searchReport_frame {fs : List Fld} {x₀ b : Block}
    (hl : Among [.ple, .zmap, .afu, .due] fs) (h : Changes fs x₀ b) :
    Changes fs x₀ (searchReport b) := by
  unfold searchReport
  repeat'
    first
      | with_reducible exact h | (with_reducible refine hl.mono ?_) <;> rfl
      | (with_reducible refine hl.mem ?_) <;> rfl | with_reducible apply recomputeU_frame
      | with_reducible apply setSearch_frame | with_reducible apply endPlan_frame | extract_lets c1
      | dsimp only [c1] | split

theorem traceResponse_frame {fs : List Fld} {x₀ b : Block} (i : Nat) (err : Bool)
    (hl : Among [.regs, .ntu, .ple, .zmap, .afu, .due] fs) (h : Changes fs x₀ b) :
    Changes fs x₀ (traceResponse i err b) := by
  unfold traceResponse
  repeat'
    first
      | with_reducible exact h | (with_reducible refine hl.mono ?_) <;> rfl
      | (with_reducible refine hl.mem ?_) <;> rfl | with_reducible apply searchReport_frame
      | with_reducible apply memoryFault?_frame | with_reducible apply setAfu_frame | extract_lets c1
      | dsimp only [c1] | split

theorem searchEnd_frame {fs : List Fld} {x₀ b : Block} (s : Search) (fin : FinalState) (o detail : PlanOutcome)
    (hl : Among [.ple, .zmap, .afu, .due] fs) (h : Changes fs x₀ b) :
    Changes fs x₀ (searchEnd s fin o detail b) := by
  unfold searchEnd
  repeat'
    first
      | with_reducible exact h | (with_reducible refine hl.mono ?_) <;> rfl
      | (with_reducible refine hl.mem ?_) <;> rfl | with_reducible apply searchReport_frame
      | with_reducible apply setSearch_frame | split

theorem giveSearchMove_frame {fs : List Fld} {x₀ b : Block} (s : Search) (target : Int)
    (hl : Among [.ntu, .ple, .focus, .zmap, .afu, .due] fs) (h : Changes fs x₀ b) :
    Changes fs x₀ (giveSearchMove s target b) := by
  unfold giveSearchMove
  repeat'
    first
      | with_reducible exact h | (with_reducible refine hl.mono ?_) <;> rfl
      | (with_reducible refine hl.mem ?_) <;> rfl | with_reducible apply startMove_focus_frame
      | with_reducible apply setSearch_frame | with_reducible apply searchEnd_frame
      | with_reducible apply stopTracking_frame | extract_lets c1 | dsimp only [c1] | split

theorem enterFinal_frame {fs : List Fld} {x₀ b : Block} (s : Search) (target : Int)
    (hl : Among [.ntu, .ple, .focus, .zmap, .afu, .due] fs) (h : Changes fs x₀ b) :
    Changes fs x₀ (enterFinal s target b) := by
  unfold enterFinal
  repeat'
    first
      | with_reducible exact h | (with_reducible refine hl.mono ?_) <;> rfl
      | (with_reducible refine hl.mem ?_) <;> rfl | with_reducible apply giveSearchMove_frame | extract_lets c1
      | dsimp only [c1] | split

theorem finishFine_frame {fs : List Fld} {x₀ b : Block} (s : Search)
    (hl : Among [.ntu, .ple, .focus, .zmap, .afu, .due] fs) (h : Changes fs x₀ b) :
    Changes fs x₀ (finishFine s b) := by
  unfold finishFine
  repeat'
    first
      | with_reducible exact h | (with_reducible refine hl.mono ?_) <;> rfl
      | (with_reducible refine hl.mem ?_) <;> rfl | with_reducible apply enterFinal_frame | extract_lets c1 c2 c3
      | dsimp only [c1] | dsimp only [c2] | dsimp only [c3] | split

theorem enterFine_frame {fs : List Fld} {x₀ b : Block} (s : Search)
    (hl : Among [.ntu, .ple, .focus, .zmap, .afu, .due] fs) (h : Changes fs x₀ b) :
    Changes fs x₀ (enterFine s b) := by
  unfold enterFine
  repeat'
    first
      | with_reducible exact h | (with_reducible refine hl.mono ?_) <;> rfl
      | (with_reducible refine hl.mem ?_) <;> rfl | with_reducible apply giveSearchMove_frame
      | extract_lets c1 c2 c3 c4 | dsimp only [c1] | dsimp only [c2] | dsimp only [c3] | dsimp only [c4] | split

theorem fineNext_frame {fs : List Fld} {x₀ b : Block} (s : Search) (last : Int)
    (hl : Among [.ntu, .ple, .focus, .zmap, .afu, .due] fs) (h : Changes fs x₀ b) :
    Changes fs x₀ (fineNext s last b) := by
  unfold fineNext
  repeat'
    first
      | with_reducible exact h | (with_reducible refine hl.mono ?_) <;> rfl
      | (with_reducible refine hl.mem ?_) <;> rfl | with_reducible apply finishFine_frame
      | with_reducible apply giveSearchMove_frame | extract_lets c1 c2 c3 | dsimp only [c1] | dsimp only [c2]
      | dsimp only [c3] | split

theorem coarseDecide_frame {fs : List Fld} {x₀ b : Block} (s : Search) (last : Int)
    (hl : Among [.ntu, .ple, .focus, .zmap, .afu, .due] fs) (h : Changes fs x₀ b) :
    Changes fs x₀ (coarseDecide s last b) := by
  unfold coarseDecide
  repeat'
    first
      | with_reducible exact h | (with_reducible refine hl.mono ?_) <;> rfl
      | (with_reducible refine hl.mem ?_) <;> rfl | with_reducible apply enterFine_frame
      | with_reducible apply enterFinal_frame | with_reducible apply giveSearchMove_frame | extract_lets c1 c2
      | dsimp only [c1] | dsimp only [c2] | split

theorem searchSample_frame {fs : List Fld} {x₀ b : Block} (s : Search) (r : StatsRecord)
    (hl : Among [.ntu, .ple, .focus, .zmap, .afu, .due] fs) (h : Changes fs x₀ b) :
    Changes fs x₀ (searchSample s r b) := by
  unfold searchSample
  repeat'
    first
      | with_reducible exact h | (with_reducible refine hl.mono ?_) <;> rfl
      | (with_reducible refine hl.mem ?_) <;> rfl | with_reducible apply writeSample_frame
      | with_reducible apply setAfu_frame | with_reducible apply enterFinal_frame
      | with_reducible apply fineNext_frame | with_reducible apply coarseDecide_frame | extract_lets c1 c2 c3
      | dsimp only [c1] | dsimp only [c2] | dsimp only [c3] | split

theorem searchMoveDone_frame {fs : List Fld} {x₀ b : Block}
    (hl : Among [.ple, .zmap, .afu, .due] fs) (h : Changes fs x₀ b) :
    Changes fs x₀ (searchMoveDone b) := by
  unfold searchMoveDone
  repeat'
    first
      | with_reducible exact h | (with_reducible refine hl.mono ?_) <;> rfl
      | (with_reducible refine hl.mem ?_) <;> rfl | with_reducible apply searchEnd_frame
      | with_reducible apply setSearch_frame | split

theorem searchMoveFailed_frame {fs : List Fld} {x₀ b : Block} (o detail : PlanOutcome)
    (hl : Among [.ple, .zmap, .afu, .due] fs) (h : Changes fs x₀ b) :
    Changes fs x₀ (searchMoveFailed o detail b) := by
  unfold searchMoveFailed
  repeat'
    first
      | with_reducible exact h | (with_reducible refine hl.mono ?_) <;> rfl
      | (with_reducible refine hl.mem ?_) <;> rfl | with_reducible apply searchEnd_frame | split

theorem searchStop_frame {fs : List Fld} {x₀ b : Block} (fin : FinalState) (o detail : PlanOutcome)
    (hl : Among [.ple, .focus, .zmap, .afu, .due] fs) (h : Changes fs x₀ b) :
    Changes fs x₀ (searchStop fin o detail b) := by
  unfold searchStop
  repeat'
    first
      | with_reducible exact h | (with_reducible refine hl.mono ?_) <;> rfl
      | (with_reducible refine hl.mem ?_) <;> rfl | with_reducible apply searchEnd_frame
      | with_reducible apply brake_focus_frame | split

theorem searchStreamStopped_frame {fs : List Fld} {x₀ b : Block}
    (hl : Among [.ple, .focus, .zmap, .afu, .due] fs) (h : Changes fs x₀ b) :
    Changes fs x₀ (searchStreamStopped b) := by
  unfold searchStreamStopped
  repeat'
    first
      | with_reducible exact h | (with_reducible refine hl.mono ?_) <;> rfl
      | (with_reducible refine hl.mem ?_) <;> rfl | with_reducible apply searchStop_frame | split

theorem searchHandOver_frame {fs : List Fld} {x₀ b : Block} (p : AfParams)
    (hl : Among [.ntu, .ple, .stu, .focus, .zmap, .afu, .due] fs) (h : Changes fs x₀ b) :
    Changes fs x₀ (searchHandOver p b) := by
  unfold searchHandOver
  extract_lets z up s _ _ b'
  have hb : Changes fs x₀ b' := fun f hf => by cases f <;> first | exact h _ hf | exact absurd (hl.mem rfl) hf
  exact giveSearchMove_frame _ _ (hl.mono rfl) hb

theorem cafStart_frame {fs : List Fld} {x₀ b : Block} (p : CapParams) (hl : Among [.afu] fs) (h : Changes fs x₀ b) :
    Changes fs x₀ (cafStart p b) := by
  unfold cafStart
  repeat'
    first
      | with_reducible exact h | (with_reducible refine hl.mono ?_) <;> rfl
      | (with_reducible refine hl.mem ?_) <;> rfl | extract_lets c1 | dsimp only [c1] | split
      | with_reducible refine changes_afu ?_ ?_

theorem cafFailed_frame {fs : List Fld} {x₀ b : Block} (o : PlanOutcome)
    (hl : Among [.afu, .cap] fs) (h : Changes fs x₀ b) :
    Changes fs x₀ (cafFailed o b) := by
  unfold cafFailed
  try dsimp only
  exact fun f hf => by cases f <;> first | exact h _ hf | exact absurd (hl.mem rfl) hf

theorem cafStep_frame {fs : List Fld} {x₀ b : Block}
    (hl : Among [.ntu, .focus, .afu, .cap] fs) (h : Changes fs x₀ b) :
    Changes fs x₀ (cafStep b) := by
  unfold cafStep
  repeat'
    first
      | with_reducible exact h | (with_reducible refine hl.mono ?_) <;> rfl
      | (with_reducible refine hl.mem ?_) <;> rfl | with_reducible apply startMove_focus_frame
      | with_reducible apply cafFailed_frame | extract_lets c1 c2 c3 c4 | dsimp only [c1] | dsimp only [c2]
      | dsimp only [c3] | dsimp only [c4] | split | with_reducible refine changes_afu ?_ ?_

theorem cafFrame_frame {fs : List Fld} {x₀ b : Block} (v : Nat)
    (hl : Among [.ntu, .focus, .afu, .cap] fs) (h : Changes fs x₀ b) :
    Changes fs x₀ (cafFrame v b) := by
  unfold cafFrame
  repeat'
    first
      | with_reducible exact h | (with_reducible refine hl.mono ?_) <;> rfl
      | (with_reducible refine hl.mem ?_) <;> rfl | with_reducible apply cafStep_frame | extract_lets c1
      | dsimp only [c1] | split | with_reducible refine changes_afu ?_ ?_

theorem cafStop_frame {fs : List Fld} {x₀ b : Block} (hl : Among [.focus, .afu] fs) (h : Changes fs x₀ b) :
    Changes fs x₀ (cafStop b) := by
  unfold cafStop
  repeat'
    first
      | with_reducible exact h | (with_reducible refine hl.mono ?_) <;> rfl
      | (with_reducible refine hl.mem ?_) <;> rfl | with_reducible apply brake_focus_frame | extract_lets c1
      | dsimp only [c1] | split | with_reducible refine changes_afu ?_ ?_

theorem cleanFrame_frame {fs : List Fld} {x₀ b : Block} (r : StatsRecord)
    (hl : Among [.ntu, .ple, .focus, .zmap, .afu, .cap, .due] fs) (h : Changes fs x₀ b) :
    Changes fs x₀ (cleanFrame r b) := by
  unfold cleanFrame
  repeat'
    first
      | with_reducible exact h | (with_reducible refine hl.mono ?_) <;> rfl
      | (with_reducible refine hl.mem ?_) <;> rfl | with_reducible apply searchSample_frame
      | with_reducible apply cafFrame_frame | split

theorem afuHandle_frame {fs : List Fld} {x₀ b : Block}
    (hl : Among [.ntu, .ple, .focus, .zmap, .afu, .cap, .due] fs) (h : Changes fs x₀ b) :
    Changes fs x₀ (afuHandle b) := by
  unfold afuHandle
  repeat'
    first
      | with_reducible exact h | (with_reducible refine hl.mono ?_) <;> rfl
      | (with_reducible refine hl.mem ?_) <;> rfl | with_reducible apply cleanFrame_frame | extract_lets c1 c2
      | dsimp only [c1] | dsimp only [c2] | split | with_reducible refine changes_afu ?_ ?_

/-! ### Motion.lean -/

theorem zoomReport_frame {fs : List Fld} {x₀ b : Block} (fin : FinalState) (o detail : PlanOutcome) (target : Int) (expiries : Nat)
    (hl : Among [.ple, .due] fs) (h : Changes fs x₀ b) :
    Changes fs x₀ (zoomReport fin o detail target expiries b) := by
  unfold zoomReport
  repeat'
    first
      | with_reducible exact h | (with_reducible refine hl.mono ?_) <;> rfl
      | (with_reducible refine hl.mem ?_) <;> rfl | with_reducible apply endPlan_frame | split

theorem focusReport_frame {fs : List Fld} {x₀ b : Block} (fin : FinalState) (o detail : PlanOutcome) (target : Int) (expiries : Nat)
    (hl : Among [.ple, .due] fs) (h : Changes fs x₀ b) :
    Changes fs x₀ (focusReport fin o detail target expiries b) := by
  unfold focusReport
  repeat'
    first
      | with_reducible exact h | (with_reducible refine hl.mono ?_) <;> rfl
      | (with_reducible refine hl.mem ?_) <;> rfl | with_reducible apply endPlan_frame | split

theorem focusDoneU_frame {fs : List Fld} {x₀ b : Block} (t : FocusTarget)
    (hl : Among [.zmap] fs) (h : Changes fs x₀ b) :
    Changes fs x₀ (focusDoneU t b) := by
  unfold focusDoneU
  repeat'
    first
      | with_reducible exact h | (with_reducible refine hl.mono ?_) <;> rfl
      | (with_reducible refine hl.mem ?_) <;> rfl | with_reducible apply recomputeU_frame | split
      | with_reducible refine changes_zmap ?_ ?_

theorem reportDone_frame {fs : List Fld} {x₀ b : Block} (g : Giver) (target : Int) (expiries : Nat)
    (hl : Among [.ple, .zmap, .afu, .due] fs) (h : Changes fs x₀ b) :
    Changes fs x₀ (reportDone g target expiries b) := by
  unfold reportDone
  repeat'
    first
      | with_reducible exact h | (with_reducible refine hl.mono ?_) <;> rfl
      | (with_reducible refine hl.mem ?_) <;> rfl | with_reducible apply zoomReport_frame
      | with_reducible apply focusReport_frame | with_reducible apply focusDoneU_frame
      | with_reducible apply searchMoveDone_frame | split | with_reducible refine changes_afu ?_ ?_

theorem reportFailed_frame {fs : List Fld} {x₀ b : Block} (g : Giver) (o detail : PlanOutcome) (target : Int) (expiries : Nat)
    (hl : Among [.ple, .focus, .zmap, .afu, .cap, .due] fs) (h : Changes fs x₀ b) :
    Changes fs x₀ (reportFailed g o detail target expiries b) := by
  unfold reportFailed
  repeat'
    first
      | with_reducible exact h | (with_reducible refine hl.mono ?_) <;> rfl
      | (with_reducible refine hl.mem ?_) <;> rfl | with_reducible apply zoomReport_frame
      | with_reducible apply focusReport_frame | with_reducible apply searchMoveFailed_frame
      | with_reducible apply cafFailed_frame | with_reducible apply trackFailed_frame | split

theorem moveDone_frame {fs : List Fld} {x₀ b : Block} (ax : Axis)
    (hl : Among [.ntu, .ple, .zoom, .focus, .zmap, .afu, .due] fs) (h : Changes fs x₀ b) :
    Changes fs x₀ (moveDone ax b) := by
  unfold moveDone
  repeat'
    first
      | with_reducible exact h | (with_reducible refine hl.mono ?_) <;> rfl
      | (with_reducible refine hl.mem ?_) <;> rfl | with_reducible apply reportDone_frame
      | with_reducible apply putAxis_frame | with_reducible apply trackTarget_frame | extract_lets c1 c2
      | dsimp only [c1] | dsimp only [c2] | split

theorem failMove_frame {fs : List Fld} {x₀ b : Block} (ax : Axis) (o detail : PlanOutcome)
    (hl : Among [.ntu, .ple, .zoom, .focus, .zmap, .afu, .cap, .due] fs) (h : Changes fs x₀ b) :
    Changes fs x₀ (failMove ax o detail b) := by
  unfold failMove
  repeat'
    first
      | with_reducible exact h | (with_reducible refine hl.mono ?_) <;> rfl
      | (with_reducible refine hl.mem ?_) <;> rfl | with_reducible apply reportFailed_frame
      | with_reducible apply raise_frame | with_reducible apply brake_frame | extract_lets c1 | dsimp only [c1]
      | split

theorem refEnd_frame {fs : List Fld} {x₀ b : Block} (r : RefPlan) (fin : FinalState) (o : PlanOutcome)
    (hl : Among [.ple, .ldu, .due] fs) (h : Changes fs x₀ b) :
    Changes fs x₀ (refEnd r fin o b) := by
  unfold refEnd
  repeat'
    first
      | with_reducible exact h | (with_reducible refine hl.mono ?_) <;> rfl
      | (with_reducible refine hl.mem ?_) <;> rfl | with_reducible apply endPlan_frame
      | with_reducible apply setRef_frame | split

theorem refFail_frame {fs : List Fld} {x₀ b : Block} (o : PlanOutcome)
    (hl : Among [.ntu, .ple, .ldu, .due] fs) (h : Changes fs x₀ b) :
    Changes fs x₀ (refFail o b) := by
  unfold refFail
  repeat'
    first
      | with_reducible exact h | (with_reducible refine hl.mono ?_) <;> rfl
      | (with_reducible refine hl.mem ?_) <;> rfl | with_reducible apply refEnd_frame
      | with_reducible apply raise_frame | split

theorem searchFail_frame {fs : List Fld} {x₀ b : Block} (ax : Axis) (o : PlanOutcome)
    (hl : Among [.ntu, .ple, .zoom, .focus, .ldu, .afu, .due] fs) (h : Changes fs x₀ b) :
    Changes fs x₀ (searchFail ax o b) := by
  unfold searchFail
  repeat'
    first
      | with_reducible exact h | (with_reducible refine hl.mono ?_) <;> rfl
      | (with_reducible refine hl.mem ?_) <;> rfl | with_reducible apply refFail_frame
      | with_reducible apply brake_frame | split

theorem startSearch_frame {fs : List Fld} {x₀ b : Block} (ax : Axis)
    (hl : Among [.ntu, .ple, .zoom, .focus, .ldu, .zmap, .afu, .due] fs) (h : Changes fs x₀ b) :
    Changes fs x₀ (startSearch ax b) := by
  unfold startSearch
  repeat'
    first
      | with_reducible exact h | (with_reducible refine hl.mono ?_) <;> rfl
      | (with_reducible refine hl.mem ?_) <;> rfl | with_reducible apply refFail_frame
      | with_reducible apply referenceChanged_frame | with_reducible apply putAxis_frame | split

theorem searchSucceeded_frame {fs : List Fld} {x₀ b : Block} (ax : Axis)
    (hl : Among [.ple, .iris, .ldu, .due] fs) (h : Changes fs x₀ b) :
    Changes fs x₀ (searchSucceeded ax b) := by
  unfold searchSucceeded
  repeat'
    first
      | with_reducible exact h | (with_reducible refine hl.mono ?_) <;> rfl
      | (with_reducible refine hl.mem ?_) <;> rfl | with_reducible apply setRef_frame
      | with_reducible apply refEnd_frame | split | with_reducible refine changes_iris ?_ ?_

theorem takeEdge_frame {fs : List Fld} {x₀ b : Block} (ax : Axis) (set : RefSet)
    (hl : Among [.zoom, .focus, .ldu, .zmap, .afu] fs) (h : Changes fs x₀ b) :
    Changes fs x₀ (takeEdge ax set b) := by
  unfold takeEdge
  repeat'
    first
      | with_reducible exact h | (with_reducible refine hl.mono ?_) <;> rfl
      | (with_reducible refine hl.mem ?_) <;> rfl | with_reducible apply referenceChanged_frame
      | with_reducible apply clampTarget_frame | with_reducible apply putAxis_frame
      | with_reducible apply setRef_frame | extract_lets c1 c2 | dsimp only [c1] | dsimp only [c2] | split

theorem addTravel_frame {fs : List Fld} {x₀ b : Block} (ax : Axis) (hl : Among [.ldu] fs) (h : Changes fs x₀ b) :
    Changes fs x₀ (addTravel ax b) := by
  unfold addTravel
  repeat'
    first
      | with_reducible exact h | (with_reducible refine hl.mono ?_) <;> rfl
      | (with_reducible refine hl.mem ?_) <;> rfl | with_reducible apply setRef_frame | split

theorem illegalEffect_frame {fs : List Fld} {x₀ b : Block} (ax : Axis)
    (hl : Among [.ntu, .ple, .zoom, .focus, .ldu, .zmap, .afu, .cap, .due] fs) (h : Changes fs x₀ b) :
    Changes fs x₀ (illegalEffect ax b) := by
  unfold illegalEffect
  repeat'
    first
      | with_reducible exact h | (with_reducible refine hl.mono ?_) <;> rfl
      | (with_reducible refine hl.mem ?_) <;> rfl | with_reducible apply failMove_frame
      | with_reducible apply searchFail_frame | with_reducible apply refFail_frame
      | with_reducible apply putAxis_frame | extract_lets c1 | dsimp only [c1] | split

theorem illegal_frame {fs : List Fld} {x₀ b : Block} (ax : Axis)
    (hl : Among [.ntu, .ple, .zoom, .focus, .ldu, .zmap, .afu, .cap, .due] fs) (h : Changes fs x₀ b) :
    Changes fs x₀ (illegal ax b) := by
  unfold illegal
  repeat'
    first
      | with_reducible exact h | (with_reducible refine hl.mono ?_) <;> rfl
      | (with_reducible refine hl.mem ?_) <;> rfl | with_reducible apply referenceChanged_frame
      | with_reducible apply illegalEffect_frame | with_reducible apply raise_frame
      | with_reducible apply setAxis_frame | extract_lets c1 | dsimp only [c1] | split

theorem filterAccept_frame {fs : List Fld} {x₀ b : Block} (ax : Axis) (pa pb ref : Option Bool)
    (hl : Among [.ntu, .ple, .zoom, .focus, .ldu, .zmap, .afu, .cap, .due] fs) (h : Changes fs x₀ b) :
    Changes fs x₀ (filterAccept ax pa pb ref b) := by
  unfold filterAccept
  repeat'
    first
      | with_reducible exact h | (with_reducible refine hl.mono ?_) <;> rfl
      | (with_reducible refine hl.mem ?_) <;> rfl | with_reducible apply setAxis_frame
      | with_reducible apply illegal_frame | with_reducible apply addTravel_frame
      | with_reducible apply takeEdge_frame | extract_lets c1 c2 c3 c4 | dsimp only [c1] | dsimp only [c2]
      | dsimp only [c3] | dsimp only [c4] | split

theorem moveExpiry_frame {fs : List Fld} {x₀ b : Block} (ax : Axis) (first : MoveCheck) (p : AxisBlock) (m : Move)
    (hl : Among [.ntu, .ple, .zoom, .focus, .zmap, .afu, .cap, .due] fs) (h : Changes fs x₀ b) :
    Changes fs x₀ (moveExpiry ax first p m b) := by
  unfold moveExpiry
  repeat'
    first
      | with_reducible exact h | (with_reducible refine hl.mono ?_) <;> rfl
      | (with_reducible refine hl.mem ?_) <;> rfl | with_reducible apply setAxis_frame
      | with_reducible apply markDue_frame | with_reducible apply failMove_frame
      | with_reducible apply putAxis_frame | extract_lets c1 c2 c3 c4 c5 c6 | dsimp only [c1] | dsimp only [c2]
      | dsimp only [c3] | dsimp only [c4] | dsimp only [c5] | dsimp only [c6] | split

theorem searchExpiry_frame {fs : List Fld} {x₀ b : Block} (ax : Axis) (first : MoveCheck) (s : RefSearch)
    (hl : Among [.ntu, .ple, .zoom, .focus, .ldu, .afu, .due] fs) (h : Changes fs x₀ b) :
    Changes fs x₀ (searchExpiry ax first s b) := by
  unfold searchExpiry
  repeat'
    first
      | with_reducible exact h | (with_reducible refine hl.mono ?_) <;> rfl
      | (with_reducible refine hl.mem ?_) <;> rfl | with_reducible apply setAxis_frame
      | with_reducible apply markDue_frame | with_reducible apply searchFail_frame
      | with_reducible apply refFail_frame | extract_lets c1 c2 c3 c4 | dsimp only [c1] | dsimp only [c2]
      | dsimp only [c3] | dsimp only [c4] | split

theorem brakingExpiry_frame {fs : List Fld} {x₀ b : Block} (ax : Axis)
    (hl : Among [.zoom, .focus, .due] fs) (h : Changes fs x₀ b) :
    Changes fs x₀ (brakingExpiry ax b) := by
  unfold brakingExpiry
  repeat'
    first
      | with_reducible exact h | (with_reducible refine hl.mono ?_) <;> rfl
      | (with_reducible refine hl.mem ?_) <;> rfl | with_reducible apply setAxis_frame
      | with_reducible apply markDue_frame | extract_lets c1 c2 | dsimp only [c1] | dsimp only [c2] | split

theorem axisExpiry_frame {fs : List Fld} {x₀ b : Block} (ax : Axis) (first : MoveCheck)
    (hl : Among [.ntu, .ple, .zoom, .focus, .ldu, .zmap, .afu, .cap, .due] fs) (h : Changes fs x₀ b) :
    Changes fs x₀ (axisExpiry ax first b) := by
  unfold axisExpiry
  repeat'
    first
      | with_reducible exact h | (with_reducible refine hl.mono ?_) <;> rfl
      | (with_reducible refine hl.mem ?_) <;> rfl | with_reducible apply moveExpiry_frame
      | with_reducible apply searchExpiry_frame | with_reducible apply brakingExpiry_frame | extract_lets c1
      | dsimp only [c1] | split

theorem controlExpiry_frame {fs : List Fld} {x₀ b : Block} (ax : Axis) (first : MoveCheck)
    (hl : Among [.ntu, .ple, .zoom, .focus, .ldu, .zmap, .afu, .cap, .due] fs) (h : Changes fs x₀ b) :
    Changes fs x₀ (controlExpiry ax first b) := by
  unfold controlExpiry
  repeat'
    first
      | with_reducible exact h | (with_reducible refine hl.mono ?_) <;> rfl
      | (with_reducible refine hl.mem ?_) <;> rfl | with_reducible apply axisExpiry_frame
      | with_reducible apply setAxis_frame | with_reducible apply zoomMoved_frame | extract_lets c1 c2 c3 c4
      | dsimp only [c1] | dsimp only [c2] | dsimp only [c3] | dsimp only [c4] | split

theorem brakingEnd_frame {fs : List Fld} {x₀ b : Block} (ax : Axis)
    (hl : Among [.ple, .zoom, .focus, .iris, .ldu, .afu, .due] fs) (h : Changes fs x₀ b) :
    Changes fs x₀ (brakingEnd ax b) := by
  unfold brakingEnd
  repeat'
    first
      | with_reducible exact h | (with_reducible refine hl.mono ?_) <;> rfl
      | (with_reducible refine hl.mem ?_) <;> rfl | with_reducible apply putAxis_frame
      | with_reducible apply searchSucceeded_frame | extract_lets c1 c2 | dsimp only [c1] | dsimp only [c2] | split

theorem supplyStop_frame {fs : List Fld} {x₀ b : Block} (ax : Axis)
    (hl : Among [.ntu, .ple, .zoom, .focus, .ldu, .zmap, .afu, .cap, .due] fs) (h : Changes fs x₀ b) :
    Changes fs x₀ (supplyStop ax b) := by
  unfold supplyStop
  repeat'
    first
      | with_reducible exact h | (with_reducible refine hl.mono ?_) <;> rfl
      | (with_reducible refine hl.mem ?_) <;> rfl | with_reducible apply searchFail_frame
      | with_reducible apply failMove_frame | split

theorem moveTimeout_frame {fs : List Fld} {x₀ b : Block} (ax : Axis)
    (hl : Among [.ntu, .ple, .zoom, .focus, .zmap, .afu, .cap, .due] fs) (h : Changes fs x₀ b) :
    Changes fs x₀ (moveTimeout ax b) := by
  unfold moveTimeout
  repeat'
    first
      | with_reducible exact h | (with_reducible refine hl.mono ?_) <;> rfl
      | (with_reducible refine hl.mem ?_) <;> rfl | with_reducible apply failMove_frame | split

theorem pwmStart_frame {fs : List Fld} {x₀ b : Block} (ax : Axis)
    (hl : Among [.zoom, .focus] fs) (h : Changes fs x₀ b) :
    Changes fs x₀ (pwmStart ax b) := by
  unfold pwmStart
  repeat'
    first
      | with_reducible exact h | (with_reducible refine hl.mono ?_) <;> rfl
      | (with_reducible refine hl.mem ?_) <;> rfl | with_reducible apply setAxis_frame | split

theorem irisStep_frame {fs : List Fld} {x₀ b : Block}
    (hl : Among [.ntu, .ple, .zoom, .focus, .iris, .ldu, .zmap, .afu, .due] fs) (h : Changes fs x₀ b) :
    Changes fs x₀ (irisStep b) := by
  unfold irisStep
  repeat'
    first
      | with_reducible exact h | (with_reducible refine hl.mono ?_) <;> rfl
      | (with_reducible refine hl.mem ?_) <;> rfl | with_reducible apply startSearch_frame
      | with_reducible apply setRef_frame | split | with_reducible refine changes_iris ?_ ?_

theorem zoomHandOver_frame {fs : List Fld} {x₀ b : Block} (target : Int) (tracking : Bool)
    (hl : Among [.ntu, .ple, .zoom, .focus, .zmap, .afu, .due] fs) (h : Changes fs x₀ b) :
    Changes fs x₀ (zoomHandOver target tracking b) := by
  unfold zoomHandOver
  repeat'
    first
      | with_reducible exact h | (with_reducible refine hl.mono ?_) <;> rfl
      | (with_reducible refine hl.mem ?_) <;> rfl | with_reducible apply retrack_frame
      | with_reducible apply startMove_zoom_frame | with_reducible apply zoomReport_frame | extract_lets c1 c2
      | dsimp only [c1] | dsimp only [c2] | split | with_reducible refine changes_zmap ?_ ?_

theorem focusHandOver_frame {fs : List Fld} {x₀ b : Block} (t : FocusTarget)
    (hl : Among [.ntu, .ple, .focus, .afu, .due] fs) (h : Changes fs x₀ b) :
    Changes fs x₀ (focusHandOver t b) := by
  unfold focusHandOver
  repeat'
    first
      | with_reducible exact h | (with_reducible refine hl.mono ?_) <;> rfl
      | (with_reducible refine hl.mem ?_) <;> rfl | with_reducible apply startMove_focus_frame
      | with_reducible apply focusReport_frame | with_reducible apply stopTracking_frame | extract_lets c1 c2
      | dsimp only [c1] | dsimp only [c2] | split

theorem referenceHandOver_frame {fs : List Fld} {x₀ b : Block} (p : RefParams)
    (hl : Among [.ntu, .ple, .zoom, .focus, .ldu, .zmap, .afu, .due] fs) (h : Changes fs x₀ b) :
    Changes fs x₀ (referenceHandOver p b) := by
  unfold referenceHandOver
  repeat'
    first
      | with_reducible exact h | (with_reducible refine hl.mono ?_) <;> rfl
      | (with_reducible refine hl.mem ?_) <;> rfl | with_reducible apply startSearch_frame
      | with_reducible apply setRef_frame | split

theorem abortMove_frame {fs : List Fld} {x₀ b : Block} (ax : Axis)
    (hl : Among [.zoom, .focus, .afu] fs) (h : Changes fs x₀ b) :
    Changes fs x₀ (abortMove ax b) := by
  unfold abortMove
  repeat'
    first
      | with_reducible exact h | (with_reducible refine hl.mono ?_) <;> rfl
      | (with_reducible refine hl.mem ?_) <;> rfl | with_reducible apply brake_frame | split

theorem zoomAbort_frame {fs : List Fld} {x₀ b : Block}
    (hl : Among [.ple, .zoom, .focus, .afu, .due] fs) (h : Changes fs x₀ b) :
    Changes fs x₀ (zoomAbort b) := by
  unfold zoomAbort
  repeat'
    first
      | with_reducible exact h | (with_reducible refine hl.mono ?_) <;> rfl
      | (with_reducible refine hl.mem ?_) <;> rfl | with_reducible apply zoomReport_frame
      | with_reducible apply abortMove_frame | split

theorem focusAbort_frame {fs : List Fld} {x₀ b : Block}
    (hl : Among [.ple, .zoom, .focus, .afu, .due] fs) (h : Changes fs x₀ b) :
    Changes fs x₀ (focusAbort b) := by
  unfold focusAbort
  repeat'
    first
      | with_reducible exact h | (with_reducible refine hl.mono ?_) <;> rfl
      | (with_reducible refine hl.mem ?_) <;> rfl | with_reducible apply focusReport_frame
      | with_reducible apply abortMove_frame | split

theorem abortSearch_frame {fs : List Fld} {x₀ b : Block} (ax : Axis)
    (hl : Among [.zoom, .focus, .afu] fs) (h : Changes fs x₀ b) :
    Changes fs x₀ (abortSearch ax b) := by
  unfold abortSearch
  repeat'
    first
      | with_reducible exact h | (with_reducible refine hl.mono ?_) <;> rfl
      | (with_reducible refine hl.mem ?_) <;> rfl | with_reducible apply brake_frame | split

theorem referenceAbort_frame {fs : List Fld} {x₀ b : Block}
    (hl : Among [.ple, .zoom, .focus, .iris, .ldu, .afu, .due] fs) (h : Changes fs x₀ b) :
    Changes fs x₀ (referenceAbort b) := by
  unfold referenceAbort
  repeat'
    first
      | with_reducible exact h | (with_reducible refine hl.mono ?_) <;> rfl
      | (with_reducible refine hl.mem ?_) <;> rfl | with_reducible apply abortSearch_frame
      | with_reducible apply refEnd_frame | extract_lets c1 c2 | dsimp only [c1] | dsimp only [c2] | split
      | with_reducible refine changes_iris ?_ ?_

/-! ### Pipeline.lean -/

theorem addWindow_frame {fs : List Fld} {x₀ b : Block} (k : Word) (hl : Among [.sbu] fs) (h : Changes fs x₀ b) :
    Changes fs x₀ (addWindow k b) := by
  unfold addWindow
  repeat'
    first
      | with_reducible exact h | (with_reducible refine hl.mono ?_) <;> rfl
      | (with_reducible refine hl.mem ?_) <;> rfl | extract_lets c1 c2 | dsimp only [c1] | dsimp only [c2] | split
      | with_reducible refine changes_sbu ?_ ?_

theorem addNote_frame {fs : List Fld} {x₀ b : Block} (k : Word) (hl : Among [.fsu] fs) (h : Changes fs x₀ b) :
    Changes fs x₀ (addNote k b) := by
  unfold addNote
  repeat'
    first
      | with_reducible exact h | (with_reducible refine hl.mono ?_) <;> rfl
      | (with_reducible refine hl.mem ?_) <;> rfl | extract_lets c1 c2 | dsimp only [c1] | dsimp only [c2] | split
      | with_reducible refine changes_focus ?_ ?_ | with_reducible refine changes_fsu ?_ ?_

theorem windowOpen_frame {fs : List Fld} {x₀ b : Block} (k : Word)
    (hl : Among [.afu, .sbu, .fsu] fs) (h : Changes fs x₀ b) :
    Changes fs x₀ (windowOpen k b) := by
  unfold windowOpen
  repeat'
    first
      | with_reducible exact h | (with_reducible refine hl.mono ?_) <;> rfl
      | (with_reducible refine hl.mem ?_) <;> rfl | with_reducible apply addNote_frame
      | with_reducible apply addWindow_frame | with_reducible apply addCandidate_frame | split

theorem raiseWindowOpen_frame {fs : List Fld} {x₀ b : Block} (f : FrameProg)
    (hl : Among [.ftu, .afu, .sbu, .fsu] fs) (h : Changes fs x₀ b) :
    Changes fs x₀ (raiseWindowOpen f b) := by
  unfold raiseWindowOpen
  repeat'
    first
      | with_reducible exact h | (with_reducible refine hl.mono ?_) <;> rfl
      | (with_reducible refine hl.mem ?_) <;> rfl | with_reducible apply windowOpen_frame
      | with_reducible apply setFtu_frame | split

theorem lateWindowOpen_frame {fs : List Fld} {x₀ b : Block}
    (hl : Among [.ftu, .afu, .sbu, .fsu] fs) (h : Changes fs x₀ b) :
    Changes fs x₀ (lateWindowOpen b) := by
  unfold lateWindowOpen
  repeat'
    first
      | with_reducible exact h | (with_reducible refine hl.mono ?_) <;> rfl
      | (with_reducible refine hl.mem ?_) <;> rfl | with_reducible apply raiseWindowOpen_frame | split

theorem startSend_frame {fs : List Fld} {x₀ b : Block} (hl : Among [.ftu] fs) (h : Changes fs x₀ b) :
    Changes fs x₀ (startSend b) := by
  unfold startSend
  repeat'
    first
      | with_reducible exact h | (with_reducible refine hl.mono ?_) <;> rfl
      | (with_reducible refine hl.mem ?_) <;> rfl | with_reducible apply setFtu_frame | split

theorem acknowledge_frame {fs : List Fld} {x₀ b : Block} (hl : Among [.ftu] fs) (h : Changes fs x₀ b) :
    Changes fs x₀ (acknowledge b) := by
  unfold acknowledge
  repeat'
    first
      | with_reducible exact h | (with_reducible refine hl.mono ?_) <;> rfl
      | (with_reducible refine hl.mem ?_) <;> rfl | with_reducible apply setFtu_frame
      | with_reducible apply startSend_frame | extract_lets c1 | dsimp only [c1] | split

theorem joinEntry_frame {fs : List Fld} {x₀ b : Block} (f : StreamParams) (d : DueEntry)
    (hl : Among [.ftu] fs) (h : Changes fs x₀ b) :
    Changes fs x₀ (joinEntry f d b) := by
  unfold joinEntry
  repeat'
    first
      | with_reducible exact h | (with_reducible refine hl.mono ?_) <;> rfl
      | (with_reducible refine hl.mem ?_) <;> rfl | with_reducible apply setFtu_frame
      | with_reducible apply startSend_frame | extract_lets c1 | dsimp only [c1] | split

theorem callEntry_frame {fs : List Fld} {x₀ b : Block} (d : DueEntry) (hl : Among [.ftu] fs) (h : Changes fs x₀ b) :
    Changes fs x₀ (callEntry d b) := by
  unfold callEntry
  repeat'
    first
      | with_reducible exact h | (with_reducible refine hl.mono ?_) <;> rfl
      | (with_reducible refine hl.mem ?_) <;> rfl | with_reducible apply joinEntry_frame
      | with_reducible apply setFtu_frame | split

theorem makeDueEntry_frame {fs : List Fld} {x₀ b : Block}
    (hl : Among [.ftu, .afu, .sbu, .fsu] fs) (h : Changes fs x₀ b) :
    Changes fs x₀ (makeDueEntry b) := by
  unfold makeDueEntry
  repeat'
    first
      | with_reducible exact h | (with_reducible refine hl.mono ?_) <;> rfl
      | (with_reducible refine hl.mem ?_) <;> rfl | with_reducible apply setFtu_frame
      | with_reducible apply lateWindowOpen_frame | with_reducible apply joinEntry_frame | extract_lets c1
      | dsimp only [c1] | split

theorem retire_frame {fs : List Fld} {x₀ b : Block} (hl : Among [.ftu, .due] fs) (h : Changes fs x₀ b) :
    Changes fs x₀ (retire b) := by
  unfold retire
  repeat'
    first
      | with_reducible exact h | (with_reducible refine hl.mono ?_) <;> rfl
      | (with_reducible refine hl.mem ?_) <;> rfl | with_reducible apply setFtu_frame
      | with_reducible apply markDue_frame | extract_lets c1 | dsimp only [c1] | split

theorem recordRelease_frame {fs : List Fld} {x₀ b : Block} (k : Word)
    (hl : Among [.ftu, .due] fs) (h : Changes fs x₀ b) :
    Changes fs x₀ (recordRelease k b) := by
  unfold recordRelease
  repeat'
    first
      | with_reducible exact h | (with_reducible refine hl.mono ?_) <;> rfl
      | (with_reducible refine hl.mem ?_) <;> rfl | with_reducible apply retire_frame
      | with_reducible apply setFtu_frame | split

theorem meterRelease_frame {fs : List Fld} {x₀ b : Block} (k : Word)
    (hl : Among [.ftu, .due] fs) (h : Changes fs x₀ b) :
    Changes fs x₀ (meterRelease k b) := by
  unfold meterRelease
  repeat'
    first
      | with_reducible exact h | (with_reducible refine hl.mono ?_) <;> rfl
      | (with_reducible refine hl.mem ?_) <;> rfl | with_reducible apply retire_frame
      | with_reducible apply setFtu_frame | split

theorem emptyPipeline_frame {fs : List Fld} {x₀ b : Block} (hl : Among [.ftu, .due] fs) (h : Changes fs x₀ b) :
    Changes fs x₀ (emptyPipeline b) := by
  unfold emptyPipeline
  repeat'
    first
      | with_reducible exact h | (with_reducible refine hl.mono ?_) <;> rfl
      | (with_reducible refine hl.mem ?_) <;> rfl | with_reducible apply dropDue_frame
      | with_reducible apply setFtu_frame | split

theorem rekeyLate_frame {fs : List Fld} {x₀ b : Block} (k : Word) (hl : Among [.ftu] fs) (h : Changes fs x₀ b) :
    Changes fs x₀ (rekeyLate k b) := by
  unfold rekeyLate
  repeat'
    first
      | with_reducible exact h | (with_reducible refine hl.mono ?_) <;> rfl
      | (with_reducible refine hl.mem ?_) <;> rfl | with_reducible apply setFtu_frame
      | with_reducible apply callEntry_frame | extract_lets c1 c2 c3 | dsimp only [c1] | dsimp only [c2]
      | dsimp only [c3] | split

theorem pipelineWork_frame {fs : List Fld} {x₀ b : Block} (k : Word)
    (hl : Among [.ftu, .iris, .due] fs) (h : Changes fs x₀ b) :
    Changes fs x₀ (pipelineWork k b) := by
  unfold pipelineWork
  repeat'
    first
      | with_reducible exact h | (with_reducible refine hl.mono ?_) <;> rfl
      | (with_reducible refine hl.mem ?_) <;> rfl | with_reducible apply dropDue_frame
      | with_reducible apply setFtu_frame | with_reducible apply rekeyLate_frame
      | with_reducible apply callEntry_frame | with_reducible apply irisRequest_frame | extract_lets c1 c2 c3 c4 c5
      | dsimp only [c1] | dsimp only [c2] | dsimp only [c3] | dsimp only [c4] | dsimp only [c5] | split

/-! ### Capture.lean -/

theorem capFinish_frame {fs : List Fld} {x₀ b : Block}
    (hl : Among [.ntu, .ple, .exu, .focus, .zmap, .afu, .cap, .due] fs) (h : Changes fs x₀ b) :
    Changes fs x₀ (capFinish b) := by
  unfold capFinish
  repeat'
    first
      | with_reducible exact h | (with_reducible refine hl.mono ?_) <;> rfl
      | (with_reducible refine hl.mem ?_) <;> rfl | with_reducible apply cafStop_frame
      | with_reducible apply recomputeU_frame | with_reducible apply setCap_frame
      | with_reducible apply endPlan_frame | with_reducible apply setCond_frame | extract_lets c1 c2 c3 c4 c5 c6 c7
      | dsimp only [c1] | dsimp only [c2] | dsimp only [c3] | dsimp only [c4] | dsimp only [c5] | dsimp only [c6]
      | dsimp only [c7] | split | with_reducible refine changes_exu ?_ ?_

theorem withdrawRequest_frame {fs : List Fld} {x₀ b : Block}
    (hl : Among [.fsu] fs) (h : Changes fs x₀ b) :
    Changes fs x₀ (withdrawRequest b) := by
  unfold withdrawRequest
  repeat'
    first
      | with_reducible exact h | (with_reducible refine hl.mono ?_) <;> rfl
      | (with_reducible refine hl.mem ?_) <;> rfl | with_reducible apply setFsu_frame | split

theorem capDrain_frame {fs : List Fld} {x₀ b : Block} (cause : PlanOutcome)
    (hl : Among [.ntu, .ple, .exu, .focus, .zmap, .afu, .cap, .fsu, .due] fs) (h : Changes fs x₀ b) :
    Changes fs x₀ (capDrain cause b) := by
  unfold capDrain
  repeat'
    first
      | with_reducible exact h | (with_reducible refine hl.mono ?_) <;> rfl
      | (with_reducible refine hl.mem ?_) <;> rfl | with_reducible apply setCap_frame
      | with_reducible apply capFinish_frame | with_reducible apply withdrawRequest_frame | extract_lets c1
      | dsimp only [c1] | split

theorem capStreamEnd_frame {fs : List Fld} {x₀ b : Block}
    (hl : Among [.ntu, .ple, .exu, .focus, .zmap, .afu, .cap, .fsu, .due] fs) (h : Changes fs x₀ b) :
    Changes fs x₀ (capStreamEnd b) := by
  unfold capStreamEnd
  repeat'
    first
      | with_reducible exact h | (with_reducible refine hl.mono ?_) <;> rfl
      | (with_reducible refine hl.mem ?_) <;> rfl | with_reducible apply capDrain_frame | split

theorem capAbort_frame {fs : List Fld} {x₀ b : Block}
    (hl : Among [.ntu, .ple, .exu, .focus, .zmap, .afu, .cap, .fsu, .due] fs) (h : Changes fs x₀ b) :
    Changes fs x₀ (capAbort b) := by
  unfold capAbort
  repeat'
    first
      | with_reducible exact h | (with_reducible refine hl.mono ?_) <;> rfl
      | (with_reducible refine hl.mem ?_) <;> rfl | with_reducible apply setCap_frame
      | with_reducible apply capFinish_frame | with_reducible apply withdrawRequest_frame | extract_lets c1
      | dsimp only [c1] | split

theorem capPublished_frame {fs : List Fld} {x₀ b : Block} (k : Word) (bus : Bool)
    (hl : Among [.ntu, .ple, .exu, .focus, .zmap, .afu, .cap, .fsu, .due] fs) (h : Changes fs x₀ b) :
    Changes fs x₀ (capPublished k bus b) := by
  unfold capPublished
  repeat'
    first
      | with_reducible exact h | (with_reducible refine hl.mono ?_) <;> rfl
      | (with_reducible refine hl.mem ?_) <;> rfl | with_reducible apply setCap_frame
      | with_reducible apply capDrain_frame | with_reducible apply capFinish_frame | extract_lets c1
      | dsimp only [c1] | split

theorem pruneNotes_frame {fs : List Fld} {x₀ b : Block} (k : Word) (hl : Among [.fsu] fs) (h : Changes fs x₀ b) :
    Changes fs x₀ (pruneNotes k b) := by
  unfold pruneNotes
  repeat'
    first
      | with_reducible exact h | (with_reducible refine hl.mono ?_) <;> rfl
      | (with_reducible refine hl.mem ?_) <;> rfl | with_reducible apply setFsu_frame | split

theorem dropPassedNotes_frame {fs : List Fld} {x₀ b : Block} (k : Word) (hl : Among [.fsu] fs) (h : Changes fs x₀ b) :
    Changes fs x₀ (dropPassedNotes k b) := by
  unfold dropPassedNotes
  split
  · exact h
  · exact pruneNotes_frame k hl h

theorem skipOther_frame {fs : List Fld} {x₀ b : Block} (hl : Among [.cap] fs) (h : Changes fs x₀ b) :
    Changes fs x₀ (skipOther b) := by
  unfold skipOther
  repeat'
    first
      | with_reducible exact h | (with_reducible refine hl.mono ?_) <;> rfl
      | (with_reducible refine hl.mem ?_) <;> rfl | with_reducible apply setCap_frame | split

theorem candidate_frame {fs : List Fld} {x₀ b : Block} (k : Word) (periodJump : Bool)
    (hl : Among [.cap, .fsu] fs) (h : Changes fs x₀ b) :
    Changes fs x₀ (candidate k periodJump b) := by
  unfold candidate
  repeat'
    first
      | with_reducible exact h | (with_reducible refine hl.mono ?_) <;> rfl
      | (with_reducible refine hl.mem ?_) <;> rfl | with_reducible apply dropPassedNotes_frame
      | with_reducible apply skipOther_frame | with_reducible apply setFsu_frame | extract_lets c1 | dsimp only [c1]
      | split

theorem capBegin_frame {fs : List Fld} {x₀ b : Block} (k : Word) (periodJump : Bool) (kind : StartKind)
    (hl : Among [.cap, .fsu] fs) (h : Changes fs x₀ b) :
    Changes fs x₀ (capBegin k periodJump kind b) := by
  unfold capBegin
  repeat'
    first
      | with_reducible exact h | (with_reducible refine hl.mono ?_) <;> rfl
      | (with_reducible refine hl.mem ?_) <;> rfl | with_reducible apply candidate_frame
      | with_reducible apply setCap_frame | split

theorem capFrameStart_frame {fs : List Fld} {x₀ b : Block} (k : Word) (periodJump : Bool)
    (hl : Among [.cap, .fsu, .due] fs) (h : Changes fs x₀ b) :
    Changes fs x₀ (capFrameStart k periodJump b) := by
  unfold capFrameStart
  repeat'
    first
      | with_reducible exact h | (with_reducible refine hl.mono ?_) <;> rfl
      | (with_reducible refine hl.mem ?_) <;> rfl | with_reducible apply dropPassedNotes_frame
      | with_reducible apply capBegin_frame | with_reducible apply setCap_frame | with_reducible apply markDue_frame
      | with_reducible apply candidate_frame | extract_lets c1 | dsimp only [c1] | split

theorem capMaxWait_frame {fs : List Fld} {x₀ b : Block} (hl : Among [.cap, .fsu] fs) (h : Changes fs x₀ b) :
    Changes fs x₀ (capMaxWait b) := by
  unfold capMaxWait
  repeat'
    first
      | with_reducible exact h | (with_reducible refine hl.mono ?_) <;> rfl
      | (with_reducible refine hl.mem ?_) <;> rfl | with_reducible apply capBegin_frame | extract_lets c1
      | dsimp only [c1] | split

theorem captureHandOver_frame {fs : List Fld} {x₀ b : Block} (tag : Word) (p : CapParams) (pool : Pool)
    (hl : Among [.exu, .afu, .cap, .fsu] fs) (h : Changes fs x₀ b) :
    Changes fs x₀ (captureHandOver tag p pool b) := by
  unfold captureHandOver
  repeat'
    first
      | with_reducible exact h | (with_reducible refine hl.mono ?_) <;> rfl
      | (with_reducible refine hl.mem ?_) <;> rfl | with_reducible apply setCap_frame
      | with_reducible apply setFsu_frame | with_reducible apply cafStart_frame | extract_lets c1 c2 c3
      | dsimp only [c1] | dsimp only [c2] | dsimp only [c3] | split | with_reducible refine changes_exu ?_ ?_

/-! ### Store.lean -/

theorem queuePWrite_frame {fs : List Fld} {x₀ b : Block} (pub : Option Publication)
    (hl : Among [.fsu] fs) (h : Changes fs x₀ b) :
    Changes fs x₀ (queuePWrite pub b) := by
  unfold queuePWrite
  repeat'
    first
      | with_reducible exact h | (with_reducible refine hl.mono ?_) <;> rfl
      | (with_reducible refine hl.mem ?_) <;> rfl | with_reducible apply setFsu_frame | extract_lets c1
      | dsimp only [c1] | split

theorem releasePWrites_frame {fs : List Fld} {x₀ b : Block} (hl : Among [.fsu] fs) (h : Changes fs x₀ b) :
    Changes fs x₀ (releasePWrites b) := by
  unfold releasePWrites
  repeat'
    first
      | with_reducible exact h | (with_reducible refine hl.mono ?_) <;> rfl
      | (with_reducible refine hl.mem ?_) <;> rfl | with_reducible apply setFsu_frame | split

theorem firstQ_frame {fs : List Fld} {x₀ b : Block} (q : Word) (hl : Among [.fsu] fs) (h : Changes fs x₀ b) :
    Changes fs x₀ (firstQ q b) := by
  unfold firstQ
  repeat'
    first
      | with_reducible exact h | (with_reducible refine hl.mono ?_) <;> rfl
      | (with_reducible refine hl.mem ?_) <;> rfl | with_reducible apply queuePWrite_frame
      | with_reducible apply setFsu_frame | split

theorem lineWritten_frame {fs : List Fld} {x₀ b : Block} (f : StoreFrame) (l : LineBuf) (rest : List LineBuf)
    (hl : Among [.fsu] fs) (h : Changes fs x₀ b) :
    Changes fs x₀ (lineWritten f l rest b) := by
  unfold lineWritten
  repeat'
    first
      | with_reducible exact h | (with_reducible refine hl.mono ?_) <;> rfl
      | (with_reducible refine hl.mem ?_) <;> rfl | with_reducible apply setFsu_frame | split

theorem tryPublish_frame {fs : List Fld} {x₀ b : Block} (hl : Among [.fsu] fs) (h : Changes fs x₀ b) :
    Changes fs x₀ (tryPublish b) := by
  unfold tryPublish
  repeat'
    first
      | with_reducible exact h | (with_reducible refine hl.mono ?_) <;> rfl
      | (with_reducible refine hl.mem ?_) <;> rfl | with_reducible apply setFsu_frame | split

theorem checkAnswered_frame {fs : List Fld} {x₀ b : Block} (hl : Among [.fsu] fs) (h : Changes fs x₀ b) :
    Changes fs x₀ (checkAnswered b) := by
  unfold checkAnswered
  repeat'
    first
      | with_reducible exact h | (with_reducible refine hl.mono ?_) <;> rfl
      | (with_reducible refine hl.mem ?_) <;> rfl | with_reducible apply setFsu_frame | split

theorem issueBurst_frame {fs : List Fld} {x₀ b c : Block} (hl : Among [.regs, .ntu, .fsu] fs) (h : Changes fs x₀ b)
    (hc : issueBurst b = some c) : Changes fs x₀ c := by
  unfold issueBurst at hc
  split at hc
  · split at hc
    · exact absurd hc (by simp)
    · split at hc
      · exact absurd hc (by simp)
      · extract_lets acc failed f' l' b1 b2 at hc
        have h1 : Changes fs x₀ b1 := setFsu_frame _ (hl.mono rfl) h
        have h2 : Changes fs x₀ b2 := by
          unfold b2
          split
          · exact memoryFault_frame _ _ (hl.mono rfl) h1
          · exact h1
        cases hc
        split
        · exact h2
        · exact lineWritten_frame _ _ _ (hl.mono rfl) h2
  · exact absurd hc (by simp)

theorem issueBursts_frame {fs : List Fld} {x₀ b : Block} (n : Nat) (hl : Among [.regs, .ntu, .fsu] fs)
    (h : Changes fs x₀ b) : Changes fs x₀ (issueBursts n b) := by
  induction n generalizing b with
  | zero => exact h
  | succ n ih =>
    unfold issueBursts
    split
    · exact h
    · rename_i c hc
      exact ih (issueBurst_frame hl h hc)

theorem pump_frame {fs : List Fld} {x₀ b : Block} (hl : Among [.regs, .ntu, .fsu] fs) (h : Changes fs x₀ b) :
    Changes fs x₀ (pump b) := by
  unfold pump
  repeat'
    first
      | with_reducible exact h | (with_reducible refine hl.mono ?_) <;> rfl
      | (with_reducible refine hl.mem ?_) <;> rfl | with_reducible apply tryPublish_frame
      | with_reducible apply checkAnswered_frame | with_reducible apply issueBursts_frame | split

theorem storeLineBegin_frame {fs : List Fld} {x₀ b : Block} (k : Word) (width : Nat) (px : List Pixel)
    (hl : Among [.fsu] fs) (h : Changes fs x₀ b) :
    Changes fs x₀ (storeLineBegin k width px b) := by
  unfold storeLineBegin
  repeat'
    first
      | with_reducible exact h | (with_reducible refine hl.mono ?_) <;> rfl
      | (with_reducible refine hl.mem ?_) <;> rfl | with_reducible apply setFsu_frame | split

theorem storeLineEnd_frame {fs : List Fld} {x₀ b : Block} (hl : Among [.regs, .ntu, .fsu] fs) (h : Changes fs x₀ b) :
    Changes fs x₀ (storeLineEnd b) := by
  unfold storeLineEnd
  repeat'
    first
      | with_reducible exact h | (with_reducible refine hl.mono ?_) <;> rfl
      | (with_reducible refine hl.mem ?_) <;> rfl | with_reducible apply pump_frame
      | with_reducible apply setFsu_frame | extract_lets c1 | dsimp only [c1] | split

theorem storeFrameEnd_frame {fs : List Fld} {x₀ b : Block} (k : Word) (cut : Bool) (state : SbuState) (peak : Nat)
    (hl : Among [.regs, .ntu, .ftu, .fsu, .due] fs) (h : Changes fs x₀ b) :
    Changes fs x₀ (storeFrameEnd k cut state peak b) := by
  unfold storeFrameEnd
  repeat'
    first
      | with_reducible exact h | (with_reducible refine hl.mono ?_) <;> rfl
      | (with_reducible refine hl.mem ?_) <;> rfl | with_reducible apply pump_frame
      | with_reducible apply setFsu_frame | with_reducible apply recordRelease_frame | split

theorem storeStats_frame {fs : List Fld} {x₀ b : Block} (hl : Among [.fsu] fs) (h : Changes fs x₀ b) :
    Changes fs x₀ (storeStats b) := by
  unfold storeStats
  repeat'
    first
      | with_reducible exact h | (with_reducible refine hl.mono ?_) <;> rfl
      | (with_reducible refine hl.mem ?_) <;> rfl | with_reducible apply setFsu_frame
      | with_reducible apply tryPublish_frame | extract_lets c1 | dsimp only [c1] | split

theorem storeMetered_frame {fs : List Fld} {x₀ b : Block} (k : Word) (m : Nat) (e : Int)
    (hl : Among [.fsu] fs) (h : Changes fs x₀ b) :
    Changes fs x₀ (storeMetered k m e b) := by
  unfold storeMetered
  repeat'
    first
      | with_reducible exact h | (with_reducible refine hl.mono ?_) <;> rfl
      | (with_reducible refine hl.mem ?_) <;> rfl | with_reducible apply tryPublish_frame
      | with_reducible apply setFsu_frame | split

theorem takeQ_frame {fs : List Fld} {x₀ b : Block} (q : Word)
    (hl : Among [.regs, .ntu, .fsu] fs) (h : Changes fs x₀ b) :
    Changes fs x₀ (takeQ q b) := by
  unfold takeQ
  repeat'
    first
      | with_reducible exact h | (with_reducible refine hl.mono ?_) <;> rfl
      | (with_reducible refine hl.mem ?_) <;> rfl | with_reducible apply setFsu_frame
      | with_reducible apply latchFault_frame | with_reducible apply raise_frame | extract_lets c1 c2
      | dsimp only [c1] | dsimp only [c2] | split

theorem giveSlot_frame {fs : List Fld} {x₀ b : Block} (f : StoreFrame) (pool : Pool)
    (hl : Among [.regs, .ntu, .ple, .ftu, .exu, .focus, .zmap, .afu, .cap, .fsu, .due] fs) (h : Changes fs x₀ b) :
    Changes fs x₀ (giveSlot f pool b) := by
  unfold giveSlot
  repeat'
    first
      | with_reducible exact h | (with_reducible refine hl.mono ?_) <;> rfl
      | (with_reducible refine hl.mem ?_) <;> rfl | with_reducible apply setFsu_frame
      | with_reducible apply setCap_frame | with_reducible apply pump_frame | with_reducible apply pruneNotes_frame
      | with_reducible apply setCond_frame | with_reducible apply capDrain_frame | extract_lets c1 c2 c3 c4
      | dsimp only [c1] | dsimp only [c2] | dsimp only [c3] | dsimp only [c4] | split

theorem noSlot_frame {fs : List Fld} {x₀ b : Block} (f : StoreFrame)
    (hl : Among [.ntu, .ple, .ftu, .exu, .focus, .zmap, .afu, .cap, .fsu, .due] fs) (h : Changes fs x₀ b) :
    Changes fs x₀ (noSlot f b) := by
  unfold noSlot
  repeat'
    first
      | with_reducible exact h | (with_reducible refine hl.mono ?_) <;> rfl
      | (with_reducible refine hl.mem ?_) <;> rfl | with_reducible apply pruneNotes_frame
      | with_reducible apply withdrawRequest_frame | with_reducible apply capDrain_frame
      | with_reducible apply setCond_frame | with_reducible apply setCap_frame | extract_lets c1 | dsimp only [c1]
      | split

theorem decideSlot_frame {fs : List Fld} {x₀ b : Block} (k : Word)
    (hl : Among [.regs, .ntu, .ple, .ftu, .exu, .focus, .zmap, .afu, .cap, .fsu, .due] fs) (h : Changes fs x₀ b) :
    Changes fs x₀ (decideSlot k b) := by
  unfold decideSlot
  repeat'
    first
      | with_reducible exact h | (with_reducible refine hl.mono ?_) <;> rfl
      | (with_reducible refine hl.mem ?_) <;> rfl | with_reducible apply giveSlot_frame
      | with_reducible apply noSlot_frame | split

theorem qResponse_frame {fs : List Fld} {x₀ b : Block} (r : ReadResp)
    (hl : Among [.regs, .ntu, .ple, .ftu, .exu, .focus, .zmap, .afu, .cap, .fsu, .due] fs) (h : Changes fs x₀ b) :
    Changes fs x₀ (qResponse r b) := by
  unfold qResponse
  repeat'
    first
      | with_reducible exact h | (with_reducible refine hl.mono ?_) <;> rfl
      | (with_reducible refine hl.mem ?_) <;> rfl | with_reducible apply setFsu_frame
      | with_reducible apply memoryFault_frame | with_reducible apply takeQ_frame
      | with_reducible apply decideSlot_frame | extract_lets c1 c2 | dsimp only [c1] | dsimp only [c2] | split

theorem burstResponse_frame {fs : List Fld} {x₀ b : Block} (i : Nat) (err : Bool)
    (hl : Among [.regs, .ntu, .fsu] fs) (h : Changes fs x₀ b) :
    Changes fs x₀ (burstResponse i err b) := by
  unfold burstResponse
  repeat'
    first
      | with_reducible exact h | (with_reducible refine hl.mono ?_) <;> rfl
      | (with_reducible refine hl.mem ?_) <;> rfl | with_reducible apply setFsu_frame
      | with_reducible apply memoryFault_frame | with_reducible apply pump_frame | extract_lets c1 c2
      | dsimp only [c1] | dsimp only [c2] | split

theorem recordResponse_frame {fs : List Fld} {x₀ b : Block} (err : Bool)
    (hl : Among [.regs, .ntu, .fsu] fs) (h : Changes fs x₀ b) :
    Changes fs x₀ (recordResponse err b) := by
  unfold recordResponse
  repeat'
    first
      | with_reducible exact h | (with_reducible refine hl.mono ?_) <;> rfl
      | (with_reducible refine hl.mem ?_) <;> rfl | with_reducible apply memoryFault?_frame
      | with_reducible apply queuePWrite_frame | with_reducible apply setFsu_frame | extract_lets c1 c2
      | dsimp only [c1] | dsimp only [c2] | split

theorem finishPublication_frame {fs : List Fld} {x₀ b : Block} (p : Publication)
    (hl : Among [.ntu, .ple, .ftu, .exu, .focus, .zmap, .afu, .cap, .fsu, .due] fs) (h : Changes fs x₀ b) :
    Changes fs x₀ (finishPublication p b) := by
  unfold finishPublication
  repeat'
    first
      | with_reducible exact h | (with_reducible refine hl.mono ?_) <;> rfl
      | (with_reducible refine hl.mem ?_) <;> rfl | with_reducible apply capPublished_frame
      | with_reducible apply recordRelease_frame | with_reducible apply raise_frame | split

theorem pResponse_frame {fs : List Fld} {x₀ b : Block} (err : Bool)
    (hl : Among [.regs, .ntu, .ple, .ftu, .exu, .focus, .zmap, .afu, .cap, .fsu, .due] fs) (h : Changes fs x₀ b) :
    Changes fs x₀ (pResponse err b) := by
  unfold pResponse
  repeat'
    first
      | with_reducible exact h | (with_reducible refine hl.mono ?_) <;> rfl
      | (with_reducible refine hl.mem ?_) <;> rfl | with_reducible apply memoryFault?_frame
      | with_reducible apply setFsu_frame | with_reducible apply finishPublication_frame | extract_lets c1
      | dsimp only [c1] | split

theorem readQ_frame {fs : List Fld} {x₀ b : Block} (hl : Among [.fsu] fs) (h : Changes fs x₀ b) :
    Changes fs x₀ (readQ b) := by
  unfold readQ
  repeat'
    first
      | with_reducible exact h | (with_reducible refine hl.mono ?_) <;> rfl
      | (with_reducible refine hl.mem ?_) <;> rfl | with_reducible apply setFsu_frame | split

/-! ### Stab.lean -/

theorem gyroLoss_frame {fs : List Fld} {x₀ b : Block} (inSeq : Nat)
    (hl : Among [.ntu, .sbu] fs) (h : Changes fs x₀ b) :
    Changes fs x₀ (gyroLoss inSeq b) := by
  unfold gyroLoss
  repeat'
    first
      | with_reducible exact h | (with_reducible refine hl.mono ?_) <;> rfl
      | (with_reducible refine hl.mem ?_) <;> rfl | with_reducible apply setCond_frame
      | with_reducible apply setSbu_frame | split

theorem lostPacket_frame {fs : List Fld} {x₀ b : Block} (gap : Nat)
    (hl : Among [.sbu, .due] fs) (h : Changes fs x₀ b) :
    Changes fs x₀ (lostPacket gap b) := by
  unfold lostPacket
  repeat'
    first
      | with_reducible exact h | (with_reducible refine hl.mono ?_) <;> rfl
      | (with_reducible refine hl.mem ?_) <;> rfl | with_reducible apply setSbu_frame
      | with_reducible apply markDue_frame | extract_lets c1 c2 | dsimp only [c1] | dsimp only [c2] | split

theorem gyroRecover_frame {fs : List Fld} {x₀ b : Block} (hl : Among [.ntu, .sbu] fs) (h : Changes fs x₀ b) :
    Changes fs x₀ (gyroRecover b) := by
  unfold gyroRecover
  repeat'
    first
      | with_reducible exact h | (with_reducible refine hl.mono ?_) <;> rfl
      | (with_reducible refine hl.mem ?_) <;> rfl | with_reducible apply setCond_frame
      | with_reducible apply setSbu_frame | split

theorem centeringPacket_frame {fs : List Fld} {x₀ b : Block} (pitch yaw : Int)
    (hl : Among [.sbu, .due] fs) (h : Changes fs x₀ b) :
    Changes fs x₀ (centeringPacket pitch yaw b) := by
  unfold centeringPacket
  repeat'
    first
      | with_reducible exact h | (with_reducible refine hl.mono ?_) <;> rfl
      | (with_reducible refine hl.mem ?_) <;> rfl | with_reducible apply setSbu_frame
      | with_reducible apply markDue_frame | extract_lets c1 c2 | dsimp only [c1] | dsimp only [c2] | split

theorem centeringDone_frame {fs : List Fld} {x₀ b : Block} (hl : Among [.sbu] fs) (h : Changes fs x₀ b) :
    Changes fs x₀ (centeringDone b) := by
  unfold centeringDone
  repeat'
    first
      | with_reducible exact h | (with_reducible refine hl.mono ?_) <;> rfl
      | (with_reducible refine hl.mem ?_) <;> rfl | with_reducible apply setSbu_frame | split

theorem finishSample_frame {fs : List Fld} {x₀ b : Block} (g : GyroSample)
    (hl : Among [.sbu, .due] fs) (h : Changes fs x₀ b) :
    Changes fs x₀ (finishSample g b) := by
  unfold finishSample
  repeat'
    first
      | with_reducible exact h | (with_reducible refine hl.mono ?_) <;> rfl
      | (with_reducible refine hl.mem ?_) <;> rfl | with_reducible apply setSbu_frame
      | with_reducible apply markDue_frame | extract_lets c1 c2 c3 c4 c5 | dsimp only [c1] | dsimp only [c2]
      | dsimp only [c3] | dsimp only [c4] | dsimp only [c5] | split

theorem resumeSample_frame {fs : List Fld} {x₀ b : Block} (hl : Among [.sbu, .due] fs) (h : Changes fs x₀ b) :
    Changes fs x₀ (resumeSample b) := by
  unfold resumeSample
  repeat'
    first
      | with_reducible exact h | (with_reducible refine hl.mono ?_) <;> rfl
      | (with_reducible refine hl.mem ?_) <;> rfl | with_reducible apply finishSample_frame | split

theorem markPan_frame {fs : List Fld} {x₀ b : Block} (r : Rot) (hl : Among [.due] fs) (h : Changes fs x₀ b) :
    Changes fs x₀ (markPan r b) := by
  unfold markPan
  repeat'
    first
      | with_reducible exact h | (with_reducible refine hl.mono ?_) <;> rfl
      | (with_reducible refine hl.mem ?_) <;> rfl | with_reducible apply markDue_frame | split

theorem activePacket_frame {fs : List Fld} {x₀ b : Block} (gap : Nat) (pitch yaw : Int)
    (hl : Among [.sbu, .due] fs) (h : Changes fs x₀ b) :
    Changes fs x₀ (activePacket gap pitch yaw b) := by
  unfold activePacket
  repeat'
    first
      | with_reducible exact h | (with_reducible refine hl.mono ?_) <;> rfl
      | (with_reducible refine hl.mem ?_) <;> rfl | with_reducible apply resumeSample_frame
      | with_reducible apply markPan_frame | with_reducible apply setSbu_frame | extract_lets c1 c2 c3
      | dsimp only [c1] | dsimp only [c2] | dsimp only [c3] | split

theorem panChange_frame {fs : List Fld} {x₀ b : Block} (r : Rot) (hl : Among [.sbu, .due] fs) (h : Changes fs x₀ b) :
    Changes fs x₀ (panChange r b) := by
  unfold panChange
  repeat'
    first
      | with_reducible exact h | (with_reducible refine hl.mono ?_) <;> rfl
      | (with_reducible refine hl.mem ?_) <;> rfl | with_reducible apply resumeSample_frame
      | with_reducible apply setSbu_frame | split

theorem holdEnd_frame {fs : List Fld} {x₀ b : Block} (r : Rot) (hl : Among [.sbu] fs) (h : Changes fs x₀ b) :
    Changes fs x₀ (holdEnd r b) := by
  unfold holdEnd
  repeat'
    first
      | with_reducible exact h | (with_reducible refine hl.mono ?_) <;> rfl
      | (with_reducible refine hl.mem ?_) <;> rfl | with_reducible apply setSbu_frame | split

theorem gyroPacket_frame {fs : List Fld} {x₀ b : Block} (p : BitVec 40)
    (hl : Among [.ntu, .sbu, .due] fs) (h : Changes fs x₀ b) :
    Changes fs x₀ (gyroPacket p b) := by
  unfold gyroPacket
  repeat'
    first
      | with_reducible exact h | (with_reducible refine hl.mono ?_) <;> rfl
      | (with_reducible refine hl.mem ?_) <;> rfl | with_reducible apply setSbu_frame
      | with_reducible apply lostPacket_frame | with_reducible apply gyroLoss_frame
      | with_reducible apply centeringPacket_frame | with_reducible apply activePacket_frame | extract_lets c1 c2 c3
      | dsimp only [c1] | dsimp only [c2] | dsimp only [c3] | split

theorem gyroDiscard_frame {fs : List Fld} {x₀ b : Block} (reasserted : Bool)
    (hl : Among [.sbu] fs) (h : Changes fs x₀ b) :
    Changes fs x₀ (gyroDiscard reasserted b) := by
  unfold gyroDiscard
  repeat'
    first
      | with_reducible exact h | (with_reducible refine hl.mono ?_) <;> rfl
      | (with_reducible refine hl.mem ?_) <;> rfl | with_reducible apply setSbu_frame | split

theorem gyroTimeout_frame {fs : List Fld} {x₀ b : Block} (hl : Among [.ntu, .sbu] fs) (h : Changes fs x₀ b) :
    Changes fs x₀ (gyroTimeout b) := by
  unfold gyroTimeout
  repeat'
    first
      | with_reducible exact h | (with_reducible refine hl.mono ?_) <;> rfl
      | (with_reducible refine hl.mem ?_) <;> rfl | with_reducible apply setSbu_frame
      | with_reducible apply gyroLoss_frame | extract_lets c1 | dsimp only [c1] | split

theorem closeWindow_frame {fs : List Fld} {x₀ b : Block} (k : Word) (hl : Among [.sbu] fs) (h : Changes fs x₀ b) :
    Changes fs x₀ (closeWindow k b) := by
  unfold closeWindow
  repeat'
    first
      | with_reducible exact h | (with_reducible refine hl.mono ?_) <;> rfl
      | (with_reducible refine hl.mem ?_) <;> rfl | with_reducible apply setSbu_frame | split

theorem stabReport_frame {fs : List Fld} {x₀ b : Block} (hl : Among [.ple, .due] fs) (h : Changes fs x₀ b) :
    Changes fs x₀ (stabReport b) := by
  unfold stabReport
  repeat'
    first
      | with_reducible exact h | (with_reducible refine hl.mono ?_) <;> rfl
      | (with_reducible refine hl.mem ?_) <;> rfl | with_reducible apply endPlan_frame | split

theorem stabOnHandOver_frame {fs : List Fld} {x₀ b : Block} (p : StabParams) (timeout : Nat)
    (hl : Among [.ple, .sbu, .due] fs) (h : Changes fs x₀ b) :
    Changes fs x₀ (stabOnHandOver p timeout b) := by
  unfold stabOnHandOver
  repeat'
    first
      | with_reducible exact h | (with_reducible refine hl.mono ?_) <;> rfl
      | (with_reducible refine hl.mem ?_) <;> rfl | with_reducible apply stabReport_frame
      | with_reducible apply setSbu_frame | split

theorem stabOffHandOver_frame {fs : List Fld} {x₀ b : Block}
    (hl : Among [.ntu, .ple, .sbu, .due] fs) (h : Changes fs x₀ b) :
    Changes fs x₀ (stabOffHandOver b) := by
  unfold stabOffHandOver
  repeat'
    first
      | with_reducible exact h | (with_reducible refine hl.mono ?_) <;> rfl
      | (with_reducible refine hl.mem ?_) <;> rfl | with_reducible apply stabReport_frame
      | with_reducible apply setCond_frame | with_reducible apply setSbu_frame | split

/-! ### TableLoad.lean -/

theorem tablesHandOver_frame {fs : List Fld} {x₀ b : Block} (p : TablesParams)
    (hl : Among [.zmap] fs) (h : Changes fs x₀ b) :
    Changes fs x₀ (tablesHandOver p b) := by
  unfold tablesHandOver
  repeat'
    first
      | with_reducible exact h | (with_reducible refine hl.mono ?_) <;> rfl
      | (with_reducible refine hl.mem ?_) <;> rfl | with_reducible apply setZmap_frame | split

theorem adoptTables_frame {fs : List Fld} {x₀ b : Block} (t : Tables) (hl : Among [.zoom, .focus, .zmap] fs)
    (h : Changes fs x₀ b) : Changes fs x₀ (adoptTables t b) := by
  unfold adoptTables refilterAxes
  exact fun f hf => by cases f <;> first | exact h _ hf | exact absurd (hl.mem rfl) hf

theorem swapTables_frame {fs : List Fld} {x₀ b : Block} (frame : Option Word)
    (hl : Among [.ple, .zoom, .focus, .zmap, .due] fs) (h : Changes fs x₀ b) :
    Changes fs x₀ (swapTables frame b) := by
  unfold swapTables
  repeat'
    first
      | with_reducible exact h | (with_reducible refine hl.mono ?_) <;> rfl
      | (with_reducible refine hl.mem ?_) <;> rfl | with_reducible apply endPlan_frame
      | with_reducible apply updateFocusLimits_frame | with_reducible apply updateZoomLimits_frame
      | with_reducible apply adoptTables_frame | split

theorem tablesFail_frame {fs : List Fld} {x₀ b : Block} (o : PlanOutcome) (word : Nat) (index offset : Nat)
    (hl : Among [.ple, .zmap, .due] fs) (h : Changes fs x₀ b) :
    Changes fs x₀ (tablesFail o word index offset b) := by
  unfold tablesFail
  repeat'
    first
      | with_reducible exact h | (with_reducible refine hl.mono ?_) <;> rfl
      | (with_reducible refine hl.mem ?_) <;> rfl | with_reducible apply endPlan_frame
      | with_reducible apply setZmap_frame | split

theorem validateShadow_frame {fs : List Fld} {x₀ b : Block} (t : Tables)
    (hl : Among [.ple, .zoom, .focus, .zmap, .due] fs) (h : Changes fs x₀ b) :
    Changes fs x₀ (validateShadow t b) := by
  unfold validateShadow
  repeat'
    first
      | with_reducible exact h | (with_reducible refine hl.mono ?_) <;> rfl
      | (with_reducible refine hl.mem ?_) <;> rfl | with_reducible apply tablesFail_frame
      | with_reducible apply setZmap_frame | with_reducible apply swapTables_frame | extract_lets c1
      | dsimp only [c1] | split

theorem tablesResponse_frame {fs : List Fld} {x₀ b : Block} (r : ReadResp)
    (hl : Among [.regs, .ntu, .ple, .zoom, .focus, .zmap, .due] fs) (h : Changes fs x₀ b) :
    Changes fs x₀ (tablesResponse r b) := by
  unfold tablesResponse
  repeat'
    first
      | with_reducible exact h | (with_reducible refine hl.mono ?_) <;> rfl
      | (with_reducible refine hl.mem ?_) <;> rfl | with_reducible apply tablesFail_frame
      | with_reducible apply memoryFault_frame | with_reducible apply setZmap_frame
      | with_reducible apply validateShadow_frame | with_reducible apply endPlan_frame | extract_lets c1 c2
      | dsimp only [c1] | dsimp only [c2] | split

theorem tablesAbort_frame {fs : List Fld} {x₀ b : Block} (hl : Among [.ple, .zmap, .due] fs) (h : Changes fs x₀ b) :
    Changes fs x₀ (tablesAbort b) := by
  unfold tablesAbort
  repeat'
    first
      | with_reducible exact h | (with_reducible refine hl.mono ?_) <;> rfl
      | (with_reducible refine hl.mem ?_) <;> rfl | with_reducible apply setZmap_frame
      | with_reducible apply endPlan_frame | split

/-! ### Timing.lean -/

theorem statsLineBegin_frame {fs : List Fld} {x₀ b : Block} (j : Nat) (px : List Pixel)
    (hl : Among [.stu] fs) (h : Changes fs x₀ b) :
    Changes fs x₀ (statsLineBegin j px b) := by
  unfold statsLineBegin
  repeat'
    first
      | with_reducible exact h | (with_reducible refine hl.mono ?_) <;> rfl
      | (with_reducible refine hl.mem ?_) <;> rfl | with_reducible apply setStu_frame | split

theorem statsLineEnd_frame {fs : List Fld} {x₀ b : Block} (hl : Among [.stu] fs) (h : Changes fs x₀ b) :
    Changes fs x₀ (statsLineEnd b) := by
  unfold statsLineEnd
  repeat'
    first
      | with_reducible exact h | (with_reducible refine hl.mono ?_) <;> rfl
      | (with_reducible refine hl.mem ?_) <;> rfl | with_reducible apply setStu_frame | split

theorem raiseStats_frame {fs : List Fld} {x₀ b : Block} (r : StatsRecord)
    (hl : Among [.exu, .afu, .fsu] fs) (h : Changes fs x₀ b) :
    Changes fs x₀ (raiseStats r b) := by
  unfold raiseStats
  exact fun f hf => by cases f <;> first | exact h _ hf | exact absurd (hl.mem rfl) hf

theorem statsFrameEnd_frame {fs : List Fld} {x₀ b : Block} (lineCount cut : Bool)
    (hl : Among [.stu, .exu, .afu, .fsu] fs) (h : Changes fs x₀ b) :
    Changes fs x₀ (statsFrameEnd lineCount cut b) := by
  unfold statsFrameEnd
  repeat'
    first
      | with_reducible exact h | (with_reducible refine hl.mono ?_) <;> rfl
      | (with_reducible refine hl.mem ?_) <;> rfl | with_reducible apply setStu_frame
      | with_reducible apply raiseStats_frame | extract_lets c1 | dsimp only [c1] | split

theorem statsFrameStart_frame {fs : List Fld} {x₀ b : Block} (k : Word) (periodJump untimed : Bool)
    (hl : Among [.stu] fs) (h : Changes fs x₀ b) :
    Changes fs x₀ (statsFrameStart k periodJump untimed b) := by
  unfold statsFrameStart
  repeat'
    first
      | with_reducible exact h | (with_reducible refine hl.mono ?_) <;> rfl
      | (with_reducible refine hl.mem ?_) <;> rfl | with_reducible apply setStu_frame | split

theorem closeEntry_frame {fs : List Fld} {x₀ b : Block} (k : Word) (hl : Among [.ftu] fs) (h : Changes fs x₀ b) :
    Changes fs x₀ (closeEntry k b) := by
  unfold closeEntry
  repeat'
    first
      | with_reducible exact h | (with_reducible refine hl.mono ?_) <;> rfl
      | (with_reducible refine hl.mem ?_) <;> rfl | with_reducible apply setFtu_frame | split

theorem raiseFrameEnd_frame {fs : List Fld} {x₀ b : Block} (k : Word) (lineCount cut : Bool)
    (hl : Among [.regs, .ntu, .ftu, .stu, .exu, .afu, .sbu, .fsu, .due] fs) (h : Changes fs x₀ b) :
    Changes fs x₀ (raiseFrameEnd k lineCount cut b) := by
  unfold raiseFrameEnd
  repeat'
    first
      | with_reducible exact h | (with_reducible refine hl.mono ?_) <;> rfl
      | (with_reducible refine hl.mem ?_) <;> rfl | with_reducible apply storeFrameEnd_frame
      | with_reducible apply closeWindow_frame | with_reducible apply statsFrameEnd_frame
      | with_reducible apply closeEntry_frame | with_reducible apply setFtu_frame | extract_lets c1 c2
      | dsimp only [c1] | dsimp only [c2] | split

theorem endLine_frame {fs : List Fld} {x₀ b : Block}
    (hl : Among [.regs, .ntu, .ftu, .stu, .fsu] fs) (h : Changes fs x₀ b) :
    Changes fs x₀ (endLine b) := by
  unfold endLine
  repeat'
    first
      | with_reducible exact h | (with_reducible refine hl.mono ?_) <;> rfl
      | (with_reducible refine hl.mem ?_) <;> rfl | with_reducible apply storeLineEnd_frame
      | with_reducible apply statsLineEnd_frame | with_reducible apply setFtu_frame | extract_lets c1
      | dsimp only [c1] | split

theorem cutFrame_frame {fs : List Fld} {x₀ b : Block}
    (hl : Among [.regs, .ntu, .ftu, .stu, .exu, .afu, .sbu, .fsu, .due] fs) (h : Changes fs x₀ b) :
    Changes fs x₀ (cutFrame b) := by
  unfold cutFrame
  repeat'
    first
      | with_reducible exact h | (with_reducible refine hl.mono ?_) <;> rfl
      | (with_reducible refine hl.mem ?_) <;> rfl | with_reducible apply raiseFrameEnd_frame
      | with_reducible apply setFtu_frame | extract_lets c1 | dsimp only [c1] | split

theorem lineFrameEnd_frame {fs : List Fld} {x₀ b : Block} (fmt : StreamParams) (j : Nat)
    (hl : Among [.regs, .ntu, .ftu, .stu, .exu, .afu, .sbu, .fsu, .due] fs) (h : Changes fs x₀ b) :
    Changes fs x₀ (lineFrameEnd fmt j b) := by
  unfold lineFrameEnd
  repeat'
    first
      | with_reducible exact h | (with_reducible refine hl.mono ?_) <;> rfl
      | (with_reducible refine hl.mem ?_) <;> rfl | with_reducible apply raiseFrameEnd_frame | split

theorem lineWindowOpen_frame {fs : List Fld} {x₀ b : Block} (fmt : StreamParams) (j : Nat)
    (hl : Among [.ftu, .afu, .sbu, .fsu] fs) (h : Changes fs x₀ b) :
    Changes fs x₀ (lineWindowOpen fmt j b) := by
  unfold lineWindowOpen
  repeat'
    first
      | with_reducible exact h | (with_reducible refine hl.mono ?_) <;> rfl
      | (with_reducible refine hl.mem ?_) <;> rfl | with_reducible apply raiseWindowOpen_frame | split

theorem beginLine_frame {fs : List Fld} {x₀ b : Block} (fmt : StreamParams) (j : Nat) (px : List Pixel)
    (hl : Among [.ftu, .stu, .fsu] fs) (h : Changes fs x₀ b) :
    Changes fs x₀ (beginLine fmt j px b) := by
  unfold beginLine
  repeat'
    first
      | with_reducible exact h | (with_reducible refine hl.mono ?_) <;> rfl
      | (with_reducible refine hl.mem ?_) <;> rfl | with_reducible apply storeLineBegin_frame
      | with_reducible apply statsLineBegin_frame | with_reducible apply setFtu_frame | split

theorem lineSync_frame {fs : List Fld} {x₀ b : Block} (px : List Pixel)
    (hl : Among [.regs, .ntu, .ftu, .stu, .exu, .afu, .sbu, .fsu, .due] fs) (h : Changes fs x₀ b) :
    Changes fs x₀ (lineSync px b) := by
  unfold lineSync
  repeat'
    first
      | with_reducible exact h | (with_reducible refine hl.mono ?_) <;> rfl
      | (with_reducible refine hl.mem ?_) <;> rfl | with_reducible apply setFtu_frame
      | with_reducible apply endLine_frame | with_reducible apply lineWindowOpen_frame
      | with_reducible apply beginLine_frame | with_reducible apply lineFrameEnd_frame | extract_lets c1 c2
      | dsimp only [c1] | dsimp only [c2] | split

theorem periodLimit_frame {fs : List Fld} {x₀ b : Block} (hl : Among [.ftu] fs) (h : Changes fs x₀ b) :
    Changes fs x₀ (periodLimit b) := by
  unfold periodLimit
  repeat'
    first
      | with_reducible exact h | (with_reducible refine hl.mono ?_) <;> rfl
      | (with_reducible refine hl.mem ?_) <;> rfl | with_reducible apply setFtu_frame | split

theorem frameStart_frame {fs : List Fld} {x₀ b : Block} (untimed jump swapFirst : Bool)
    (hl : Among [.ple, .ftu, .stu, .zoom, .focus, .iris, .zmap, .cap, .fsu, .due] fs) (h : Changes fs x₀ b) :
    Changes fs x₀ (frameStart untimed jump swapFirst b) := by
  unfold frameStart
  repeat'
    first
      | with_reducible exact h | (with_reducible refine hl.mono ?_) <;> rfl
      | (with_reducible refine hl.mem ?_) <;> rfl | with_reducible apply swapTables_frame
      | with_reducible apply setFtu_frame | with_reducible apply capFrameStart_frame
      | with_reducible apply readQ_frame | with_reducible apply requestMirror_frame
      | with_reducible apply statsFrameStart_frame | with_reducible apply pipelineWork_frame
      | extract_lets c1 c2 c3 c4 | dsimp only [c1] | dsimp only [c2] | dsimp only [c3] | dsimp only [c4] | split

theorem finishFrame_frame {fs : List Fld} {x₀ b : Block}
    (hl : Among [.regs, .ntu, .ftu, .stu, .exu, .afu, .sbu, .fsu, .due] fs) (h : Changes fs x₀ b) :
    Changes fs x₀ (finishFrame b) := by
  unfold finishFrame
  repeat'
    first
      | with_reducible exact h | (with_reducible refine hl.mono ?_) <;> rfl
      | (with_reducible refine hl.mem ?_) <;> rfl | with_reducible apply endLine_frame
      | with_reducible apply raiseFrameEnd_frame | with_reducible apply raiseWindowOpen_frame | extract_lets c1 c2
      | dsimp only [c1] | dsimp only [c2] | split

theorem streamStarted_frame {fs : List Fld} {x₀ b : Block} (hl : Among [.ple, .due] fs) (h : Changes fs x₀ b) :
    Changes fs x₀ (streamStarted b) := by
  unfold streamStarted
  repeat'
    first
      | with_reducible exact h | (with_reducible refine hl.mono ?_) <;> rfl
      | (with_reducible refine hl.mem ?_) <;> rfl | with_reducible apply endPlan_frame | split

theorem frameSync_frame {fs : List Fld} {x₀ b : Block} (count : Nat) (swapFirst : Bool)
    (hl : Among [.regs, .ntu, .ple, .ftu, .stu, .exu, .zoom, .focus, .iris, .zmap, .afu, .sbu, .cap, .fsu, .due] fs) (h : Changes fs x₀ b) :
    Changes fs x₀ (frameSync count swapFirst b) := by
  unfold frameSync
  repeat'
    first
      | with_reducible exact h | (with_reducible refine hl.mono ?_) <;> rfl
      | (with_reducible refine hl.mem ?_) <;> rfl | with_reducible apply frameStart_frame
      | with_reducible apply setFtu_frame | with_reducible apply finishFrame_frame
      | with_reducible apply streamStarted_frame | with_reducible apply setCond_frame | extract_lets c1 c2 c3 c4 c5
      | dsimp only [c1] | dsimp only [c2] | dsimp only [c3] | dsimp only [c4] | dsimp only [c5] | split

theorem emptyWindowLists_frame {fs : List Fld} {x₀ b : Block}
    (hl : Among [.afu, .sbu, .fsu] fs) (h : Changes fs x₀ b) :
    Changes fs x₀ (emptyWindowLists b) := by
  unfold emptyWindowLists
  try dsimp only
  exact fun f hf => by cases f <;> first | exact h _ hf | exact absurd (hl.mem rfl) hf

theorem enterStopped_frame {fs : List Fld} {x₀ b : Block}
    (hl : Among [.ple, .ftu, .zoom, .focus, .zmap, .afu, .sbu, .fsu, .due] fs) (h : Changes fs x₀ b) :
    Changes fs x₀ (enterStopped b) := by
  unfold enterStopped
  repeat'
    first
      | with_reducible exact h | (with_reducible refine hl.mono ?_) <;> rfl
      | (with_reducible refine hl.mem ?_) <;> rfl | with_reducible apply searchStreamStopped_frame
      | with_reducible apply swapTables_frame | with_reducible apply emptyWindowLists_frame
      | with_reducible apply setFtu_frame | split

theorem noSync_frame {fs : List Fld} {x₀ b : Block}
    (hl : Among [.regs, .ntu, .ple, .ftu, .stu, .exu, .zoom, .focus, .zmap, .afu, .sbu, .fsu, .due] fs) (h : Changes fs x₀ b) :
    Changes fs x₀ (noSync b) := by
  unfold noSync
  repeat'
    first
      | with_reducible exact h | (with_reducible refine hl.mono ?_) <;> rfl
      | (with_reducible refine hl.mem ?_) <;> rfl | with_reducible apply endPlan_frame
      | with_reducible apply emptyPipeline_frame | with_reducible apply enterStopped_frame
      | with_reducible apply cutFrame_frame | split

theorem loseStream_frame {fs : List Fld} {x₀ b : Block}
    (hl : Among [.regs, .ntu, .ple, .ftu, .stu, .exu, .focus, .zmap, .afu, .sbu, .cap, .fsu, .due] fs) (h : Changes fs x₀ b) :
    Changes fs x₀ (loseStream b) := by
  unfold loseStream
  repeat'
    first
      | with_reducible exact h | (with_reducible refine hl.mono ?_) <;> rfl
      | (with_reducible refine hl.mem ?_) <;> rfl | with_reducible apply capStreamEnd_frame
      | with_reducible apply setCond_frame | with_reducible apply emptyWindowLists_frame
      | with_reducible apply setFtu_frame | with_reducible apply cutFrame_frame | split

theorem syncTimeout_frame {fs : List Fld} {x₀ b : Block}
    (hl : Among [.regs, .ntu, .ple, .ftu, .stu, .exu, .zoom, .focus, .zmap, .afu, .sbu, .cap, .fsu, .due] fs) (h : Changes fs x₀ b) :
    Changes fs x₀ (syncTimeout b) := by
  unfold syncTimeout
  repeat'
    first
      | with_reducible exact h | (with_reducible refine hl.mono ?_) <;> rfl
      | (with_reducible refine hl.mem ?_) <;> rfl | with_reducible apply noSync_frame
      | with_reducible apply loseStream_frame | split

theorem stopComplete_frame {fs : List Fld} {x₀ b : Block} (hl : Among [.ple, .ftu, .due] fs) (h : Changes fs x₀ b) :
    Changes fs x₀ (stopComplete b) := by
  unfold stopComplete
  repeat'
    first
      | with_reducible exact h | (with_reducible refine hl.mono ?_) <;> rfl
      | (with_reducible refine hl.mem ?_) <;> rfl | with_reducible apply setFtu_frame
      | with_reducible apply emptyPipeline_frame | with_reducible apply endPlan_frame | extract_lets c1
      | dsimp only [c1] | split

theorem stopIfFree_frame {fs : List Fld} {x₀ b : Block} (hl : Among [.due] fs) (h : Changes fs x₀ b) :
    Changes fs x₀ (stopIfFree b) := by
  unfold stopIfFree
  repeat'
    first
      | with_reducible exact h | (with_reducible refine hl.mono ?_) <;> rfl
      | (with_reducible refine hl.mem ?_) <;> rfl | with_reducible apply markDue_frame | split

theorem streamStopComplete_frame {fs : List Fld} {x₀ b : Block}
    (hl : Among [.ple, .ftu, .due] fs) (h : Changes fs x₀ b) :
    Changes fs x₀ (streamStopComplete b) := by
  unfold streamStopComplete
  repeat'
    first
      | with_reducible exact h | (with_reducible refine hl.mono ?_) <;> rfl
      | (with_reducible refine hl.mem ?_) <;> rfl | with_reducible apply stopComplete_frame | split

theorem streamStopHandOver_frame {fs : List Fld} {x₀ b : Block}
    (hl : Among [.regs, .ntu, .ple, .ftu, .stu, .exu, .zoom, .focus, .zmap, .afu, .sbu, .cap, .fsu, .due] fs) (h : Changes fs x₀ b) :
    Changes fs x₀ (streamStopHandOver b) := by
  unfold streamStopHandOver
  repeat'
    first
      | with_reducible exact h | (with_reducible refine hl.mono ?_) <;> rfl
      | (with_reducible refine hl.mem ?_) <;> rfl | with_reducible apply endPlan_frame
      | with_reducible apply setCond_frame | with_reducible apply enterStopped_frame
      | with_reducible apply cutFrame_frame | with_reducible apply setFtu_frame
      | with_reducible apply stopIfFree_frame | with_reducible apply capStreamEnd_frame | extract_lets c1 c2
      | dsimp only [c1] | dsimp only [c2] | split

theorem streamStartHandOver_frame {fs : List Fld} {x₀ b : Block} (p : StreamParams) (timeout : Nat)
    (hl : Among [.ftu, .stu, .exu, .afu, .fsu] fs) (h : Changes fs x₀ b) :
    Changes fs x₀ (streamStartHandOver p timeout b) := by
  unfold streamStartHandOver
  exact fun f hf => by cases f <;> first | exact h _ hf | exact absurd (hl.mem rfl) hf

theorem metering_frame {fs : List Fld} {x₀ b : Block} (hl : Among [.ftu, .exu, .fsu, .due] fs) (h : Changes fs x₀ b) :
    Changes fs x₀ (metering b) := by
  unfold metering
  repeat'
    first
      | with_reducible exact h | (with_reducible refine hl.mono ?_) <;> rfl
      | (with_reducible refine hl.mem ?_) <;> rfl | with_reducible apply storeMetered_frame
      | with_reducible apply meterRelease_frame | extract_lets c1 c2 | dsimp only [c1] | dsimp only [c2] | split
      | with_reducible refine changes_exu ?_ ?_

/-! ### Chain.lean -/

theorem setLook_frame {fs : List Fld} {x₀ b : Block} (l : Look) (hl : Among [.ple] fs) (h : Changes fs x₀ b) :
    Changes fs x₀ (setLook l b) := by
  unfold setLook
  repeat'
    first
      | with_reducible exact h | (with_reducible refine hl.mono ?_) <;> rfl
      | (with_reducible refine hl.mem ?_) <;> rfl | split | with_reducible refine changes_ple ?_ ?_

theorem stopRun_frame {fs : List Fld} {x₀ b : Block} (hl : Among [.regs, .ple, .due] fs) (h : Changes fs x₀ b) :
    Changes fs x₀ (stopRun b) := by
  unfold stopRun
  refine dropDue_frame _ (hl.mono rfl) ?_
  exact fun f hf => by cases f <;> first | exact h _ hf | exact absurd (hl.mem rfl) hf

theorem chainFault_frame {fs : List Fld} {x₀ b : Block} (code : FaultCode) (offset : Nat)
    (hl : Among [.regs, .ntu, .ple, .due] fs) (h : Changes fs x₀ b) :
    Changes fs x₀ (chainFault code offset b) := by
  unfold chainFault
  repeat'
    first
      | with_reducible exact h | (with_reducible refine hl.mono ?_) <;> rfl
      | (with_reducible refine hl.mem ?_) <;> rfl | with_reducible apply setPle_frame
      | with_reducible apply stopRun_frame | with_reducible apply memoryFault_frame | split

theorem runStartFault_frame {fs : List Fld} {x₀ b : Block} (code : FaultCode) (offset : Nat)
    (hl : Among [.regs, .ntu, .ple, .due] fs) (h : Changes fs x₀ b) :
    Changes fs x₀ (runStartFault code offset b) :=
  stopRun_frame (hl.mono rfl) (memoryFault_frame _ _ (hl.mono rfl) h)

theorem startRun_frame {fs : List Fld} {x₀ b : Block} (hl : Among [.regs, .ple] fs) (h : Changes fs x₀ b) :
    Changes fs x₀ (startRun b) := by
  unfold startRun
  split
  · exact h
  · exact fun f hf => by cases f <;> first | exact h _ hf | exact absurd (hl.mem rfl) hf

theorem clearRun_frame {fs : List Fld} {x₀ b : Block} (hl : Among [.regs, .ple, .due] fs) (h : Changes fs x₀ b) :
    Changes fs x₀ (clearRun b) := by
  unfold clearRun
  repeat'
    first
      | with_reducible exact h | (with_reducible refine hl.mono ?_) <;> rfl
      | (with_reducible refine hl.mem ?_) <;> rfl | with_reducible apply stopRun_frame | split

theorem startLooking_frame {fs : List Fld} {x₀ b : Block} (period : Nat)
    (hl : Among [.ple, .due] fs) (h : Changes fs x₀ b) :
    Changes fs x₀ (startLooking period b) := by
  unfold startLooking
  repeat'
    first
      | with_reducible exact h | (with_reducible refine hl.mono ?_) <;> rfl
      | (with_reducible refine hl.mem ?_) <;> rfl | with_reducible apply setPle_frame
      | with_reducible apply requestLook_frame | extract_lets c1 | dsimp only [c1] | split

theorem runStartResponse_frame {fs : List Fld} {x₀ b : Block} (r : ReadResp)
    (hl : Among [.regs, .ntu, .ple, .fsu, .due] fs) (h : Changes fs x₀ b) :
    Changes fs x₀ (runStartResponse r b) := by
  unfold runStartResponse
  repeat'
    first
      | with_reducible exact h | (with_reducible refine hl.mono ?_) <;> rfl
      | (with_reducible refine hl.mem ?_) <;> rfl | with_reducible apply setPle_frame
      | with_reducible apply runStartFault_frame | with_reducible apply firstQ_frame
      | with_reducible apply startLooking_frame | extract_lets c1 c2 c3 | dsimp only [c1] | dsimp only [c2]
      | dsimp only [c3] | split

theorem endLook_frame {fs : List Fld} {x₀ b : Block} (hl : Among [.ple, .due] fs) (h : Changes fs x₀ b) :
    Changes fs x₀ (endLook b) := by
  unfold endLook
  repeat'
    first
      | with_reducible exact h | (with_reducible refine hl.mono ?_) <;> rfl
      | (with_reducible refine hl.mem ?_) <;> rfl | with_reducible apply setPle_frame
      | with_reducible apply markDue_frame | extract_lets c1 | dsimp only [c1] | split

theorem lookStep_frame {fs : List Fld} {x₀ b : Block} (hl : Among [.ple, .due] fs) (h : Changes fs x₀ b) :
    Changes fs x₀ (lookStep b) := by
  unfold lookStep
  repeat'
    first
      | with_reducible exact h | (with_reducible refine hl.mono ?_) <;> rfl
      | (with_reducible refine hl.mem ?_) <;> rfl | with_reducible apply endLook_frame
      | with_reducible apply setLook_frame | split

theorem goOn_frame {fs : List Fld} {x₀ b : Block} (hl : Among [.ple, .due] fs) (h : Changes fs x₀ b) :
    Changes fs x₀ (goOn b) := by
  unfold goOn
  repeat'
    first
      | with_reducible exact h | (with_reducible refine hl.mono ?_) <;> rfl
      | (with_reducible refine hl.mem ?_) <;> rfl | with_reducible apply endLook_frame
      | with_reducible apply lookStep_frame | split

theorem moveCursor_frame {fs : List Fld} {x₀ b : Block} (c : Cursor)
    (hl : Among [.ple, .due] fs) (h : Changes fs x₀ b) :
    Changes fs x₀ (moveCursor c b) := by
  unfold moveCursor
  repeat'
    first
      | with_reducible exact h | (with_reducible refine hl.mono ?_) <;> rfl
      | (with_reducible refine hl.mem ?_) <;> rfl | with_reducible apply goOn_frame
      | with_reducible apply setPle_frame | split

theorem lookStart_frame {fs : List Fld} {x₀ b : Block} (hl : Among [.ple, .due] fs) (h : Changes fs x₀ b) :
    Changes fs x₀ (lookStart b) := by
  unfold lookStart
  repeat'
    first
      | with_reducible exact h | (with_reducible refine hl.mono ?_) <;> rfl
      | (with_reducible refine hl.mem ?_) <;> rfl | with_reducible apply lookStep_frame
      | with_reducible apply requestMirror_frame | split

theorem lookTimerExpiry_frame {fs : List Fld} {x₀ b : Block} (hl : Among [.ple, .due] fs) (h : Changes fs x₀ b) :
    Changes fs x₀ (lookTimerExpiry b) := by
  unfold lookTimerExpiry
  repeat'
    first
      | with_reducible exact h | (with_reducible refine hl.mono ?_) <;> rfl
      | (with_reducible refine hl.mem ?_) <;> rfl | with_reducible apply requestLook_frame | split

theorem nextResponse_frame {fs : List Fld} {x₀ b : Block} (r : ReadResp)
    (hl : Among [.regs, .ntu, .ple, .due] fs) (h : Changes fs x₀ b) :
    Changes fs x₀ (nextResponse r b) := by
  unfold nextResponse
  repeat'
    first
      | with_reducible exact h | (with_reducible refine hl.mono ?_) <;> rfl
      | (with_reducible refine hl.mem ?_) <;> rfl | with_reducible apply chainFault_frame
      | with_reducible apply endLook_frame | with_reducible apply moveCursor_frame | extract_lets c1
      | dsimp only [c1] | split

theorem refuse_frame {fs : List Fld} {x₀ b : Block} (x : Nat) (notify : Bool) (o : PlanOutcome)
    (hl : Among [.ple] fs) (h : Changes fs x₀ b) :
    Changes fs x₀ (refuse x notify o b) := by
  unfold refuse
  repeat'
    first
      | with_reducible exact h | (with_reducible refine hl.mono ?_) <;> rfl
      | (with_reducible refine hl.mem ?_) <;> rfl | with_reducible apply setLook_frame | split

theorem writeTaken_frame {fs : List Fld} {x₀ b : Block} (p : PlanRec) (c : CheckVal)
    (hl : Among [.ple] fs) (h : Changes fs x₀ b) :
    Changes fs x₀ (writeTaken p c b) := by
  unfold writeTaken
  repeat'
    first
      | with_reducible exact h | (with_reducible refine hl.mono ?_) <;> rfl
      | (with_reducible refine hl.mem ?_) <;> rfl | with_reducible apply setLook_frame | split

theorem actOn_frame {fs : List Fld} {x₀ b : Block} (c : Check) (p : PlanRec) (v : CheckVal)
    (hl : Among [.ple, .due] fs) (h : Changes fs x₀ b) :
    Changes fs x₀ (actOn c p v b) := by
  unfold actOn
  repeat'
    first
      | with_reducible exact h | (with_reducible refine hl.mono ?_) <;> rfl
      | (with_reducible refine hl.mem ?_) <;> rfl | with_reducible apply writeTaken_frame
      | with_reducible apply refuse_frame | with_reducible apply endLook_frame | split

theorem judge_frame {fs : List Fld} {x₀ b : Block} (p : PlanRec) (v : CheckVal)
    (hl : Among [.ple, .due] fs) (h : Changes fs x₀ b) :
    Changes fs x₀ (judge p v b) := by
  unfold judge
  repeat'
    first
      | with_reducible exact h | (with_reducible refine hl.mono ?_) <;> rfl
      | (with_reducible refine hl.mem ?_) <;> rfl | with_reducible apply endLook_frame
      | with_reducible apply setLook_frame | with_reducible apply actOn_frame | split

theorem planResponse_frame {fs : List Fld} {x₀ b : Block} (r : ReadResp)
    (hl : Among [.regs, .ntu, .ple, .due] fs) (h : Changes fs x₀ b) :
    Changes fs x₀ (planResponse r b) := by
  unfold planResponse
  repeat'
    first
      | with_reducible exact h | (with_reducible refine hl.mono ?_) <;> rfl
      | (with_reducible refine hl.mem ?_) <;> rfl | with_reducible apply chainFault_frame
      | with_reducible apply endLook_frame | with_reducible apply refuse_frame | with_reducible apply setLook_frame
      | with_reducible apply judge_frame | extract_lets c1 | dsimp only [c1] | split

theorem checkResponse_frame {fs : List Fld} {x₀ b : Block} (r : ReadResp)
    (hl : Among [.regs, .ntu, .ple, .due] fs) (h : Changes fs x₀ b) :
    Changes fs x₀ (checkResponse r b) := by
  unfold checkResponse
  repeat'
    first
      | with_reducible exact h | (with_reducible refine hl.mono ?_) <;> rfl
      | (with_reducible refine hl.mem ?_) <;> rfl | with_reducible apply chainFault_frame
      | with_reducible apply actOn_frame | with_reducible apply refuse_frame | with_reducible apply judge_frame
      | split

theorem refusalOutcomeResponse_frame {fs : List Fld} {x₀ b : Block} (err : Bool)
    (hl : Among [.regs, .ntu, .ple, .due] fs) (h : Changes fs x₀ b) :
    Changes fs x₀ (refusalOutcomeResponse err b) := by
  unfold refusalOutcomeResponse
  repeat'
    first
      | with_reducible exact h | (with_reducible refine hl.mono ?_) <;> rfl
      | (with_reducible refine hl.mem ?_) <;> rfl | with_reducible apply chainFault_frame
      | with_reducible apply setLook_frame | split

theorem refusalStateResponse_frame {fs : List Fld} {x₀ b : Block} (err : Bool)
    (hl : Among [.regs, .ntu, .ple, .due] fs) (h : Changes fs x₀ b) :
    Changes fs x₀ (refusalStateResponse err b) := by
  unfold refusalStateResponse
  repeat'
    first
      | with_reducible exact h | (with_reducible refine hl.mono ?_) <;> rfl
      | (with_reducible refine hl.mem ?_) <;> rfl | with_reducible apply chainFault_frame
      | with_reducible apply moveCursor_frame | with_reducible apply raise_frame | split

theorem takenWriteError_frame {fs : List Fld} {x₀ b : Block}
    (hl : Among [.regs, .ntu, .ple, .due] fs) (h : Changes fs x₀ b) :
    Changes fs x₀ (takenWriteError b) := by
  unfold takenWriteError
  repeat'
    first
      | with_reducible exact h | (with_reducible refine hl.mono ?_) <;> rfl
      | (with_reducible refine hl.mem ?_) <;> rfl | with_reducible apply chainFault_frame | split

theorem enterTaken_frame {fs : List Fld} {x₀ b : Block} (p : PlanRec) (hl : Among [.ple] fs) (h : Changes fs x₀ b) :
    Changes fs x₀ (enterTaken p b) := by
  unfold enterTaken
  repeat'
    first
      | with_reducible exact h | (with_reducible refine hl.mono ?_) <;> rfl
      | (with_reducible refine hl.mem ?_) <;> rfl | with_reducible apply setPle_frame | split

/-- A take changes what its hand-over changes, the plan engine, the due steps, and, as tracking follows, the focus axis. -/
theorem take_frame {fs : List Fld} {x₀ b : Block} (p : PlanRec) (handOver : Block → Block)
    (hl : Among [.ple, .focus, .zmap, .afu, .due] fs) (hh : ∀ c, Changes fs x₀ c → Changes fs x₀ (handOver c))
    (h : Changes fs x₀ b) : Changes fs x₀ (take p handOver b) :=
  moveCursor_frame _ (hl.mono rfl) (hh _ (retrack_frame _ (hl.mono rfl) (enterTaken_frame _ (hl.mono rfl) h)))

theorem syncHandOver_frame {fs : List Fld} {x₀ b : Block} (hl : Among [.ple, .due] fs) (h : Changes fs x₀ b) :
    Changes fs x₀ (syncHandOver b) := by
  unfold syncHandOver
  repeat'
    first
      | with_reducible exact h | (with_reducible refine hl.mono ?_) <;> rfl
      | (with_reducible refine hl.mem ?_) <;> rfl | with_reducible apply endPlan_frame | split

theorem exposureTaken_frame {fs : List Fld} {x₀ b : Block} (p : ExpParams)
    (hl : Among [.ple, .exu, .due] fs) (h : Changes fs x₀ b) :
    Changes fs x₀ (exposureTaken p b) := by
  unfold exposureTaken
  repeat'
    first
      | with_reducible exact h | (with_reducible refine hl.mono ?_) <;> rfl
      | (with_reducible refine hl.mem ?_) <;> rfl | with_reducible apply exposureHandOver_frame
      | with_reducible apply endPlan_frame | extract_lets c1 | dsimp only [c1] | split

theorem resultWritten_frame {fs : List Fld} {x₀ b : Block} (k : PlanKind) (w : ResultWrite) (err : Bool)
    (hl : Among [.regs, .ntu, .ple] fs) (h : Changes fs x₀ b) :
    Changes fs x₀ (resultWritten k w err b) := by
  unfold resultWritten
  repeat'
    first
      | with_reducible exact h | (with_reducible refine hl.mono ?_) <;> rfl
      | (with_reducible refine hl.mem ?_) <;> rfl | with_reducible apply setEnding_frame
      | with_reducible apply memoryFault?_frame | extract_lets c1 c2 | dsimp only [c1] | dsimp only [c2] | split

theorem failOutcomeWritten_frame {fs : List Fld} {x₀ b : Block} (k : PlanKind) (err : Bool)
    (hl : Among [.regs, .ntu, .ple] fs) (h : Changes fs x₀ b) :
    Changes fs x₀ (failOutcomeWritten k err b) := by
  unfold failOutcomeWritten
  repeat'
    first
      | with_reducible exact h | (with_reducible refine hl.mono ?_) <;> rfl
      | (with_reducible refine hl.mem ?_) <;> rfl | with_reducible apply setEnding_frame
      | with_reducible apply memoryFault?_frame | split

theorem leaveEnded_frame {fs : List Fld} {x₀ b : Block} (hl : Among [.cap] fs) (h : Changes fs x₀ b) :
    Changes fs x₀ (leaveEnded b) := setCap_frame _ hl h

theorem freePlan_frame {fs : List Fld} {x₀ b : Block} (t : Taken)
    (hl : Among [.ntu, .ple, .focus, .zmap, .afu, .cap, .due] fs) (h : Changes fs x₀ b) :
    Changes fs x₀ (freePlan t b) := by
  unfold freePlan
  repeat'
    first
      | with_reducible exact h | (with_reducible refine hl.mono ?_) <;> rfl
      | (with_reducible refine hl.mem ?_) <;> rfl | with_reducible apply setPle_frame
      | with_reducible apply raise_frame | with_reducible apply requestLook_frame
      | with_reducible apply stopIfFree_frame | with_reducible apply retrack_frame
      | with_reducible apply leaveEnded_frame | extract_lets c1 c2 c3 | dsimp only [c1] | dsimp only [c2]
      | dsimp only [c3] | split

theorem finalWritten_frame {fs : List Fld} {x₀ b : Block} (k : PlanKind) (err : Bool)
    (hl : Among [.regs, .ntu, .ple, .focus, .zmap, .afu, .cap, .due] fs) (h : Changes fs x₀ b) :
    Changes fs x₀ (finalWritten k err b) := by
  unfold finalWritten
  repeat'
    first
      | with_reducible exact h | (with_reducible refine hl.mono ?_) <;> rfl
      | (with_reducible refine hl.mem ?_) <;> rfl | with_reducible apply freePlan_frame
      | with_reducible apply memoryFault?_frame | split

theorem mirrorStart_frame {fs : List Fld} {x₀ b : Block} (hl : Among [.ple] fs) (h : Changes fs x₀ b) :
    Changes fs x₀ (mirrorStart b) := by
  unfold mirrorStart
  repeat'
    first
      | with_reducible exact h | (with_reducible refine hl.mono ?_) <;> rfl
      | (with_reducible refine hl.mem ?_) <;> rfl | with_reducible apply setPle_frame | split

theorem mirrorHeadWritten_frame {fs : List Fld} {x₀ b : Block} (err : Bool)
    (hl : Among [.regs, .ntu, .ple] fs) (h : Changes fs x₀ b) :
    Changes fs x₀ (mirrorHeadWritten err b) := by
  unfold mirrorHeadWritten
  repeat'
    first
      | with_reducible exact h | (with_reducible refine hl.mono ?_) <;> rfl
      | (with_reducible refine hl.mem ?_) <;> rfl | with_reducible apply memoryFault?_frame
      | with_reducible apply setPle_frame | extract_lets c1 | dsimp only [c1] | split

theorem mirrorBodyWritten_frame {fs : List Fld} {x₀ b : Block} (err : Bool)
    (hl : Among [.regs, .ntu, .ple, .fsu] fs) (h : Changes fs x₀ b) :
    Changes fs x₀ (mirrorBodyWritten err b) := by
  unfold mirrorBodyWritten
  repeat'
    first
      | with_reducible exact h | (with_reducible refine hl.mono ?_) <;> rfl
      | (with_reducible refine hl.mem ?_) <;> rfl | with_reducible apply memoryFault?_frame
      | with_reducible apply releasePWrites_frame | with_reducible apply setPle_frame | extract_lets c1
      | dsimp only [c1] | split

theorem mirrorTailWritten_frame {fs : List Fld} {x₀ b : Block} (err : Bool)
    (hl : Among [.regs, .ntu, .ple, .due] fs) (h : Changes fs x₀ b) :
    Changes fs x₀ (mirrorTailWritten err b) := by
  unfold mirrorTailWritten
  repeat'
    first
      | with_reducible exact h | (with_reducible refine hl.mono ?_) <;> rfl
      | (with_reducible refine hl.mem ?_) <;> rfl | with_reducible apply memoryFault?_frame
      | with_reducible apply setPle_frame | with_reducible apply markDue_frame | extract_lets c1 c2
      | dsimp only [c1] | dsimp only [c2] | split

theorem abortEffects_frame {fs : List Fld} {x₀ b : Block} (k : PlanKind)
    (hl : Among [.ntu, .ple, .ftu, .exu, .zoom, .focus, .iris, .ldu, .zmap, .afu, .cap, .fsu, .due] fs) (h : Changes fs x₀ b) :
    Changes fs x₀ (abortEffects k b) := by
  unfold abortEffects
  repeat'
    first
      | with_reducible exact h | (with_reducible refine hl.mono ?_) <;> rfl
      | (with_reducible refine hl.mem ?_) <;> rfl | with_reducible apply zoomAbort_frame
      | with_reducible apply focusAbort_frame | with_reducible apply searchStop_frame
      | with_reducible apply referenceAbort_frame | with_reducible apply capAbort_frame
      | with_reducible apply tablesAbort_frame | split

theorem abortClass_frame {fs : List Fld} {x₀ b : Block} (c : PClass)
    (hl : Among [.ntu, .ple, .ftu, .exu, .zoom, .focus, .iris, .ldu, .zmap, .afu, .cap, .fsu, .due] fs) (h : Changes fs x₀ b) :
    Changes fs x₀ (abortClass c b) := by
  unfold abortClass
  repeat'
    first
      | with_reducible exact h | (with_reducible refine hl.mono ?_) <;> rfl
      | (with_reducible refine hl.mem ?_) <;> rfl | with_reducible apply abortEffects_frame
      | with_reducible apply setEnding_frame | split

theorem writeWbase_frame {fs : List Fld} {x₀ b : Block} (v : Word) (hl : Among [.regs] fs) (h : Changes fs x₀ b) :
    Changes fs x₀ (writeWbase v b) := by
  unfold writeWbase
  repeat'
    first
      | with_reducible exact h | (with_reducible refine hl.mono ?_) <;> rfl
      | (with_reducible refine hl.mem ?_) <;> rfl | split | with_reducible refine changes_regs ?_ ?_

theorem writeWlimit_frame {fs : List Fld} {x₀ b : Block} (v : Word) (hl : Among [.regs] fs) (h : Changes fs x₀ b) :
    Changes fs x₀ (writeWlimit v b) := by
  unfold writeWlimit
  repeat'
    first
      | with_reducible exact h | (with_reducible refine hl.mono ?_) <;> rfl
      | (with_reducible refine hl.mem ?_) <;> rfl | split | with_reducible refine changes_regs ?_ ?_

theorem readCause_frame {fs : List Fld} {x₀ b : Block} (hl : Among [.regs, .ntu] fs) (h : Changes fs x₀ b) :
    Changes fs x₀ (readCause b) := by
  unfold readCause
  try dsimp only
  exact fun f hf => by cases f <;> first | exact h _ hf | exact absurd (hl.mem rfl) hf

theorem clearFault_frame {fs : List Fld} {x₀ b : Block} (hl : Among [.regs] fs) (h : Changes fs x₀ b) :
    Changes fs x₀ (clearFault b) := by
  unfold clearFault
  repeat'
    first
      | with_reducible exact h | (with_reducible refine hl.mono ?_) <;> rfl
      | (with_reducible refine hl.mem ?_) <;> rfl | split | with_reducible refine changes_regs ?_ ?_

end Sys2Proof.Machine
end

