-- ==== Sys2Proof/Laws/Shared.lean ====
section
/-!
SUPPORT. For each shared operation, one lemma that says once everything it can do; a proof about a command cites these and
unfolds no operation.
-/

namespace Sys2Proof.Machine

/-! ### Commands -/

/-- An ordinary command answers the next state, with the due steps taken first and the queue as it was. -/
theorem act_eq (f : Block → Block) (s : State) : act f s = .next { s with toBlock := f (settle s.toBlock) } := rfl

/-- The command of a step that is due. -/
theorem actDue_due {d : DueStep} {f : Block → Block} {s : State} (h : d ∈ s.due) :
    actDue d f s = .next { s with toBlock := f (dropDue d s.toBlock) } := by
  unfold actDue
  rw [if_pos h]

/-- The command of a step that is not due. -/
theorem actDue_not_due {d : DueStep} {f : Block → Block} {s : State} (h : d ∉ s.due) : actDue d f s = .next s := by
  unfold actDue
  rw [if_neg h]

/-- A step with a command at the front of the queue. -/
theorem step_cons {s : State} {c : Instr} {rest : List Instr} (h : s.pending = c :: rest) :
    step s = exec c { s with pending := rest } := by
  unfold step
  rw [h]

/-- A step with an empty queue. -/
theorem step_nil {s : State} (h : s.pending = []) : step s = .next s := by
  unfold step
  rw [h]

/-! ### The memory port -/

/-- An access inside the window is issued at the window base plus its offset. -/
theorem accessAddr_inside {b : Block} {o n : Nat} (h : o + n ≤ b.regs.wlimit.toNat * 4096) :
    accessAddr b o n = some (b.regs.wbase.toNat * 4096 + o) := by
  have : inWindow b o n = true := by
    simp only [inWindow, windowBytes, Config.pageBytes]
    exact decide_eq_true h
  simp [accessAddr, this, windowBase, Config.pageBytes]

/-- An access that crosses the end of the window is not issued. -/
theorem accessAddr_outside {b : Block} {o n : Nat} (h : b.regs.wlimit.toNat * 4096 < o + n) : accessAddr b o n = none := by
  have : inWindow b o n = false := by
    simp only [inWindow, windowBytes, Config.pageBytes]
    exact decide_eq_false (by omega)
  simp [accessAddr, this]

/-- What a read gives back. -/
theorem ReadAcc.result_none {a : ReadAcc} (h : a.addr = none) (r : ReadResp) : a.result r = .error .window := by
  unfold ReadAcc.result
  rw [h]

theorem ReadAcc.result_error {a : ReadAcc} {x : Nat} (h : a.addr = some x) : a.result .error = .error .readError := by
  unfold ReadAcc.result
  rw [h]

theorem ReadAcc.result_data {a : ReadAcc} {x : Nat} (h : a.addr = some x) (bs : List Byte) :
    a.result (.data bs) = .ok bs := by
  unfold ReadAcc.result
  rw [h]

/-- The fault of an answered write. -/
theorem WriteAcc.fault_none {a : WriteAcc} (h : a.addr = none) (err : Bool) : a.fault err = some .window := by
  unfold WriteAcc.fault
  rw [h]

theorem WriteAcc.fault_some {a : WriteAcc} {x : Nat} (h : a.addr = some x) (err : Bool) :
    a.fault err = if err then some .writeError else none := by
  unfold WriteAcc.fault
  rw [h]

/-- A write answered without an error leaves no memory fault. -/
theorem memoryFault?_ok {a : WriteAcc} {x : Nat} (h : a.addr = some x) (o : Nat) (b : Block) :
    memoryFault? (a.fault false) o b = b := by
  rw [WriteAcc.fault_some h]
  rfl

/-! ### Flags and faults -/

/-- A cause at level 0 sets no flag. -/
theorem setFlag_level_zero {c : Cause} {n : Ntu} (h : levelOf n c = 0) : setFlag c n = n := by
  unfold setFlag
  rw [if_pos h]

/-- A cause at another level sets its flag alone. -/
theorem setFlag_level_pos {c : Cause} {n : Ntu} (h : levelOf n c ≠ 0) :
    setFlag c n = { n with flags := n.flags ||| causeMask c } := by
  unfold setFlag
  rw [if_neg h]

/-- The first fault is latched; later ones only set MORE. -/
theorem latchIn_clear {f : FaultReg} (h : f.code = .none) (c : FaultCode) (o : Nat) :
    latchIn c o f = { code := c, offset := BitVec.ofNat 28 o, more := false } := by
  unfold latchIn
  rw [if_pos h]

theorem latchIn_held {f : FaultReg} (h : f.code ≠ .none) (c : FaultCode) (o : Nat) :
    latchIn c o f = { f with more := true } := by
  unfold latchIn
  rw [if_neg h]

/-! ### Requests -/

/-- A request of a look: dropped with RUN clear, pending while a look is in progress, else a look is due. -/
theorem requestLook_stopped {b : Block} (h : b.regs.run = false) : requestLook b = b := by
  unfold requestLook
  rw [h]
  rfl

theorem requestLook_busy {b : Block} (h : b.regs.run = true) (hb : lookBusy b = true) :
    requestLook b = { b with ple := { b.ple with lookPending := true } } := by
  unfold requestLook
  rw [h, hb]
  rfl

theorem requestLook_free {b : Block} (h : b.regs.run = true) (hb : lookBusy b = false) :
    requestLook b = markDue .lookStart b := by
  unfold requestLook
  rw [h, hb]
  rfl

/-- A request of a mirror rewrite: pending while one is in progress, else one is due. -/
theorem requestMirror_busy {b : Block} (hb : mirrorBusy b = true) :
    requestMirror b = { b with ple := { b.ple with rewritePending := true } } := by
  unfold requestMirror
  rw [hb]
  rfl

theorem requestMirror_free {b : Block} (hb : mirrorBusy b = false) : requestMirror b = markDue .mirrorStart b := by
  unfold requestMirror
  rw [hb]
  rfl

/-! ### Endings -/

/-- A report by an owner whose plan is not taken, or whose plan is already past its report, finds nothing to do. -/
theorem endPlan_not_taken {b : Block} {k : PlanKind} (h : takenOf b k = none) (fin : FinalState) (o : PlanOutcome)
    (word area : List Byte) : endPlan k fin o word area b = b := by
  unfold endPlan
  rw [h]

/-- A plan that runs ends as its owner reports. -/
theorem endPlan_running {b : Block} {k : PlanKind} {t : Taken} (h : takenOf b k = some t) (hr : t.ending = .running)
    (fin : FinalState) (o : PlanOutcome) (word area : List Byte) :
    endPlan k fin o word area b = startEnding t fin o word area b := by
  unfold endPlan
  rw [h]
  simp [hr]

/-- A plan that an abort made finishing ends CANCELLED with outcome OK. -/
theorem endPlan_cancelling {b : Block} {k : PlanKind} {t : Taken} (h : takenOf b k = some t)
    (hr : t.ending = .cancelling) (fin : FinalState) (o : PlanOutcome) (word area : List Byte) :
    endPlan k fin o word area b = startEnding t .cancelled .ok word area b := by
  unfold endPlan
  rw [h]
  simp [hr]

/-- An ending that begins: the plan is in its results, with the three writes outstanding. -/
theorem startEnding_takenOf {b : Block} {k : PlanKind} {t : Taken} (h : takenOf b k = some t) (fin : FinalState)
    (o : PlanOutcome) (word area : List Byte) :
    ∃ e : EndingProg,
      takenOf (startEnding t fin o word area b) k = some { t with ending := .results e } ∧ e.fin = fin ∧
      e.outstanding =
        [(.outcome, writeAt b (t.offset + 3) (leBytes 1 o.code)), (.word, writeAt b (t.offset + 12) word),
         (.area, writeAt b (t.offset + 40) area)] := by
  have hk : t.kind = k := by simpa using List.find?_some h
  have hm : ∀ c, takenOf (requestMirror c) k = takenOf c k := by
    intro c
    unfold requestMirror markDue takenOf
    (repeat' split) <;> rfl
  refine ⟨{ fin := fin
            outstanding :=
              [(.outcome, writeAt b (t.offset + offOutcome) (leBytes 1 o.code)),
               (.word, writeAt b (t.offset + offResultWord) word), (.area, writeAt b (t.offset + offResultArea) area)]
            failed := none, failWrite := .notIssued, tails := tailsToWait b }, (hm _).trans ?_, rfl, rfl⟩
  unfold takenOf setEnding at *
  dsimp only
  generalize b.ple.taken = l at h ⊢
  induction l with
  | nil => cases h
  | cons x l ih =>
    rw [List.find?_cons] at h
    cases hx : x.kind == k with
    | true =>
      rw [hx] at h
      cases h
      rw [List.map_cons, if_pos rfl, List.find?_cons, hx]
    | false =>
      rw [hx] at h
      have hxt : ¬x.kind = t.kind := by
        rw [hk]
        exact beq_eq_false_iff_ne.1 hx
      rw [List.map_cons, if_neg hxt, List.find?_cons, hx]
      exact ih h

/-! ### Moves -/

/-- A move given to an axis that is not referenced is refused and changes nothing. -/
theorem startMove_not_referenced {b : Block} {ax : Axis} (h : (axisOf b ax).referenced = false) (g : Giver) (t : Int) :
    startMove ax g t b = (b, some .notReferenced) := by
  unfold startMove
  rw [if_pos h]

/-- A move given to a referenced axis at a low supply is refused with LENS_FAULT. -/
theorem startMove_supply_low {b : Block} {ax : Axis} (h : (axisOf b ax).referenced = true)
    (hs : supplyIsLow b ax = true) (g : Giver) (t : Int) :
    startMove ax g t b = (raise .lensFault b, some .supplyLow) := by
  unfold startMove
  simp [h, hs]

/-- Any other move starts. -/
theorem startMove_started {b : Block} {ax : Axis} (h : (axisOf b ax).referenced = true)
    (hs : supplyIsLow b ax = false) (g : Giver) (t : Int) :
    startMove ax g t b = (putAxis ax (startedAxis b ax g t) b, none) := by
  unfold startMove
  simp [h, hs]

/-- Replacing the zoom axis, or the focus axis where it does not leave IDLE, changes that axis alone. -/
theorem putAxis_zoom (a : AxisUnit) (b : Block) : putAxis .zoom a b = { b with zoom := a } := rfl

theorem putAxis_focus {a : AxisUnit} {b : Block} (h : b.focus.state ≠ .idle ∨ a.state = .idle) :
    putAxis .focus a b = { b with focus := a } := by
  unfold putAxis
  rw [if_neg]
  · rfl
  · rintro ⟨_, h1, h2⟩
    exact h.elim (fun h => h h1) (fun h => h2 h)

/-- Replacing the focus axis where it leaves IDLE also spoils the candidates. -/
theorem putAxis_focus_leaves {a : AxisUnit} {b : Block} (h : b.focus.state = .idle) (ha : a.state ≠ .idle) :
    putAxis .focus a b = spoilCandidates { b with focus := a } := by
  unfold putAxis
  rw [if_pos ⟨rfl, h, ha⟩]
  rfl

/-! ### The window-open notes (R169) -/

/-- While a candidate waits for its slot decision, a frame that passes removes no note. -/
theorem dropPassedNotes_pending {b : Block} {f : StoreFrame} (k : Word) (hc : b.fsu.cur = some f) (hf : f.slot = none) :
    dropPassedNotes k b = b := by
  simp [dropPassedNotes, slotPending, hc, hf]

/-- With no such candidate, a frame that passes removes its note and those below. -/
theorem dropPassedNotes_free {b : Block} (k : Word) (h : ¬∃ f, b.fsu.cur = some f ∧ f.slot = none) :
    dropPassedNotes k b = pruneNotes k b := by
  have hp : slotPending b = false := by
    cases hc : b.fsu.cur with
    | none => simp [slotPending, hc]
    | some f =>
      cases hs : f.slot with
      | none => exact absurd ⟨f, hc, hs⟩ h
      | some _ => simp [slotPending, hc, hs]
  simp [dropPassedNotes, hp]

/-- What the writing of lines leaves of the notes, of the position that the filling frame took from them, and of the
stats-ready events that wait. -/
def SameNotes (b b' : Block) : Prop :=
  b'.fsu.notes = b.fsu.notes ∧ b'.fsu.cur.map (·.focusOpen) = b.fsu.cur.map (·.focusOpen) ∧ b'.fsu.inbox = b.fsu.inbox

theorem SameNotes.refl (b : Block) : SameNotes b b := ⟨rfl, rfl, rfl⟩

theorem SameNotes.trans {a b c : Block} (h : SameNotes a b) (g : SameNotes b c) : SameNotes a c :=
  ⟨g.1.trans h.1, g.2.1.trans h.2.1, g.2.2.trans h.2.2⟩

theorem issueBurst_notes {b b' : Block} (h : issueBurst b = some b') : SameNotes b b' := by
  unfold issueBurst at h
  split at h <;> try contradiction
  rename_i f pool l rest hc _ _
  split at h <;> try contradiction
  split at h
  · contradiction
  · dsimp only at h
    injection h with h
    subst h
    split_ifs <;> simp [SameNotes, lineWritten, memoryFault_fsu, hc]

theorem issueBursts_notes (n : Nat) (b : Block) : SameNotes b (issueBursts n b) := by
  induction n generalizing b with
  | zero => exact SameNotes.refl b
  | succ n ih =>
    unfold issueBursts
    split
    · exact SameNotes.refl b
    · rename_i b' hb
      exact (issueBurst_notes hb).trans (ih b')

theorem checkAnswered_notes (b : Block) : SameNotes b (checkAnswered b) := by
  unfold checkAnswered
  split
  · exact SameNotes.refl b
  · rename_i f hc
    split_ifs
    · exact ⟨rfl, by simp [hc], rfl⟩
    · exact SameNotes.refl b

theorem tryPublish_notes (b : Block) : SameNotes b (tryPublish b) := by
  unfold tryPublish
  split
  · exact SameNotes.refl b
  · split
    · exact SameNotes.refl b
    · split_ifs
      · exact ⟨rfl, rfl, rfl⟩
      · exact SameNotes.refl b

theorem pump_notes (b : Block) : SameNotes b (pump b) :=
  ((issueBursts_notes _ b).trans (checkAnswered_notes _)).trans (tryPublish_notes _)

/-! ### Releases and frame-end (R28, R33, R143, R172) -/

/-- Retiring removes the retired entries of the pipeline and touches nothing of the frame store. -/
theorem retire_pipeline (b : Block) : (retire b).ftu.pipeline = b.ftu.pipeline.filter fun e => !e.retired := by
  unfold retire markDue
  dsimp only
  (repeat' split) <;> rfl

theorem retire_fsu (b : Block) : (retire b).fsu = b.fsu := by
  unfold retire markDue
  dsimp only
  (repeat' split) <;> rfl

theorem recordRelease_fsu (k : Word) (b : Block) : (recordRelease k b).fsu = b.fsu := retire_fsu _

theorem meterRelease_fsu (k : Word) (b : Block) : (meterRelease k b).fsu = b.fsu := retire_fsu _

/-- A metering release keeps the entry of its frame while the record release is out. -/
theorem entryOf_meterRelease {b : Block} {k : Word} (h : ∀ en, entryOf b k = some en → en.recordReleased = false) :
    entryOf (meterRelease k b) k = (entryOf b k).map fun e => { e with meterReleased := true } := by
  unfold entryOf meterRelease at *
  rw [retire_pipeline]
  simp only [setFtu]
  generalize b.ftu.pipeline = l at h ⊢
  induction l with
  | nil => rfl
  | cons x l ih =>
    rw [List.find?_cons] at h
    cases hx : x.k == k with
    | true =>
      rw [hx] at h
      have hr := h x rfl
      have hk : x.k = k := eq_of_beq hx
      rw [List.map_cons, if_pos hk, List.filter_cons_of_pos (by simp [Entry.retired, hr]), List.find?_cons,
        List.find?_cons]
      dsimp only
      rw [hx]
      rfl
    | false =>
      rw [hx] at h
      have hk : ¬x.k = k := beq_eq_false_iff_ne.1 hx
      rw [List.map_cons, if_neg hk, List.filter_cons, List.find?_cons, hx]
      split
      · rw [List.find?_cons, hx]
        exact ih h
      · exact ih h

/-- The frame-end at the frame store leaves its list of stats-ready events. -/
theorem storeFrameEnd_inbox (k : Word) (cut : Bool) (state : SbuState) (peak : Nat) (b : Block) :
    (storeFrameEnd k cut state peak b).fsu.inbox = b.fsu.inbox := by
  unfold storeFrameEnd
  split
  · split
    · dsimp only
      split
      · exact (pump_notes _).2.2
      · rw [recordRelease_fsu]
        rfl
    · rw [recordRelease_fsu]
  · rw [recordRelease_fsu]

theorem storeLineEnd_inbox (b : Block) : (storeLineEnd b).fsu.inbox = b.fsu.inbox := by
  unfold storeLineEnd
  split
  · split
    · exact (pump_notes _).2.2
    · rfl
  · rfl

/-- A slot is given: the frame takes its note, else keeps the position it holds, and the notes up to it are removed. -/
theorem giveSlot_notes (f : StoreFrame) (pool : Pool) (b : Block) :
    (giveSlot f pool b).fsu.notes = b.fsu.notes.filter (fun n => frameAbove n.k f.k) ∧
    (giveSlot f pool b).fsu.cur.map (·.focusOpen) = some ((noteOf b f.k).getD f.focusOpen) := by
  unfold giveSlot
  extract_lets b1 b2 b3 count
  have hs := pump_notes (pruneNotes f.k (setCond .slotWait false b2))
  have hc : b3.cap = b2.cap := pump_frame (Among.refl [.regs, .ntu, .fsu]) (Changes.refl _ _) .cap (by decide)
  have hd : ∀ c, capDrain c b3 = setCap (fun x => { x with state := .draining, endCause := some (mergeCause x.endCause c) }) b3 :=
    fun c => if_pos ((congrArg Cap.filling hc).trans rfl)
  have hb : SameNotes (pruneNotes f.k (setCond .slotWait false b2))
      (if count ≠ 0 ∧ b3.cap.reserved = count then capDrain .ok b3 else b3) := by
    split
    · rw [hd]; exact hs
    · exact hs
  exact ⟨hb.1.trans (by simp [pruneNotes, b2, b1]), hb.2.1.trans (by simp [pruneNotes, b2, b1])⟩

/-- No slot is given: the frame leaves, and the notes up to it are removed. -/
theorem noSlot_notes {f : StoreFrame} {b : Block} (hc : b.fsu.cur = some f) (hf : f.slot = none) :
    (noSlot f b).fsu.notes = b.fsu.notes.filter (fun n => frameAbove n.k f.k) ∧ (noSlot f b).fsu.cur = none := by
  have hw : (withdrawRequest b).fsu.cur = none ∧ (withdrawRequest b).fsu.notes = b.fsu.notes := by
    simp [withdrawRequest, hc, hf]
  unfold noSlot
  extract_lets b1
  have h1 : b1.fsu.cur = none ∧ b1.fsu.notes = b.fsu.notes.filter (fun n => frameAbove n.k f.k) := by
    simp [b1, pruneNotes, hw]
  have hd : (capDrain .short b1).fsu = b1.fsu := by
    unfold capDrain
    extract_lets b2
    split
    · rfl
    · have hx : withdrawRequest b2 = b2 := by
        have : b2.fsu.cur = none := h1.1
        simp [withdrawRequest, this]
      rw [hx]
      exact capFinish_frame (Among.refl _) (Changes.refl _ _) .fsu (by decide)
  split
  · rw [hd]; exact h1.symm
  · exact h1.symm

/-- A frame on the stride that is skipped for want of an entry or while a slot is taken or awaited. -/
theorem capFrameStart_skip {k : Word} {b : Block} {p : CapParams} (jump : Bool) (hp : b.cap.prm = some p)
    (hs : b.cap.state = .storing) (on : (k - b.cap.kFirst).toNat % p.stride = 0) (h : entryOf b k = none ∨ b.cap.filling = true ∨ b.fsu.cur ≠ none) :
    capFrameStart k jump b = dropPassedNotes k (skipOther b) := by
  have ho : ¬(k - b.cap.kFirst).toNat % ((b.cap.prm.map (·.stride)).getD 1) ≠ 0 := by rw [hp]; exact not_not.2 on
  have hk : (entryOf b k).isNone ∨ b.cap.filling = true ∨ b.fsu.cur.isSome :=
    h.imp Option.isNone_iff_eq_none.2 (.imp id Option.isSome_iff_ne_none.2)
  unfold capFrameStart
  rw [hs]
  unfold candidate
  exact (if_neg ho).trans (if_pos hk)

end Sys2Proof.Machine
end

