-- ==== Sys2Proof/Laws/Axis.lean ====
section
/-!
SUPPORT. The operations on one axis, each said once: what replacing, braking, failing and reporting leave in the axis unit and in
the flags.
-/

namespace Sys2Proof.Machine

/-! ### Flags -/

/-- Setting a cause's flag clears none. -/
theorem flagOf_setFlag_mono {c d : Cause} {n : Ntu} (h : flagOf n c = true) : flagOf (setFlag d n) c = true := by
  unfold setFlag
  split <;> simp_all [flagOf]

/-- A cause at level 1 or more sets its flag. -/
theorem flagOf_setFlag {c : Cause} {n : Ntu} (h : levelOf n c ≠ 0) : flagOf (setFlag c n) c = true := by
  rw [setFlag_level_pos h]
  cases c <;> simp [flagOf, causeMask, Cause.bit]

/-- Setting a flag leaves the levels and the conditions. -/
theorem levelOf_setFlag (c d : Cause) (n : Ntu) : levelOf (setFlag d n) c = levelOf n c := by
  unfold setFlag
  split <;> rfl

theorem condOf_setFlag (c : Cond) (d : Cause) (n : Ntu) : condOf (setFlag d n) c = condOf n c := by
  unfold setFlag
  split <;> cases c <;> rfl

/-! ### Axis units -/

theorem axisOf_raise (ax : Axis) (c : Cause) (b : Block) : axisOf (raise c b) ax = axisOf b ax := by cases ax <;> rfl

theorem axisOf_putAxis (ax : Axis) (a : AxisUnit) (b : Block) : axisOf (putAxis ax a b) ax = a := by
  cases ax
  · rfl
  · unfold putAxis
    split <;> rfl

theorem axisOf_brake (ax : Axis) (v : Bool) (b : Block) : axisOf (brake ax v b) ax = braked b ax v := axisOf_putAxis _ _ _

theorem putAxis_ntu (ax : Axis) (a : AxisUnit) (b : Block) : (putAxis ax a b).ntu = b.ntu :=
  putAxis_frame ax a (Among.refl _) (Changes.refl _ b) .ntu (by decide)

theorem brake_ntu (ax : Axis) (v : Bool) (b : Block) : (brake ax v b).ntu = b.ntu := putAxis_ntu _ _ _

/-! ### Reports -/

theorem endPlan_focus (k : PlanKind) (f : FinalState) (o : PlanOutcome) (w a : List Byte) (b : Block) :
    (endPlan k f o w a b).focus = b.focus :=
  endPlan_frame k f o w a (Among.refl _) (Changes.refl _ b) .focus (by decide)

/-- Without a move on the focus axis, tracking that changes leaves the axis alone. -/
theorem retrack_focus {b : Block} (t : Bool) (h : b.focus.move = none) : (retrack t b).focus = b.focus := by
  unfold retrack stopTracking trackingMove
  split
  · split <;> rfl
  · split
    · split
      · rfl
      · simp [h]
    · rfl

theorem reportFailed_ntu (g : Giver) (o d : PlanOutcome) (t : Int) (e : Nat) (b : Block) :
    (reportFailed g o d t e b).ntu = b.ntu :=
  reportFailed_frame g o d t e (Among.refl _) (Changes.refl _ b) .ntu (by decide)

theorem reportFailed_zoom (g : Giver) (o d : PlanOutcome) (t : Int) (e : Nat) (b : Block) :
    (reportFailed g o d t e b).zoom = b.zoom :=
  reportFailed_frame g o d t e (Among.refl _) (Changes.refl _ b) .zoom (by decide)

/-- A failed move is reported once its axis has no move: the report leaves the focus axis alone. -/
theorem reportFailed_focus {b : Block} (g : Giver) (o d : PlanOutcome) (t : Int) (e : Nat) (h : b.focus.move = none) :
    (reportFailed g o d t e b).focus = b.focus := by
  unfold reportFailed
  split
  · exact endPlan_focus ..
  · exact endPlan_focus ..
  · exact searchMoveFailed_frame o d (Among.refl _) (Changes.refl _ b) .focus (by decide)
  · rfl
  · exact retrack_focus _ h

/-! ### Failures -/

/-- A move that fails leaves its axis braked and raises LENS_FAULT, and no other cause. -/
theorem failMove_axis {ax : Axis} {b : Block} {m : Move} (h : (axisOf b ax).move = some m) (o d : PlanOutcome) :
    axisOf (failMove ax o d b) ax = braked b ax (decide (o ≠ .encoderFault)) := by
  have hb := axisOf_brake ax (decide (o ≠ .encoderFault)) b
  unfold failMove
  simp only [h]
  cases ax
  · simp only [axisOf] at *
    rw [reportFailed_zoom]
    exact hb
  · simp only [axisOf] at *
    rw [reportFailed_focus]
    · exact hb
    · simp only [raise]
      rw [hb]
      rfl

theorem failMove_ntu {ax : Axis} {b : Block} {m : Move} (h : (axisOf b ax).move = some m) (o d : PlanOutcome) :
    (failMove ax o d b).ntu = setFlag .lensFault b.ntu := by
  unfold failMove
  simp only [h]
  rw [reportFailed_ntu]
  simp only [raise, brake_ntu]

theorem axisOf_refFail (ax : Axis) (o : PlanOutcome) (b : Block) : axisOf (refFail o b) ax = axisOf b ax := by
  cases ax
  · exact refFail_frame o (Among.refl _) (Changes.refl _ b) .zoom (by decide)
  · exact refFail_frame o (Among.refl _) (Changes.refl _ b) .focus (by decide)

/-- A reference search that fails leaves its axis braked. -/
theorem searchFail_axis {ax : Axis} {b : Block} {r : RefSearch} (h : (axisOf b ax).search = some r) (o : PlanOutcome) :
    axisOf (searchFail ax o b) ax = braked b ax false := by
  unfold searchFail
  simp only [h]
  rw [axisOf_refFail, axisOf_brake]

/-- An axis that has no move keeps its unit when limits and tracking follow its reference. -/
theorem axisOf_referenceChanged {ax : Axis} {b : Block} (h : ax = .zoom ∨ b.focus.move = none) :
    axisOf (referenceChanged ax b) ax = axisOf b ax := by
  cases ax
  · exact referenceChanged_frame .zoom (Among.refl _) (Changes.refl _ b) .zoom (by decide)
  · exact retrack_focus _ (h.resolve_left (by decide))

/-- What following a change of the reference leaves of an axis: its counts and reference; an axis in BRAKING stays so, and one
without a search gets none. -/
def SameReference (a a' : AxisUnit) : Prop :=
  a'.counter = a.counter ∧ a'.refCount = a.refCount ∧ a'.refOffset = a.refOffset ∧ a'.referenced = a.referenced ∧
  (a.search = none → a'.search = none) ∧ (a.state = .braking → a'.state = .braking)

theorem SameReference.refl (a : AxisUnit) : SameReference a a := ⟨rfl, rfl, rfl, rfl, id, id⟩

theorem brake_sameReference (ax : Axis) (v : Bool) (b : Block) :
    SameReference (axisOf b ax) (axisOf (brake ax v b) ax) := by
  rw [axisOf_brake]
  exact ⟨rfl, rfl, rfl, rfl, fun _ => rfl, fun _ => rfl⟩

theorem retrack_sameReference (t : Bool) (b : Block) : SameReference b.focus (retrack t b).focus := by
  unfold retrack
  split
  · split <;> exact SameReference.refl _
  · split
    · dsimp only
      split
      · exact SameReference.refl _
      · unfold stopTracking
        split
        · exact brake_sameReference .focus _ _
        · exact SameReference.refl _
    · exact SameReference.refl _

theorem referenceChanged_sameReference (ax : Axis) (b : Block) :
    SameReference (axisOf b ax) (axisOf (referenceChanged ax b) ax) := by
  cases ax
  · have h : (referenceChanged .zoom b).zoom = b.zoom :=
      referenceChanged_frame .zoom (Among.refl _) (Changes.refl _ b) .zoom (by decide)
    simp only [axisOf, h]
    exact SameReference.refl _
  · exact retrack_sameReference _ _

theorem referenceChanged_ntu (ax : Axis) (b : Block) : (referenceChanged ax b).ntu = b.ntu :=
  referenceChanged_frame ax (Among.refl _) (Changes.refl _ b) .ntu (by decide)

end Sys2Proof.Machine
end

