-- ==== Sys2Proof/Laws/Commands.lean ====
section
/-!
SUPPORT. What each command answers, from the block its due steps leave (`Settles`) or, for the command of a due step, from the block
without that step. A proof about a command starts here and unfolds neither `exec` nor `settle`.
-/

namespace Sys2Proof.Machine

theorem runs_runSet {s : State} {b : Block} (hs : Settles s b) :
    Runs .runSet s (startRun b) := by
  subst hs
  rfl

theorem runs_runClear {s : State} {b : Block} (hs : Settles s b) :
    Runs .runClear s (clearRun b) := by
  subst hs
  rfl

theorem runs_wbaseWrite {s : State} {b : Block} (v : Word) (hs : Settles s b) :
    Runs (.wbaseWrite v) s (writeWbase v b) := by
  subst hs
  rfl

theorem runs_wlimitWrite {s : State} {b : Block} (v : Word) (hs : Settles s b) :
    Runs (.wlimitWrite v) s (writeWlimit v b) := by
  subst hs
  rfl

theorem runs_levelsWrite {s : State} {b : Block} (v : Word) (hs : Settles s b) :
    Runs (.levelsWrite v) s { b with ntu := writeLevels v b.ntu } := by
  subst hs
  rfl

theorem runs_causeRead {s : State} {b : Block} (hs : Settles s b) :
    Runs .causeRead s (readCause b) := by
  subst hs
  rfl

theorem runs_faultWrite {s : State} {b : Block} (v : Word) (hs : Settles s b) :
    Runs (.faultWrite v) s (clearFault b) := by
  subst hs
  rfl

theorem runs_abortZoom {s : State} {b : Block} (hs : Settles s b) :
    Runs .abortZoom s (abortClass .zoom b) := by
  subst hs
  rfl

theorem runs_abortFocus {s : State} {b : Block} (hs : Settles s b) :
    Runs .abortFocus s (abortClass .focus b) := by
  subst hs
  rfl

theorem runs_abortCapture {s : State} {b : Block} (hs : Settles s b) :
    Runs .abortCapture s (abortClass .capture b) := by
  subst hs
  rfl

theorem runs_registerWriteIgnored {s : State} {b : Block} (r : FixedReg) (v : Word) (hs : Settles s b) :
    Runs (.registerWriteIgnored r v) s b := by
  subst hs
  rfl

theorem runs_controlBlockReadDone {s : State} {b : Block} (r : ReadResp) (hs : Settles s b) :
    Runs (.controlBlockReadDone ⟨false, r⟩) s (runStartResponse r b) := by
  subst hs
  rfl

theorem runs_lookTimerExpiry {s : State} {b : Block} (hs : Settles s b) :
    Runs .lookTimerExpiry s (lookTimerExpiry b) := by
  subst hs
  rfl

theorem runs_lookStart {s : State} {b : Block} (hd : .lookStart ∈ s.due) (hb : dropDue .lookStart s.toBlock = b) :
    Runs .lookStart s (lookStart b) := by
  subst hb
  exact actDue_due hd

theorem runs_nextFieldReadDone {s : State} {b : Block} (r : ReadResp) (hs : Settles s b) :
    Runs (.nextFieldReadDone ⟨false, r⟩) s (nextResponse r b) := by
  subst hs
  rfl

theorem runs_planReadDone {s : State} {b : Block} (r : ReadResp) (hs : Settles s b) :
    Runs (.planReadDone ⟨false, r⟩) s (planResponse r b) := by
  subst hs
  rfl

theorem runs_refusalOutcomeWriteDone {s : State} {b : Block} (err : Bool) (hs : Settles s b) :
    Runs (.refusalOutcomeWriteDone ⟨false, err⟩) s (refusalOutcomeResponse err b) := by
  subst hs
  rfl

theorem runs_refusalStateWriteDone {s : State} {b : Block} (err : Bool) (hs : Settles s b) :
    Runs (.refusalStateWriteDone ⟨false, err⟩) s (refusalStateResponse err b) := by
  subst hs
  rfl

theorem runs_takenWriteError {s : State} {b : Block} (hs : Settles s b) :
    Runs .takenWriteError s (takenWriteError b) := by
  subst hs
  rfl

theorem runs_takeStreamStart {s : State} {b : Block}
    {p : PlanRec} {v : CheckVal} {q} (hs : Settles s b) (ht : takenNow b = some (p, v)) (hp : p.params = .streamStart q) :
    Runs .takeStreamStart s (take p (streamStartHandOver q v.timeoutOf) b) := by
  subst hs
  simp [Runs, exec, execTakeStreamStart, act, ht, hp]

theorem runs_takeStreamStop {s : State} {b : Block}
    {p : PlanRec} {v : CheckVal} (hs : Settles s b) (ht : takenNow b = some (p, v)) (hp : p.params = .streamStop) :
    Runs .takeStreamStop s (take p streamStopHandOver b) := by
  subst hs
  simp [Runs, exec, execTakeStreamStop, act, ht, hp]

theorem runs_takeExposure {s : State} {b : Block}
    {p : PlanRec} {v : CheckVal} {q} (hs : Settles s b) (ht : takenNow b = some (p, v)) (hp : p.params = .exposure q) :
    Runs .takeExposure s (take p (exposureTaken q) b) := by
  subst hs
  simp [Runs, exec, execTakeExposure, act, ht, hp]

theorem runs_takeStabOn {s : State} {b : Block}
    {p : PlanRec} {v : CheckVal} {q} (hs : Settles s b) (ht : takenNow b = some (p, v)) (hp : p.params = .stabOn q) :
    Runs .takeStabOn s (take p (stabOnHandOver q v.timeoutOf) b) := by
  subst hs
  simp [Runs, exec, execTakeStabOn, act, ht, hp]

theorem runs_takeStabOff {s : State} {b : Block}
    {p : PlanRec} {v : CheckVal} (hs : Settles s b) (ht : takenNow b = some (p, v)) (hp : p.params = .stabOff) :
    Runs .takeStabOff s (take p stabOffHandOver b) := by
  subst hs
  simp [Runs, exec, execTakeStabOff, act, ht, hp]

theorem runs_takeZoom {s : State} {b : Block}
    (m : Msense) {p : PlanRec} {v : CheckVal} {t} {tracking} (hs : Settles s b) (ht : takenNow b = some (p, v))
    (hp : p.params = .zoom t tracking) :
    Runs (.takeZoom m) s (take p (zoomHandOver t tracking) (setMsense m b)) := by
  subst hs
  simp [Runs, exec, execTakeZoom, act, ht, hp]

theorem runs_takeFocus {s : State} {b : Block}
    (m : Msense) {p : PlanRec} {v : CheckVal} {t} (hs : Settles s b) (ht : takenNow b = some (p, v))
    (hp : p.params = .focus t) :
    Runs (.takeFocus m) s (take p (focusHandOver t) (setMsense m b)) := by
  subst hs
  simp [Runs, exec, execTakeFocus, act, ht, hp]

theorem runs_takeAfSearch {s : State} {b : Block}
    (m : Msense) {p : PlanRec} {v : CheckVal} {q} (hs : Settles s b) (ht : takenNow b = some (p, v))
    (hp : p.params = .afSearch q) :
    Runs (.takeAfSearch m) s (take p (searchHandOver q) (setMsense m b)) := by
  subst hs
  simp [Runs, exec, execTakeAfSearch, act, ht, hp]

theorem runs_takeReference {s : State} {b : Block}
    (m : Msense) {p : PlanRec} {v : CheckVal} {q} (hs : Settles s b) (ht : takenNow b = some (p, v))
    (hp : p.params = .reference q) :
    Runs (.takeReference m) s (take p (referenceHandOver q) (setMsense m b)) := by
  subst hs
  simp [Runs, exec, execTakeReference, act, ht, hp]

theorem runs_takeCapture {s : State} {b : Block}
    {p : PlanRec} {v : CheckVal} {q} (hs : Settles s b) (ht : takenNow b = some (p, v)) (hp : p.params = .capture q) :
    Runs .takeCapture s (take p (captureHandOver p.tag q v.poolOf) b) := by
  subst hs
  simp [Runs, exec, execTakeCapture, act, ht, hp]

theorem runs_takeTables {s : State} {b : Block}
    {p : PlanRec} {v : CheckVal} {q} (hs : Settles s b) (ht : takenNow b = some (p, v)) (hp : p.params = .tables q) :
    Runs .takeTables s (take p (tablesHandOver q) b) := by
  subst hs
  simp [Runs, exec, execTakeTables, act, ht, hp]

theorem runs_takeSync {s : State} {b : Block}
    {p : PlanRec} {v : CheckVal} (hs : Settles s b) (ht : takenNow b = some (p, v)) (hp : p.params = .sync) :
    Runs .takeSync s (take p syncHandOver b) := by
  subst hs
  simp [Runs, exec, execTakeSync, act, ht, hp]

theorem runs_endingResultsWriteDone {s : State} {b : Block}
    (k : PlanKind) (w : ResultWrite) (err : Bool) (hs : Settles s b) :
    Runs (.endingResultsWriteDone k w ⟨false, err⟩) s (resultWritten k w err b) := by
  subst hs
  rfl

theorem runs_endingFailureOutcomeWriteDone {s : State} {b : Block} (k : PlanKind) (err : Bool) (hs : Settles s b) :
    Runs (.endingFailureOutcomeWriteDone k ⟨false, err⟩) s (failOutcomeWritten k err b) := by
  subst hs
  rfl

theorem runs_finalStateWriteDone {s : State} {b : Block} (k : PlanKind) (err : Bool) (hs : Settles s b) :
    Runs (.finalStateWriteDone k ⟨false, err⟩) s (finalWritten k err b) := by
  subst hs
  rfl

theorem runs_mirrorRewriteStart {s : State} {b : Block}
    (hd : .mirrorStart ∈ s.due) (hb : dropDue .mirrorStart s.toBlock = b) :
    Runs .mirrorRewriteStart s (mirrorStart b) := by
  subst hb
  exact actDue_due hd

theorem runs_mirrorHeadWriteDone {s : State} {b : Block} (err : Bool) (hs : Settles s b) :
    Runs (.mirrorHeadWriteDone ⟨false, err⟩) s (mirrorHeadWritten err b) := by
  subst hs
  rfl

theorem runs_mirrorBodyWriteDone {s : State} {b : Block} (err : Bool) (hs : Settles s b) :
    Runs (.mirrorBodyWriteDone ⟨false, err⟩) s (mirrorBodyWritten err b) := by
  subst hs
  rfl

theorem runs_mirrorTailWriteDone {s : State} {b : Block} (err : Bool) (hs : Settles s b) :
    Runs (.mirrorTailWriteDone ⟨false, err⟩) s (mirrorTailWritten err b) := by
  subst hs
  rfl

theorem runs_frameSync {s : State} {b : Block} (count : Nat) (swapFirst : Bool) (hs : Settles s b) :
    Runs (.frameSync count swapFirst) s (frameSync count swapFirst b) := by
  subst hs
  rfl

theorem runs_lineSync {s : State} {b : Block} (px : List Pixel) (hs : Settles s b) :
    Runs (.lineSync px) s (lineSync px b) := by
  subst hs
  rfl

theorem runs_syncTimerExpiry {s : State} {b : Block} (hs : Settles s b) :
    Runs .syncTimerExpiry s (syncTimeout b) := by
  subst hs
  rfl

theorem runs_periodCounterLimit {s : State} {b : Block} (hs : Settles s b) :
    Runs .periodCounterLimit s (periodLimit b) := by
  subst hs
  rfl

theorem runs_settingsAck {s : State} {b : Block} (hs : Settles s b) :
    Runs .settingsAck s (acknowledge b) := by
  subst hs
  rfl

theorem runs_dueEntryCreate {s : State} {b : Block} (hd : .dueEntry ∈ s.due) (hb : dropDue .dueEntry s.toBlock = b) :
    Runs .dueEntryCreate s (makeDueEntry b) := by
  subst hb
  exact actDue_due hd

theorem runs_streamStopComplete {s : State} {b : Block}
    (hd : .streamStop ∈ s.due) (hb : dropDue .streamStop s.toBlock = b) :
    Runs .streamStopComplete s (streamStopComplete b) := by
  subst hb
  exact actDue_due hd

theorem runs_metering {s : State} {b : Block} (hs : Settles s b) :
    Runs .metering s (metering b) := by
  subst hs
  rfl

theorem runs_afuStatsReady {s : State} {b : Block} (m : Msense) (hs : Settles s b) :
    Runs (.afuStatsReady m) s (afuHandle (setMsense m b)) := by
  subst hs
  rfl

theorem runs_fsuStatsReady {s : State} {b : Block} (hs : Settles s b) :
    Runs .fsuStatsReady s (storeStats b) := by
  subst hs
  rfl

theorem runs_inputFilterAccept {s : State} {b : Block} (ax : Axis) (pa pb ref : Option Bool) (hs : Settles s b) :
    Runs (.inputFilterAccept ax pa pb ref) s (filterAccept ax pa pb ref b) := by
  subst hs
  rfl

theorem runs_controlPeriodExpiry {s : State} {b : Block}
    (ax : Axis) (m : Msense) (first : MoveCheck) (hs : Settles s b) :
    Runs (.controlPeriodExpiry ax m first) s (controlExpiry ax first (setMsense m b)) := by
  subst hs
  rfl

theorem runs_brakingEnd {s : State} {b : Block}
    (ax : Axis) (hd : (.braking ax) ∈ s.due) (hb : dropDue (.braking ax) s.toBlock = b) :
    Runs (.brakingEnd ax) s (brakingEnd ax b) := by
  subst hb
  exact actDue_due hd

theorem runs_moveSettled {s : State} {b : Block}
    (ax : Axis) (hd : (.settled ax) ∈ s.due) (hb : dropDue (.settled ax) s.toBlock = b) :
    Runs (.moveSettled ax) s (moveDone ax b) := by
  subst hb
  exact actDue_due hd

theorem runs_stallStop {s : State} {b : Block}
    (ax : Axis) (hd : (.stall ax) ∈ s.due) (hb : dropDue (.stall ax) s.toBlock = b) :
    Runs (.stallStop ax) s (failMove ax .stall .stall b) := by
  subst hb
  exact actDue_due hd

theorem runs_supplyLowStop {s : State} {b : Block}
    (ax : Axis) (hd : (.supply ax) ∈ s.due) (hb : dropDue (.supply ax) s.toBlock = b) :
    Runs (.supplyLowStop ax) s (supplyStop ax b) := by
  subst hb
  exact actDue_due hd

theorem runs_refNoMotion {s : State} {b : Block}
    (ax : Axis) (hd : (.noMotion ax) ∈ s.due) (hb : dropDue (.noMotion ax) s.toBlock = b) :
    Runs (.refNoMotion ax) s (searchFail ax .refFail b) := by
  subst hb
  exact actDue_due hd

theorem runs_moveTimerExpiry {s : State} {b : Block} (ax : Axis) (hs : Settles s b) :
    Runs (.moveTimerExpiry ax) s (moveTimeout ax b) := by
  subst hs
  rfl

theorem runs_pwmPeriodStart {s : State} {b : Block} (ax : Axis) (hs : Settles s b) :
    Runs (.pwmPeriodStart ax) s (pwmStart ax b) := by
  subst hs
  rfl

theorem runs_irisStep {s : State} {b : Block} (m : Msense) (hs : Settles s b) :
    Runs (.irisStep m) s (irisStep (setMsense m b)) := by
  subst hs
  rfl

theorem runs_tablesReadDone {s : State} {b : Block} (r : ReadResp) (hs : Settles s b) :
    Runs (.tablesReadDone ⟨false, r⟩) s (tablesResponse r b) := by
  subst hs
  rfl

theorem runs_traceWriteDone {s : State} {b : Block} (i : Nat) (err : Bool) (hs : Settles s b) :
    Runs (.traceWriteDone i ⟨false, err⟩) s (traceResponse i err b) := by
  subst hs
  rfl

theorem runs_gyroPacket {s : State} {b : Block} (p : BitVec 40) (hs : Settles s b) :
    Runs (.gyroPacket p) s (gyroPacket p b) := by
  subst hs
  rfl

theorem runs_gyroPacketDiscard {s : State} {b : Block} (reasserted : Bool) (hs : Settles s b) :
    Runs (.gyroPacketDiscard reasserted) s (gyroDiscard reasserted b) := by
  subst hs
  rfl

theorem runs_gyroTimerExpiry {s : State} {b : Block} (hs : Settles s b) :
    Runs .gyroTimerExpiry s (gyroTimeout b) := by
  subst hs
  rfl

theorem runs_centeringDone {s : State} {b : Block} (hd : .centering ∈ s.due) (hb : dropDue .centering s.toBlock = b) :
    Runs .centeringDone s (centeringDone b) := by
  subst hb
  exact actDue_due hd

theorem runs_gyroRecovered {s : State} {b : Block} (hd : .recovered ∈ s.due) (hb : dropDue .recovered s.toBlock = b) :
    Runs .gyroRecovered s (gyroRecover b) := by
  subst hb
  exact actDue_due hd

theorem runs_panFlagChange {s : State} {b : Block}
    (r : Rot) (hd : (.pan r) ∈ s.due) (hb : dropDue (.pan r) s.toBlock = b) :
    Runs (.panFlagChange r) s (panChange r b) := by
  subst hb
  exact actDue_due hd

theorem runs_saturationHoldEnd {s : State} {b : Block}
    (r : Rot) (hd : (.hold r) ∈ s.due) (hb : dropDue (.hold r) s.toBlock = b) :
    Runs (.saturationHoldEnd r) s (holdEnd r b) := by
  subst hb
  exact actDue_due hd

theorem runs_captureMaxWait {s : State} {b : Block}
    (hd : .captureMaxWait ∈ s.due) (hb : dropDue .captureMaxWait s.toBlock = b) :
    Runs .captureMaxWait s (capMaxWait b) := by
  subst hb
  exact actDue_due hd

theorem runs_qReadDone {s : State} {b : Block} (r : ReadResp) (hs : Settles s b) :
    Runs (.qReadDone ⟨false, r⟩) s (qResponse r b) := by
  subst hs
  rfl

theorem runs_burstResponse {s : State} {b : Block} (i : Nat) (err : Bool) (hs : Settles s b) :
    Runs (.burstResponse i ⟨false, err⟩) s (burstResponse i err b) := by
  subst hs
  rfl

theorem runs_recordWriteDone {s : State} {b : Block} (err : Bool) (hs : Settles s b) :
    Runs (.recordWriteDone ⟨false, err⟩) s (recordResponse err b) := by
  subst hs
  rfl

theorem runs_pWriteDone {s : State} {b : Block} (err : Bool) (hs : Settles s b) :
    Runs (.pWriteDone ⟨false, err⟩) s (pResponse err b) := by
  subst hs
  rfl

theorem runs_takingCheckReadDone {s : State} {b : Block} (r : ReadResp) (hs : Settles s b) :
    Runs (.takingCheckReadDone ⟨false, r⟩) s (checkResponse r b) := by
  subst hs
  rfl

/-- A response to an access issued before the last reset is discarded: the due steps are taken, and nothing else changes (R20,
log 32). -/
theorem runs_late {i : Instr} {s : State} {b : Block} (hi : i.isLate = true) (hs : Settles s b) : Runs i s b := by
  subst hs
  cases i with
  | controlBlockReadDone a | nextFieldReadDone a | planReadDone a | tablesReadDone a | qReadDone a | takingCheckReadDone a =>
    obtain ⟨late, resp⟩ := a
    obtain rfl : late = true := hi
    rfl
  | refusalOutcomeWriteDone a | refusalStateWriteDone a | mirrorHeadWriteDone a | mirrorBodyWriteDone a
  | mirrorTailWriteDone a | recordWriteDone a | pWriteDone a | endingResultsWriteDone _ _ a
  | endingFailureOutcomeWriteDone _ a | finalStateWriteDone _ a | traceWriteDone _ a | burstResponse _ a =>
    obtain ⟨late, err⟩ := a
    obtain rfl : late = true := hi
    rfl
  | _ => exact absurd hi (by simp [Instr.isLate])

end Sys2Proof.Machine
end

