-- ==== Sys2Proof/Laws/KeptBase.lean ====
section
/-!
SUPPORT. What every operation of the block keeps: the window bounds, RUN (but for the operations of the chain), and the
invariant `Block.Inv`. One lemma per operation, in the order of the files of Machine/; a proof about a command cites the
lemma of the operation it calls.
-/

namespace Sys2Proof.Machine

/-- From a to b the window bounds stay, and a good block stays good. -/
structure KeptPort (a b : Block) : Prop where
  wbase : b.regs.wbase = a.regs.wbase
  wlimit : b.regs.wlimit = a.regs.wlimit
  inv : a.Inv → b.Inv

/-- From a to b the window bounds and RUN stay, and a good block stays good. -/
structure Kept (a b : Block) : Prop where
  wbase : b.regs.wbase = a.regs.wbase
  wlimit : b.regs.wlimit = a.regs.wlimit
  run : b.regs.run = a.regs.run
  inv : a.Inv → b.Inv

theorem Kept.refl (b : Block) : Kept b b := ⟨rfl, rfl, rfl, id⟩

theorem Kept.trans {a b c : Block} (h : Kept a b) (g : Kept b c) : Kept a c :=
  ⟨g.wbase.trans h.wbase, g.wlimit.trans h.wlimit, g.run.trans h.run, g.inv ∘ h.inv⟩

theorem Kept.port {a b : Block} (h : Kept a b) : KeptPort a b := ⟨h.wbase, h.wlimit, h.inv⟩

theorem KeptPort.refl (b : Block) : KeptPort b b := ⟨rfl, rfl, id⟩

theorem KeptPort.trans {a b c : Block} (h : KeptPort a b) (g : KeptPort b c) : KeptPort a c :=
  ⟨g.wbase.trans h.wbase, g.wlimit.trans h.wlimit, g.inv ∘ h.inv⟩

theorem KeptPort.step {a b c : Block} (h : KeptPort a b) (g : Kept b c) : KeptPort a c := h.trans g.port

/-! ### Updates of one field -/

section Fields
variable {a b : Block} (h : Kept a b)
include h

theorem kept_exu (x : Exu) : Kept a { b with exu := x } := h.trans ⟨rfl, rfl, rfl, id⟩
theorem kept_stu (x : Stu) : Kept a { b with stu := x } := h.trans ⟨rfl, rfl, rfl, id⟩
theorem kept_zoom (x : AxisUnit) (hx : TargetOk b.zoom b.zmap.zoomLim → TargetOk x b.zmap.zoomLim) :
    Kept a { b with zoom := x } :=
  h.trans ⟨rfl, rfl, rfl, fun ⟨h1, h2, h3, h4, h5, h6, h7⟩ => ⟨h1, h2, h3, h4, h5, h6, hx h7.1, h7.2⟩⟩
theorem kept_focus (x : AxisUnit) (hx : TargetOk b.focus b.zmap.focusLim → TargetOk x b.zmap.focusLim) :
    Kept a { b with focus := x } :=
  h.trans ⟨rfl, rfl, rfl, fun ⟨h1, h2, h3, h4, h5, h6, h7⟩ => ⟨h1, h2, h3, h4, h5, h6, h7.1, hx h7.2⟩⟩
theorem kept_iris (x : Iris) : Kept a { b with iris := x } := h.trans ⟨rfl, rfl, rfl, id⟩
theorem kept_ldu (x : Ldu) : Kept a { b with ldu := x } := h.trans ⟨rfl, rfl, rfl, id⟩
theorem kept_zmap (x : Zmap) (hz : x.zoomLim = b.zmap.zoomLim := by rfl) (hf : x.focusLim = b.zmap.focusLim := by rfl) :
    Kept a { b with zmap := x } :=
  h.trans ⟨rfl, rfl, rfl, fun ⟨h1, h2, h3, h4, h5, h6, h7⟩ => ⟨h1, h2, h3, h4, h5, h6, hz ▸ h7.1, hf ▸ h7.2⟩⟩
theorem kept_cap (x : Cap) : Kept a { b with cap := x } := h.trans ⟨rfl, rfl, rfl, id⟩
theorem kept_due (x : List DueStep) : Kept a { b with due := x } := h.trans ⟨rfl, rfl, rfl, id⟩
theorem kept_fault (x : FaultReg) : Kept a { b with regs := { b.regs with fault := x } } :=
  h.trans ⟨rfl, rfl, rfl, id⟩
theorem kept_ntu {x : Ntu} (hx : NtuOk b.ntu → NtuOk x) : Kept a { b with ntu := x } :=
  h.trans ⟨rfl, rfl, rfl, fun ⟨h1, h2⟩ => ⟨hx h1, h2⟩⟩
theorem kept_ftu {x : Ftu} (hx : PipelineOk b.ftu → PipelineOk x) : Kept a { b with ftu := x } :=
  h.trans ⟨rfl, rfl, rfl, fun ⟨h1, h2, h3⟩ => ⟨h1, hx h2, h3⟩⟩
theorem kept_fsu {x : Fsu} (hx : StoreOk b.fsu → StoreOk x) : Kept a { b with fsu := x } :=
  h.trans ⟨rfl, rfl, rfl, fun ⟨h1, h2, h3, h4⟩ => ⟨h1, h2, hx h3, h4⟩⟩
theorem kept_sbu {x : Sbu} (hx : WindowsOk b.sbu ∧ PairOk b.sbu → WindowsOk x ∧ PairOk x) : Kept a { b with sbu := x } :=
  h.trans ⟨rfl, rfl, rfl, fun ⟨h1, h2, h3, h4, h5⟩ => ⟨h1, h2, h3, hx h4, h5⟩⟩
theorem kept_afu {x : Afu} (hx : CandidatesOk b.afu ∧ TraceOk b.afu → CandidatesOk x ∧ TraceOk x) : Kept a { b with afu := x } :=
  h.trans ⟨rfl, rfl, rfl, fun ⟨h1, h2, h3, h4, h5, h6⟩ => ⟨h1, h2, h3, h4, hx h5, h6⟩⟩
theorem kept_ple {x : Ple} (hx : ClassesOk b.ple → ClassesOk x) : Kept a { b with ple := x } :=
  h.trans ⟨rfl, rfl, rfl, fun ⟨h1, h2, h3, h4, h5, h6, h7⟩ => ⟨h1, h2, h3, h4, h5, hx h6, h7⟩⟩

theorem setStu_kept (f : Stu → Stu) : Kept a (setStu f b) := kept_stu h _
theorem setCap_kept (f : Cap → Cap) : Kept a (setCap f b) := kept_cap h _
theorem setZmap_kept (f : Zmap → Zmap) (hz : (f b.zmap).zoomLim = b.zmap.zoomLim := by rfl)
    (hf : (f b.zmap).focusLim = b.zmap.focusLim := by rfl) : Kept a (setZmap f b) := kept_zmap h _ hz hf
theorem setRef_kept (r : Option RefPlan) : Kept a (setRef r b) := kept_ldu h _
theorem setMsense_kept (m : Msense) : Kept a (setMsense m b) := kept_ldu h _
theorem setSearch_kept (s : Option Search) (hs : TraceOk b.afu → TraceOk { b.afu with search := s }) :
    Kept a (setSearch s b) := kept_afu h fun hh => ⟨hh.1, hs hh.2⟩
theorem dropDue_kept (d : DueStep) : Kept a (dropDue d b) := kept_due h _
theorem recomputeU_kept : Kept a (recomputeU b) := kept_zmap h _
theorem latchFault_kept (c : FaultCode) (o : Nat) : Kept a (latchFault c o b) := kept_fault h _
theorem setFtu_kept (f : Ftu → Ftu) (hf : PipelineOk b.ftu → PipelineOk (f b.ftu)) : Kept a (setFtu f b) := kept_ftu h hf
theorem setFsu_kept (f : Fsu → Fsu) (hf : StoreOk b.fsu → StoreOk (f b.fsu)) : Kept a (setFsu f b) := kept_fsu h hf
theorem setSbu_kept (f : Sbu → Sbu) (hf : WindowsOk b.sbu ∧ PairOk b.sbu → WindowsOk (f b.sbu) ∧ PairOk (f b.sbu)) :
    Kept a (setSbu f b) := kept_sbu h hf
theorem setAfu_kept (f : Afu → Afu) (hf : CandidatesOk b.afu ∧ TraceOk b.afu → CandidatesOk (f b.afu) ∧ TraceOk (f b.afu)) :
    Kept a (setAfu f b) :=
  kept_afu h hf
theorem setPle_kept (f : Ple → Ple) (hf : ClassesOk b.ple → ClassesOk (f b.ple)) : Kept a (setPle f b) := kept_ple h hf

theorem setAxis_kept (ax : Axis) (x : AxisUnit)
    (hx : TargetOk (axisOf b ax) (limitsOf b ax) → TargetOk x (limitsOf b ax)) : Kept a (setAxis ax x b) := by
  cases ax
  · exact kept_zoom h x hx
  · exact kept_focus h x hx

theorem markDue_kept (d : DueStep) : Kept a (markDue d b) := by
  unfold markDue
  split
  · exact h
  · exact kept_due h _

end Fields

/-! ### Lists whose sizes are bounded, and classes -/

/-- An entry dropped from the front of a full list leaves room for one more. -/
theorem length_push_le {α : Type} (l : List α) (x : α) (n : Nat) (hn : 0 < n) (h : l.length ≤ n) :
    ((if l.length < n then l else l.drop 1) ++ [x]).length ≤ n := by
  split
  · simp; omega
  · simp; omega

/-- Without the look's own plan, the classes of the taken plans do not repeat. -/
theorem ClassesOk.taken {p : Ple} (h : ClassesOk p) : (takenClasses p).Nodup := h.of_append_right

/-- A look that holds no classes. -/
theorem classesOk_of_look {p q : Ple} (h : ClassesOk p) (ht : q.taken = p.taken) (hl : lookClasses q.look = []) :
    ClassesOk q := by
  simp only [ClassesOk, hl, List.nil_append, takenClasses, ht]
  exact h.taken

/-- Changing entries of the taken-plan table but not their classes keeps the classes. -/
theorem takenClasses_map (l : List Taken) (f : Taken → Taken) (hf : ∀ t, (f t).classes = t.classes) :
    (l.map f).flatMap (·.classes) = l.flatMap (·.classes) := by
  induction l with
  | nil => rfl
  | cons x l ih => simp [hf, ih]

/-- A cause flag that is set has a level of 1 or more. -/
theorem ntuOk_setFlag (c : Cause) {n : Ntu} (h : NtuOk n) : NtuOk (setFlag c n) := by
  unfold setFlag
  split
  · exact h
  · rename_i hl
    refine ⟨h.1, fun d hd h0 => ?_⟩
    have hf := h.2 d hd h0
    have hdc : d ≠ c := fun e => hl (e ▸ h0)
    revert hf hdc
    simp only [flagOf, causeMask, BitVec.getLsbD_or]
    intro hf hdc
    rw [hf, Bool.false_or]
    cases c <;> cases d <;> first | exact absurd rfl hdc | decide

theorem ntuOk_putCond (c : Cond) (v : Bool) {n : Ntu} (h : NtuOk n) : NtuOk (putCond c v n) := by
  cases c <;> exact h

theorem ntuOk_setCondIn (c : Cond) (v : Bool) {n : Ntu} (h : NtuOk n) : NtuOk (setCondIn c v n) := by
  unfold setCondIn
  split
  · exact ntuOk_setFlag _ (ntuOk_putCond _ _ h)
  · exact ntuOk_putCond _ _ h

theorem levelIn_mask (v : Word) (c : Cause) : levelIn (v &&& levelsMask) c = levelIn v c := by
  unfold levelIn
  congr 1
  apply BitVec.eq_of_getLsbD_eq
  intro i hi
  have : levelsMask.getLsbD (4 * c.bit + i) = true := by
    revert hi
    cases c <;> intro hi <;> interval_cases i <;> decide
  simp [hi, this]

/-- The flags that a choice of causes makes: each cause's bit is its choice. -/
theorem flags_getLsbD (p : Cause → Bool) (c : Cause) :
    (allCauses.foldl (fun acc c => if p c then acc ||| causeMask c else acc) 0#8).getLsbD c.bit = p c := by
  simp only [allCauses, List.foldl]
  generalize h0 : p .planEnd = p0
  generalize h1 : p .framePublished = p1
  generalize h2 : p .slotWait = p2
  generalize h3 : p .lensFault = p3
  generalize h4 : p .gyroLost = p4
  generalize h5 : p .syncLost = p5
  generalize h6 : p .windowFault = p6
  generalize h7 : p .releaseFault = p7
  cases c <;> simp only [h0, h1, h2, h3, h4, h5, h6, h7] <;> clear h0 h1 h2 h3 h4 h5 h6 h7 <;>
    revert p0 p1 p2 p3 p4 p5 p6 p7 <;> decide +kernel

theorem ntuOk_writeLevels (v : Word) (n : Ntu) : NtuOk (writeLevels v n) := by
  refine ⟨?_, fun c _ h0 => ?_⟩
  · simp only [writeLevels]
    rw [BitVec.and_assoc]
    have : levelsMask &&& ~~~levelsMask = 0#32 := by decide
    rw [this]; simp
  · have hl : levelIn v c = 0 := by
      have h := h0
      simp only [levelOf, writeLevels, levelIn_mask] at h
      exact h
    simp only [flagOf, writeLevels]
    rw [flags_getLsbD (fun c => flagAfterLevels n v c) c]
    unfold flagAfterLevels
    simp [hl]
end Sys2Proof.Machine
end

