-- ==== Sys2Proof/Laws/Kept.lean ====
section
/-!
SUPPORT. One lemma per operation of the block: the window bounds, RUN and the invariant stay (see KeptBase.lean).
-/

set_option linter.tactic.unusedName false
set_option linter.unreachableTactic false
set_option linter.unusedTactic false

namespace Sys2Proof.Machine

/-! ### Flags.lean -/

theorem raise_kept {x₀ b : Block} (c : Cause) (h : Kept x₀ b) : Kept x₀ (raise c b) := kept_ntu h (ntuOk_setFlag c)

theorem setCond_kept {x₀ b : Block} (c : Cond) (v : Bool) (h : Kept x₀ b) : Kept x₀ (setCond c v b) :=
  kept_ntu h (ntuOk_setCondIn c v)

theorem memoryFault_kept {x₀ b : Block} (c : FaultCode) (o : Nat) (h : Kept x₀ b) : Kept x₀ (memoryFault c o b) :=
  raise_kept _ (latchFault_kept h c o)

theorem memoryFault?_kept {x₀ b : Block} (code : Option FaultCode) (offset : Nat) (h : Kept x₀ b) :
    Kept x₀ (memoryFault? code offset b) := by
  unfold memoryFault?
  repeat' first | with_reducible exact h | with_reducible apply memoryFault_kept | with_reducible exact id | split

/-! ### Ops.lean -/

theorem requestLook_kept {x₀ b : Block} (h : Kept x₀ b) : Kept x₀ (requestLook b) := by
  unfold requestLook
  split
  · split
    · exact kept_ple h id
    · exact markDue_kept h _
  · exact h

theorem requestMirror_kept {x₀ b : Block} (h : Kept x₀ b) : Kept x₀ (requestMirror b) := by
  unfold requestMirror
  split
  · exact kept_ple h id
  · exact markDue_kept h _

theorem setEnding_kept {x₀ b : Block} (k : PlanKind) (e : Ending) (h : Kept x₀ b) : Kept x₀ (setEnding k e b) := by
  refine kept_ple h fun hh => ?_
  simp only [ClassesOk, takenClasses]
  rw [takenClasses_map _ _ (fun t => by split <;> rfl)]
  exact hh

theorem startEnding_kept {x₀ b : Block} (t : Taken) (fin : FinalState) (o : PlanOutcome) (word area : List Byte)
    (h : Kept x₀ b) : Kept x₀ (startEnding t fin o word area b) := requestMirror_kept (setEnding_kept _ _ h)

theorem endPlan_kept {x₀ b : Block} (k : PlanKind) (fin : FinalState) (o : PlanOutcome) (word area : List Byte) (h : Kept x₀ b) :
    Kept x₀ (endPlan k fin o word area b) := by
  unfold endPlan
  repeat' first | with_reducible exact h | with_reducible apply startEnding_kept | with_reducible exact id | split

/-! ### Exposure.lean -/

theorem exposureHandOver_kept {x₀ b : Block} (p : ExpParams) (h : Kept x₀ b) : Kept x₀ (exposureHandOver p b) := by
  unfold exposureHandOver
  repeat' first | with_reducible exact h | with_reducible refine kept_exu ?_ _ | with_reducible exact id | split

/-! ### Lens.lean -/

theorem spoilCandidates_kept {x₀ b : Block} (h : Kept x₀ b) : Kept x₀ (spoilCandidates b) :=
  kept_afu h fun hh => ⟨by simpa [CandidatesOk] using hh.1, hh.2⟩

theorem putAxis_kept {x₀ b : Block} (ax : Axis) (a : AxisUnit) (h : Kept x₀ b)
    (ha : TargetOk (axisOf b ax) (limitsOf b ax) → TargetOk a (limitsOf b ax)) : Kept x₀ (putAxis ax a b) := by
  unfold putAxis
  split
  · exact spoilCandidates_kept (setAxis_kept h _ _ ha)
  · exact setAxis_kept h _ _ ha

/-- An axis without a move has no target to keep within limits. -/
theorem targetOk_still {a : AxisUnit} (l : Limits) (h : a.move = none) : TargetOk a l := fun hm => absurd h hm

/-- A move that goes on with the same target. -/
theorem targetOk_same {a x : AxisUnit} {l : Limits} (ht : x.target = a.target) (hm : x.move ≠ none → a.move ≠ none)
    (h : TargetOk a l) : TargetOk x l := fun hx => by rw [ht]; exact h (hm hx)

/-- A clamped target is left by the same clamp. -/
theorem clamp_clamp (x lo hi : Int) : clamp (clamp x lo hi) lo hi = clamp x lo hi := by
  simp only [clamp]
  omega

theorem brake_kept {x₀ b : Block} (ax : Axis) (faulted : Bool) (h : Kept x₀ b) : Kept x₀ (brake ax faulted b) :=
  putAxis_kept _ _ h fun _ => targetOk_still _ rfl

theorem clampTarget_kept {x₀ b : Block} (ax : Axis) (h : Kept x₀ b) : Kept x₀ (clampTarget ax b) :=
  setAxis_kept h _ _ fun _ _ => clamp_clamp ..

/-- New limits with the target clamped into them (R78). -/
theorem updateFocusLimits_kept {x₀ b : Block} (h : Kept x₀ b) : Kept x₀ (updateFocusLimits b) :=
  h.trans ⟨rfl, rfl, rfl, fun ⟨h1, h2, h3, h4, h5, h6, h7⟩ =>
    ⟨h1, h2, h3, h4, h5, h6, h7.1, fun _ => clamp_clamp ..⟩⟩

theorem updateZoomLimits_kept {x₀ b : Block} (h : Kept x₀ b) : Kept x₀ (updateZoomLimits b) :=
  h.trans ⟨rfl, rfl, rfl, fun ⟨h1, h2, h3, h4, h5, h6, h7⟩ =>
    ⟨h1, h2, h3, h4, h5, h6, fun _ => clamp_clamp .., h7.2⟩⟩

theorem stopTracking_kept {x₀ b : Block} (h : Kept x₀ b) : Kept x₀ (stopTracking b) := by
  unfold stopTracking
  repeat' first | with_reducible exact h | with_reducible apply brake_kept | with_reducible exact id | split

theorem retrack_kept {x₀ b : Block} (takeOver : Bool) (h : Kept x₀ b) : Kept x₀ (retrack takeOver b) := by
  unfold retrack
  dsimp only
  split
  · split
    · exact h
    · exact kept_zmap h _
  · split
    · split
      · exact kept_zmap h _
      · exact stopTracking_kept (kept_zmap h _)
    · exact h

/-- A move that is given leaves a good block, started or refused. -/
theorem startMove_kept {x₀ b : Block} (ax : Axis) (g : Giver) (t : Int) (h : Kept x₀ b) :
    Kept x₀ (startMove ax g t b).1 := by
  unfold startMove
  split
  · exact h
  · split
    · exact raise_kept _ h
    · exact putAxis_kept _ _ h fun _ _ => clamp_clamp ..

theorem trackFailed_kept {x₀ b : Block} (h : Kept x₀ b) : Kept x₀ (trackFailed b) := retrack_kept _ (kept_zmap h _)

theorem trackTarget_kept {x₀ b : Block} (h : Kept x₀ b) : Kept x₀ (trackTarget b) := by
  unfold trackTarget
  extract_lets z target _ b' r
  have hb : Kept x₀ b' := kept_zmap h _
  split
  · exact hb
  · split
    · exact startMove_kept _ _ _ hb
    · exact trackFailed_kept (startMove_kept _ _ _ hb)

theorem zoomMoved_kept {x₀ b : Block} (h : Kept x₀ b) : Kept x₀ (zoomMoved b) := by
  unfold zoomMoved
  repeat'
    first
      | with_reducible exact h | with_reducible apply updateFocusLimits_kept | with_reducible apply trackTarget_kept
      | with_reducible exact id | extract_lets c1 c2 | dsimp only [c1] | dsimp only [c2] | split

theorem referenceChanged_kept {x₀ b : Block} (ax : Axis) (h : Kept x₀ b) : Kept x₀ (referenceChanged ax b) := by
  unfold referenceChanged
  repeat'
    first
      | with_reducible exact h | with_reducible apply retrack_kept | with_reducible apply updateFocusLimits_kept
      | with_reducible exact id | split

theorem irisRequest_kept {x₀ b : Block} (c : Nat) (h : Kept x₀ b) : Kept x₀ (irisRequest c b) := by
  unfold irisRequest
  split
  · exact kept_iris h _
  · exact h

/-! ### Search.lean -/

theorem addCandidate_kept {x₀ b : Block} (k : Word) (h : Kept x₀ b) : Kept x₀ (addCandidate k b) :=
  kept_afu h fun hh => ⟨length_push_le _ _ _ (by decide) hh.1, hh.2⟩

theorem writeSample_kept {x₀ b : Block} (s : Search) (x : Sample) (h : Kept x₀ b) : Kept x₀ (writeSample s x b) := by
  unfold writeSample
  extract_lets i
  split
  · exact h
  · exact kept_afu h id

theorem traceOk_noSearch {a : Afu} (h : TraceOk a) : TraceOk { a with search := none } :=
  ⟨h.1, fun _ hq => by cases hq⟩

theorem traceOk_ended {a : Afu} (r : Search) (hr : r.ended ≠ none) (h : TraceOk a) :
    TraceOk { a with search := some r } :=
  ⟨h.1, fun _ hq he => absurd (Option.some.inj hq ▸ he) hr⟩

theorem searchReport_kept {x₀ b : Block} (h : Kept x₀ b) : Kept x₀ (searchReport b) := by
  unfold searchReport
  split
  · exact h
  · split
    · exact h
    · split
      · extract_lets b'
        have hb : Kept x₀ b' := by
          unfold b'
          split
          · exact recomputeU_kept h
          · exact h
        exact setSearch_kept (endPlan_kept _ _ _ _ _ hb) _ traceOk_noSearch
      · exact h

theorem traceResponse_kept {x₀ b : Block} (i : Nat) (err : Bool) (h : Kept x₀ b) :
    Kept x₀ (traceResponse i err b) := by
  unfold traceResponse
  repeat'
    first
      | with_reducible exact h | with_reducible apply searchReport_kept | with_reducible apply memoryFault?_kept
      | with_reducible apply setAfu_kept | with_reducible exact id
      | exact fun hh => by simpa [PipelineOk, StoreOk, WindowsOk, CandidatesOk] using hh | extract_lets c1
      | dsimp only [c1] | split

theorem searchEnd_kept {x₀ b : Block} (s : Search) (fin : FinalState) (o detail : PlanOutcome) (h : Kept x₀ b) :
    Kept x₀ (searchEnd s fin o detail b) :=
  searchReport_kept (setSearch_kept h _ (traceOk_ended _ nofun))

/-- A move that is given leaves the trace and the search. -/
theorem startMove_trace (ax : Axis) (g : Giver) (t : Int) (b : Block) :
    (startMove ax g t b).1.afu.trace = b.afu.trace ∧ (startMove ax g t b).1.afu.search = b.afu.search := by
  unfold startMove
  split
  · exact ⟨rfl, rfl⟩
  · split
    · exact ⟨rfl, rfl⟩
    · unfold putAxis
      cases ax <;> dsimp only <;> split <;> exact ⟨rfl, rfl⟩

theorem putAxis_setSearch (ax : Axis) (a : AxisUnit) (r : Option Search) (b : Block) :
    putAxis ax a (setSearch r b) = setSearch r (putAxis ax a b) := by
  unfold putAxis
  have hf : (setSearch r b).focus = b.focus := rfl
  rw [hf]
  split <;> cases ax <;> rfl

/-- A move that is given does not depend on the search. -/
theorem startMove_setSearch (ax : Axis) (g : Giver) (t : Int) (r : Option Search) (b : Block) :
    startMove ax g t (setSearch r b) = (setSearch r (startMove ax g t b).1, (startMove ax g t b).2) := by
  have ha : axisOf (setSearch r b) ax = axisOf b ax := by cases ax <;> rfl
  have hl : supplyIsLow (setSearch r b) ax = supplyIsLow b ax := by cases ax <;> rfl
  have hs : startedAxis (setSearch r b) ax g t = startedAxis b ax g t := by cases ax <;> rfl
  unfold startMove
  rw [ha, hl, hs, putAxis_setSearch]
  split
  · rfl
  · split <;> rfl

theorem stopTracking_setSearch (r : Option Search) (b : Block) :
    stopTracking (setSearch r b) = setSearch r (stopTracking b) := by
  have ht : trackingMove (setSearch r b) = trackingMove b := rfl
  have hb : braked (setSearch r b) .focus false = braked b .focus false := rfl
  unfold stopTracking brake
  rw [ht, hb, putAxis_setSearch]
  split <;> rfl

/-- What a search does with a move does not depend on the search that stood before. -/
theorem giveSearchMove_setSearch (s : Search) (target : Int) (r : Option Search) (b : Block) :
    giveSearchMove s target (setSearch r b) = giveSearchMove s target b := by
  unfold giveSearchMove
  rw [startMove_setSearch]
  dsimp only
  rw [stopTracking_setSearch]
  rfl

theorem giveSearchMove_kept {x₀ b : Block} (s : Search) (target : Int) (h : Kept x₀ b)
    (hs : s.phase ≠ .final → b.afu.trace.length < Config.traceLimit) : Kept x₀ (giveSearchMove s target b) := by
  unfold giveSearchMove
  extract_lets r
  split
  · refine setSearch_kept (startMove_kept _ _ _ h) _ fun ht => ⟨ht.1, fun q hq _ => ?_⟩
    obtain rfl := Option.some.inj hq
    refine ⟨fun _ => rfl, fun hp => ?_⟩
    have := hs hp
    rwa [← (startMove_trace .focus .search target b).1] at this
  · exact searchEnd_kept _ _ _ _ (stopTracking_kept (startMove_kept _ _ _ h))

theorem enterFinal_kept {x₀ b : Block} (s : Search) (target : Int) (h : Kept x₀ b) :
    Kept x₀ (enterFinal s target b) :=
  giveSearchMove_kept _ _ h fun hp => absurd rfl hp

theorem finishFine_kept {x₀ b : Block} (s : Search) (h : Kept x₀ b) : Kept x₀ (finishFine s b) := by
  unfold finishFine
  repeat'
    first
      | with_reducible exact h | with_reducible apply enterFinal_kept | with_reducible exact id
      | extract_lets c1 c2 c3 | dsimp only [c1] | dsimp only [c2] | dsimp only [c3] | split

section Room
variable {x₀ b : Block} (s : Search) (last : Int) (h : Kept x₀ b) (hr : b.afu.trace.length < Config.traceLimit)
include h hr

theorem enterFine_kept : Kept x₀ (enterFine s b) := giveSearchMove_kept _ _ h fun _ => hr

theorem fineNext_kept : Kept x₀ (fineNext s last b) := by
  unfold fineNext
  extract_lets c1 c2 c3
  split
  · exact finishFine_kept _ h
  · exact giveSearchMove_kept _ _ h fun _ => hr

theorem coarseDecide_kept : Kept x₀ (coarseDecide s last b) := by
  unfold coarseDecide
  extract_lets c1 c2
  split
  · exact enterFine_kept _ h hr
  · split
    · split
      · exact enterFinal_kept _ _ h
      · exact enterFine_kept _ h hr
    · exact giveSearchMove_kept _ _ h fun _ => hr

end Room

theorem writeSample_trace (s : Search) (x : Sample) (b : Block) :
    (writeSample s x b).afu.trace = b.afu.trace ∧ (writeSample s x b).afu.search = b.afu.search := by
  unfold writeSample
  extract_lets i
  split <;> exact ⟨rfl, rfl⟩

/-- Only a search that waits for a sample, with its move ended, takes one. -/
theorem searchSample_kept {x₀ b : Block} (s : Search) (r : StatsRecord) (h : Kept x₀ b) (hs : b.afu.search = some s)
    (hm : s.moving = false) (he : s.ended = none) : Kept x₀ (searchSample s r b) := by
  unfold searchSample
  extract_lets x below b'
  have hlen : b'.afu.trace.length = b.afu.trace.length + 1 := by
    rw [(writeSample_trace _ _ _).1]
    simp [setAfu, recordSample]
  have hsr : b'.afu.search = some s := (writeSample_trace _ _ _).2.trans hs
  have hroom : TraceOk b.afu → s.phase ≠ .final ∧ b.afu.trace.length < Config.traceLimit := fun ht => by
    have hp : s.phase ≠ .final := fun hf => by simp [((ht.2 s hs he).1 hf)] at hm
    exact ⟨hp, (ht.2 s hs he).2 hp⟩
  have hcand : b'.afu.candidates = b.afu.candidates := by
    unfold b' writeSample
    extract_lets i
    split <;> rfl
  have hkeep : ∀ a : Afu, a.candidates = b'.afu.candidates → (TraceOk b.afu → TraceOk a) →
      Kept x₀ { b' with afu := a } := fun a hc ht => by
    have : { b' with afu := a } = { b with afu := a } := by
      unfold b' writeSample
      extract_lets i
      split <;> rfl
    rw [this]
    exact kept_afu h fun hh => ⟨by rw [CandidatesOk, hc, hcand]; exact hh.1, ht hh.2⟩
  split
  · rw [enterFinal, ← giveSearchMove_setSearch _ _ none]
    refine giveSearchMove_kept _ _ (hkeep _ rfl fun ht => ⟨?_, fun _ hq => by cases hq⟩) fun hp => absurd rfl hp
    show b'.afu.trace.length ≤ _
    have := (hroom ht).2
    omega
  · rename_i hlt
    have hlt' : b'.afu.trace.length < Config.traceLimit := Nat.lt_of_not_le hlt
    have hb : Kept x₀ b' := hkeep b'.afu rfl fun ht => ⟨hlt'.le, fun q hq _ => by
      obtain rfl := Option.some.inj (hsr.symm.trans hq)
      exact ⟨fun hf => absurd hf (hroom ht).1, fun _ => hlt'⟩⟩
    split
    · exact fineNext_kept _ _ hb hlt'
    · exact coarseDecide_kept _ _ hb hlt'

theorem searchMoveDone_kept {x₀ b : Block} (h : Kept x₀ b) : Kept x₀ (searchMoveDone b) := by
  unfold searchMoveDone
  split
  · exact h
  · split
    · exact searchEnd_kept _ _ _ _ h
    · rename_i s hs _ hp
      refine setSearch_kept h _ fun ht => ⟨ht.1, fun q hq he => ?_⟩
      obtain rfl := Option.some.inj hq
      exact ⟨fun hf => absurd hf hp, fun hf => (ht.2 s hs he).2 hf⟩

theorem searchMoveFailed_kept {x₀ b : Block} (o detail : PlanOutcome) (h : Kept x₀ b) :
    Kept x₀ (searchMoveFailed o detail b) := by
  unfold searchMoveFailed
  repeat' first | with_reducible exact h | with_reducible apply searchEnd_kept | with_reducible exact id | split

theorem searchStop_kept {x₀ b : Block} (fin : FinalState) (o detail : PlanOutcome) (h : Kept x₀ b) :
    Kept x₀ (searchStop fin o detail b) := by
  unfold searchStop
  repeat'
    first
      | with_reducible exact h | with_reducible apply searchEnd_kept | with_reducible apply brake_kept
      | with_reducible exact id | split

theorem searchStreamStopped_kept {x₀ b : Block} (h : Kept x₀ b) : Kept x₀ (searchStreamStopped b) := by
  unfold searchStreamStopped
  repeat' first | with_reducible exact h | with_reducible apply searchStop_kept | with_reducible exact id | split

theorem searchHandOver_kept {x₀ b : Block} (p : AfParams) (h : Kept x₀ b) : Kept x₀ (searchHandOver p b) := by
  unfold searchHandOver
  extract_lets z up s _ _ b'
  refine giveSearchMove_kept _ _ (h.trans ⟨rfl, rfl, rfl, ?_⟩) fun _ => show 0 < 32 by decide
  rintro ⟨h1, h2, h3, h4, h5, h6⟩
  refine ⟨h1, h2, h3, h4, ⟨h5.1, show 0 ≤ 32 by decide, fun q hq _ => ?_⟩, h6⟩
  obtain rfl := Option.some.inj hq
  exact ⟨fun _ => rfl, fun _ => show 0 < 32 by decide⟩

theorem cafStart_kept {x₀ b : Block} (p : CapParams) (h : Kept x₀ b) : Kept x₀ (cafStart p b) := kept_afu h id

theorem cafFailed_kept {x₀ b : Block} (o : PlanOutcome) (h : Kept x₀ b) : Kept x₀ (cafFailed o b) :=
  h.trans ⟨rfl, rfl, rfl, id⟩

theorem cafStep_kept {x₀ b : Block} (h : Kept x₀ b) : Kept x₀ (cafStep b) := by
  unfold cafStep
  extract_lets l z t _ r
  split
  · exact kept_afu h id
  · split
    · exact kept_afu (startMove_kept _ _ _ h) id
    · exact cafFailed_kept _ (startMove_kept _ _ _ h)

theorem cafFrame_kept {x₀ b : Block} (v : Nat) (h : Kept x₀ b) : Kept x₀ (cafFrame v b) := by
  unfold cafFrame
  split
  · exact kept_afu h id
  · exact cafStep_kept (kept_afu h id)

theorem cafStop_kept {x₀ b : Block} (h : Kept x₀ b) : Kept x₀ (cafStop b) := by
  unfold cafStop
  extract_lets _ b'
  have hb : Kept x₀ b' := kept_afu h id
  split
  · split
    · exact brake_kept _ _ hb
    · exact hb
  · exact hb

theorem cleanFrame_kept {x₀ b : Block} (r : StatsRecord) (h : Kept x₀ b) : Kept x₀ (cleanFrame r b) := by
  unfold cleanFrame
  split
  · rename_i hs
    split
    · rename_i hw
      exact searchSample_kept _ _ h hs hw.1 hw.2
    · exact h
  · split
    · exact cafFrame_kept _ h
    · exact h

theorem afuHandle_kept {x₀ b : Block} (h : Kept x₀ b) : Kept x₀ (afuHandle b) := by
  unfold afuHandle
  split
  · exact h
  · extract_lets clean _ b'
    have hb : Kept x₀ b' := kept_afu h fun hh => ⟨le_trans (List.length_filter_le _ _) hh.1, hh.2⟩
    split
    · exact cleanFrame_kept _ hb
    · exact hb

/-! ### Motion.lean -/

theorem zoomReport_kept {x₀ b : Block} (fin : FinalState) (o detail : PlanOutcome) (target : Int) (expiries : Nat) (h : Kept x₀ b) :
    Kept x₀ (zoomReport fin o detail target expiries b) := by
  unfold zoomReport
  repeat' first | with_reducible exact h | with_reducible apply endPlan_kept | with_reducible exact id | split

theorem focusReport_kept {x₀ b : Block} (fin : FinalState) (o detail : PlanOutcome) (target : Int) (expiries : Nat) (h : Kept x₀ b) :
    Kept x₀ (focusReport fin o detail target expiries b) := by
  unfold focusReport
  repeat' first | with_reducible exact h | with_reducible apply endPlan_kept | with_reducible exact id | split

theorem focusDoneU_kept {x₀ b : Block} (t : FocusTarget) (h : Kept x₀ b) : Kept x₀ (focusDoneU t b) := by
  unfold focusDoneU
  split
  · exact recomputeU_kept h
  · exact kept_zmap h _

theorem reportDone_kept {x₀ b : Block} (g : Giver) (target : Int) (expiries : Nat) (h : Kept x₀ b) :
    Kept x₀ (reportDone g target expiries b) := by
  unfold reportDone
  split
  · exact zoomReport_kept _ _ _ _ _ h
  · exact focusReport_kept _ _ _ _ _ (focusDoneU_kept _ h)
  · exact searchMoveDone_kept h
  · exact kept_afu h id
  · exact h

theorem reportFailed_kept {x₀ b : Block} (g : Giver) (o detail : PlanOutcome) (target : Int) (expiries : Nat) (h : Kept x₀ b) :
    Kept x₀ (reportFailed g o detail target expiries b) := by
  unfold reportFailed
  repeat'
    first
      | with_reducible exact h | with_reducible apply zoomReport_kept | with_reducible apply focusReport_kept
      | with_reducible apply searchMoveFailed_kept | with_reducible apply cafFailed_kept
      | with_reducible apply trackFailed_kept | with_reducible exact id | split

theorem moveDone_kept {x₀ b : Block} (ax : Axis) (h : Kept x₀ b) : Kept x₀ (moveDone ax b) := by
  unfold moveDone
  repeat'
    first
      | exact fun _ => targetOk_still _ rfl | exact targetOk_same rfl id
      | with_reducible exact h | with_reducible apply reportDone_kept | with_reducible apply putAxis_kept
      | with_reducible apply trackTarget_kept | with_reducible exact id | extract_lets c1 c2 | dsimp only [c1]
      | dsimp only [c2] | split

theorem failMove_kept {x₀ b : Block} (ax : Axis) (o detail : PlanOutcome) (h : Kept x₀ b) :
    Kept x₀ (failMove ax o detail b) := by
  unfold failMove
  repeat'
    first
      | with_reducible exact h | with_reducible apply reportFailed_kept | with_reducible apply raise_kept
      | with_reducible apply brake_kept | with_reducible exact id | extract_lets c1 | dsimp only [c1] | split

theorem refEnd_kept {x₀ b : Block} (r : RefPlan) (fin : FinalState) (o : PlanOutcome) (h : Kept x₀ b) :
    Kept x₀ (refEnd r fin o b) := by
  unfold refEnd
  repeat'
    first
      | with_reducible exact h | with_reducible apply endPlan_kept | with_reducible apply setRef_kept
      | with_reducible exact id | split

theorem refFail_kept {x₀ b : Block} (o : PlanOutcome) (h : Kept x₀ b) : Kept x₀ (refFail o b) := by
  unfold refFail
  repeat'
    first
      | with_reducible exact h | with_reducible apply refEnd_kept | with_reducible apply raise_kept
      | with_reducible exact id | split

theorem searchFail_kept {x₀ b : Block} (ax : Axis) (o : PlanOutcome) (h : Kept x₀ b) :
    Kept x₀ (searchFail ax o b) := by
  unfold searchFail
  repeat'
    first
      | with_reducible exact h | with_reducible apply refFail_kept | with_reducible apply brake_kept
      | with_reducible exact id | split

theorem startSearch_kept {x₀ b : Block} (ax : Axis) (h : Kept x₀ b) : Kept x₀ (startSearch ax b) := by
  unfold startSearch
  repeat'
    first
      | exact fun _ => targetOk_still _ rfl | exact targetOk_same rfl id
      | with_reducible exact h | with_reducible apply refFail_kept | with_reducible apply referenceChanged_kept
      | with_reducible apply putAxis_kept | with_reducible exact id | split

theorem searchSucceeded_kept {x₀ b : Block} (ax : Axis) (h : Kept x₀ b) : Kept x₀ (searchSucceeded ax b) := by
  unfold searchSucceeded
  split
  · exact h
  · split
    · exact kept_iris (setRef_kept h _) _
    · exact refEnd_kept _ _ _ h

theorem takeEdge_kept {x₀ b : Block} (ax : Axis) (set : RefSet) (h : Kept x₀ b) : Kept x₀ (takeEdge ax set b) := by
  unfold takeEdge
  repeat'
    first
      | exact fun _ => targetOk_still _ rfl | exact targetOk_same rfl id
      | with_reducible exact h | with_reducible apply referenceChanged_kept | with_reducible apply clampTarget_kept
      | with_reducible apply putAxis_kept | with_reducible apply setRef_kept | with_reducible exact id
      | extract_lets c1 c2 | dsimp only [c1] | dsimp only [c2] | split

theorem addTravel_kept {x₀ b : Block} (ax : Axis) (h : Kept x₀ b) : Kept x₀ (addTravel ax b) := by
  unfold addTravel
  repeat' first | with_reducible exact h | with_reducible apply setRef_kept | with_reducible exact id | split

theorem illegalEffect_kept {x₀ b : Block} (ax : Axis) (h : Kept x₀ b) : Kept x₀ (illegalEffect ax b) := by
  unfold illegalEffect
  repeat'
    first
      | with_reducible exact h | with_reducible apply failMove_kept | with_reducible apply searchFail_kept
      | with_reducible apply refFail_kept | with_reducible apply putAxis_kept | with_reducible exact id
      | extract_lets c1 | dsimp only [c1] | split

theorem illegal_kept {x₀ b : Block} (ax : Axis) (h : Kept x₀ b) : Kept x₀ (illegal ax b) := by
  unfold illegal
  repeat'
    first
      | with_reducible exact h | with_reducible apply referenceChanged_kept
      | with_reducible apply illegalEffect_kept | with_reducible apply raise_kept
      | with_reducible apply setAxis_kept | with_reducible exact id | extract_lets c1 | dsimp only [c1] | split

theorem filterAccept_kept {x₀ b : Block} (ax : Axis) (pa pb ref : Option Bool) (h : Kept x₀ b) :
    Kept x₀ (filterAccept ax pa pb ref b) := by
  unfold filterAccept
  repeat'
    first
      | exact fun _ => targetOk_still _ rfl | exact targetOk_same rfl id
      | with_reducible exact h | with_reducible apply setAxis_kept | with_reducible apply illegal_kept
      | with_reducible apply addTravel_kept | with_reducible apply takeEdge_kept | with_reducible exact id
      | extract_lets c1 c2 c3 c4 | dsimp only [c1] | dsimp only [c2] | dsimp only [c3] | dsimp only [c4] | split

theorem bandStep_target (p : AxisBlock) (a : AxisUnit) : (bandStep p a).target = a.target := by
  unfold bandStep
  extract_lets d settle
  split <;> rfl

theorem targetOk_leaveStep (a : AxisUnit) (r : RefSearch) {l : Limits} (h : TargetOk a l) :
    TargetOk (leaveStep a r) l := by
  unfold leaveStep
  split <;> exact h

theorem moveExpiry_kept {x₀ b : Block} (ax : Axis) (first : MoveCheck) (p : AxisBlock) (m : Move) (h : Kept x₀ b)
    (hm : (axisOf b ax).move = some m) : Kept x₀ (moveExpiry ax first p m b) := by
  have hmove : (axisOf b ax).move ≠ none := by rw [hm]; exact nofun
  unfold moveExpiry
  repeat'
    first
      | exact targetOk_same rfl fun _ => hmove
      | exact targetOk_same (bandStep_target ..) fun _ => hmove
      | with_reducible exact h | with_reducible apply setAxis_kept | with_reducible apply markDue_kept
      | with_reducible apply failMove_kept | with_reducible apply putAxis_kept | with_reducible apply settle_kept
      | with_reducible exact id | extract_lets c1 c2 c3 c4 c5 c6 | dsimp only [c1] | dsimp only [c2]
      | dsimp only [c3] | dsimp only [c4] | dsimp only [c5] | dsimp only [c6] | split

theorem searchExpiry_kept {x₀ b : Block} (ax : Axis) (first : MoveCheck) (s : RefSearch) (h : Kept x₀ b) :
    Kept x₀ (searchExpiry ax first s b) := by
  unfold searchExpiry
  repeat'
    first
      | exact fun hh => targetOk_leaveStep _ _ hh
      | with_reducible exact h | with_reducible apply setAxis_kept | with_reducible apply markDue_kept
      | with_reducible apply searchFail_kept | with_reducible apply refFail_kept | with_reducible exact id
      | extract_lets c1 c2 c3 c4 | dsimp only [c1] | dsimp only [c2] | dsimp only [c3] | dsimp only [c4] | split

theorem brakingExpiry_kept {x₀ b : Block} (ax : Axis) (h : Kept x₀ b) : Kept x₀ (brakingExpiry ax b) := by
  unfold brakingExpiry
  repeat'
    first
      | with_reducible exact h | with_reducible apply setAxis_kept | with_reducible apply markDue_kept
      | with_reducible exact id | extract_lets c1 c2 | dsimp only [c1] | dsimp only [c2] | split

theorem axisExpiry_kept {x₀ b : Block} (ax : Axis) (first : MoveCheck) (h : Kept x₀ b) :
    Kept x₀ (axisExpiry ax first b) := by
  unfold axisExpiry
  repeat'
    first
      | assumption
      | with_reducible exact h | with_reducible apply moveExpiry_kept | with_reducible apply searchExpiry_kept
      | with_reducible apply brakingExpiry_kept | with_reducible exact id | extract_lets c1 | dsimp only [c1]
      | split

theorem controlExpiry_kept {x₀ b : Block} (ax : Axis) (first : MoveCheck) (h : Kept x₀ b) :
    Kept x₀ (controlExpiry ax first b) := by
  unfold controlExpiry
  repeat'
    first
      | with_reducible exact h | with_reducible apply axisExpiry_kept | with_reducible apply setAxis_kept
      | with_reducible apply zoomMoved_kept | with_reducible exact id | extract_lets c1 c2 c3 c4 | dsimp only [c1]
      | dsimp only [c2] | dsimp only [c3] | dsimp only [c4] | split

theorem brakingEnd_kept {x₀ b : Block} (ax : Axis) (h : Kept x₀ b) : Kept x₀ (brakingEnd ax b) := by
  unfold brakingEnd
  repeat'
    first
      | with_reducible exact h | with_reducible apply putAxis_kept | with_reducible apply searchSucceeded_kept
      | with_reducible exact id | extract_lets c1 c2 | dsimp only [c1] | dsimp only [c2] | split

theorem supplyStop_kept {x₀ b : Block} (ax : Axis) (h : Kept x₀ b) : Kept x₀ (supplyStop ax b) := by
  unfold supplyStop
  repeat'
    first
      | with_reducible exact h | with_reducible apply searchFail_kept | with_reducible apply failMove_kept
      | with_reducible exact id | split

theorem moveTimeout_kept {x₀ b : Block} (ax : Axis) (h : Kept x₀ b) : Kept x₀ (moveTimeout ax b) := by
  unfold moveTimeout
  repeat' first | with_reducible exact h | with_reducible apply failMove_kept | with_reducible exact id | split

theorem pwmStart_kept {x₀ b : Block} (ax : Axis) (h : Kept x₀ b) : Kept x₀ (pwmStart ax b) := by
  unfold pwmStart
  repeat' first | with_reducible exact h | with_reducible apply setAxis_kept | with_reducible exact id | split

theorem irisStep_kept {x₀ b : Block} (h : Kept x₀ b) : Kept x₀ (irisStep b) := by
  unfold irisStep
  split
  · split
    · exact startSearch_kept _ (setRef_kept (kept_iris h _) _)
    · exact kept_iris h _
  · exact h
  · exact kept_iris h _

theorem zoomHandOver_kept {x₀ b : Block} (target : Int) (tracking : Bool) (h : Kept x₀ b) :
    Kept x₀ (zoomHandOver target tracking b) := by
  unfold zoomHandOver
  extract_lets _ b1 r
  have hb : Kept x₀ b1 := retrack_kept _ (kept_zmap h _)
  split
  · exact startMove_kept _ _ _ hb
  · exact zoomReport_kept _ _ _ _ _ (startMove_kept _ _ _ hb)

theorem focusHandOver_kept {x₀ b : Block} (t : FocusTarget) (h : Kept x₀ b) : Kept x₀ (focusHandOver t b) := by
  unfold focusHandOver
  extract_lets
  split
  · exact startMove_kept _ _ _ h
  · exact focusReport_kept _ _ _ _ _ (stopTracking_kept (startMove_kept _ _ _ h))

theorem referenceHandOver_kept {x₀ b : Block} (p : RefParams) (h : Kept x₀ b) : Kept x₀ (referenceHandOver p b) := by
  unfold referenceHandOver
  repeat'
    first
      | with_reducible exact h | with_reducible apply startSearch_kept | with_reducible apply setRef_kept
      | with_reducible exact id | split

theorem abortMove_kept {x₀ b : Block} (ax : Axis) (h : Kept x₀ b) : Kept x₀ (abortMove ax b) := by
  unfold abortMove
  repeat' first | with_reducible exact h | with_reducible apply brake_kept | with_reducible exact id | split

theorem zoomAbort_kept {x₀ b : Block} (h : Kept x₀ b) : Kept x₀ (zoomAbort b) := by
  unfold zoomAbort
  repeat'
    first
      | with_reducible exact h | with_reducible apply zoomReport_kept | with_reducible apply abortMove_kept
      | with_reducible exact id | split

theorem focusAbort_kept {x₀ b : Block} (h : Kept x₀ b) : Kept x₀ (focusAbort b) := by
  unfold focusAbort
  repeat'
    first
      | with_reducible exact h | with_reducible apply focusReport_kept | with_reducible apply abortMove_kept
      | with_reducible exact id | split

theorem abortSearch_kept {x₀ b : Block} (ax : Axis) (h : Kept x₀ b) : Kept x₀ (abortSearch ax b) := by
  unfold abortSearch
  repeat' first | with_reducible exact h | with_reducible apply brake_kept | with_reducible exact id | split

theorem referenceAbort_kept {x₀ b : Block} (h : Kept x₀ b) : Kept x₀ (referenceAbort b) := by
  unfold referenceAbort
  split
  · exact h
  · extract_lets b1 _ b2
    have h1 : Kept x₀ b1 := abortSearch_kept _ (abortSearch_kept _ h)
    have h2 : Kept x₀ b2 := by
      unfold b2
      split
      · exact kept_iris h1 _
      · exact h1
    exact refEnd_kept _ _ _ h2

/-! ### Pipeline.lean -/

theorem addWindow_kept {x₀ b : Block} (k : Word) (h : Kept x₀ b) : Kept x₀ (addWindow k b) :=
  kept_sbu h fun hh => ⟨length_push_le _ _ _ (by decide) hh.1, hh.2⟩

theorem addNote_kept {x₀ b : Block} (k : Word) (h : Kept x₀ b) : Kept x₀ (addNote k b) :=
  kept_fsu h fun hh => ⟨hh.1, hh.2.1, length_push_le _ _ _ (by decide) hh.2.2⟩

theorem windowOpen_kept {x₀ b : Block} (k : Word) (h : Kept x₀ b) : Kept x₀ (windowOpen k b) := by
  unfold windowOpen
  repeat'
    first
      | with_reducible exact h | with_reducible apply addNote_kept | with_reducible apply addWindow_kept
      | with_reducible apply addCandidate_kept | with_reducible exact id | split

theorem raiseWindowOpen_kept {x₀ b : Block} (f : FrameProg) (h : Kept x₀ b) : Kept x₀ (raiseWindowOpen f b) := by
  unfold raiseWindowOpen
  repeat'
    first
      | with_reducible exact h | with_reducible apply windowOpen_kept | with_reducible apply setFtu_kept
      | with_reducible exact id | exact fun hh => by simpa [PipelineOk, StoreOk, WindowsOk, CandidatesOk] using hh
      | split

theorem lateWindowOpen_kept {x₀ b : Block} (h : Kept x₀ b) : Kept x₀ (lateWindowOpen b) := by
  unfold lateWindowOpen
  repeat' first | with_reducible exact h | with_reducible apply raiseWindowOpen_kept | with_reducible exact id | split

theorem startSend_kept {x₀ b : Block} (h : Kept x₀ b) : Kept x₀ (startSend b) := by
  unfold startSend
  split
  · exact h
  · split
    · exact h
    · exact setFtu_kept h _ fun hh => by simpa [PipelineOk] using hh

theorem acknowledge_kept {x₀ b : Block} (h : Kept x₀ b) : Kept x₀ (acknowledge b) := by
  unfold acknowledge
  split
  · exact h
  · extract_lets b'
    have hb : Kept x₀ b' := setFtu_kept h _ fun hh => by simpa [PipelineOk] using hh
    split
    · exact hb
    · exact startSend_kept hb

theorem length_insertEntry (e : Entry) (l : List Entry) : (insertEntry e l).length = l.length + 1 := by
  induction l with
  | nil => rfl
  | cons x l ih =>
    unfold insertEntry
    split
    · rfl
    · simp [ih]

/-- An entry that joins a pipeline with room. -/
theorem joinEntry_kept {x₀ b : Block} (f : StreamParams) (d : DueEntry) (hf : b.ftu.fmt = some f)
    (hl : b.ftu.pipeline.length ≤ f.latency) (h : Kept x₀ b) : Kept x₀ (joinEntry f d b) := by
  unfold joinEntry
  extract_lets b'
  have hb : Kept x₀ b' := setFtu_kept h _ fun _ => by
    simp only [PipelineOk, length_insertEntry, hf, Option.map_some, Option.getD_some]
    omega
  split
  · exact startSend_kept hb
  · exact hb

theorem callEntry_kept {x₀ b : Block} (d : DueEntry) (h : Kept x₀ b) : Kept x₀ (callEntry d b) := by
  unfold callEntry
  split
  · exact h
  · rename_i f hf
    split
    · rename_i hl
      exact joinEntry_kept f d hf hl h
    · exact setFtu_kept h _ id

theorem makeDueEntry_kept {x₀ b : Block} (h : Kept x₀ b) : Kept x₀ (makeDueEntry b) := by
  unfold makeDueEntry
  split
  · rename_i d f _ hf
    split
    · exact h
    · rename_i hn
      extract_lets b'
      have hb : Kept x₀ b' := setFtu_kept h _ id
      split
      · exact lateWindowOpen_kept (joinEntry_kept f d hf (by
          show b.ftu.pipeline.length ≤ f.latency
          have := not_or.mp hn
          omega) hb)
      · exact hb
  · exact h

theorem retire_kept {x₀ b : Block} (h : Kept x₀ b) : Kept x₀ (retire b) := by
  unfold retire
  extract_lets b'
  have hb : Kept x₀ b' := setFtu_kept h _ fun hh => le_trans (List.length_filter_le _ _) hh
  split
  · exact markDue_kept hb _
  · exact hb

theorem recordRelease_kept {x₀ b : Block} (k : Word) (h : Kept x₀ b) : Kept x₀ (recordRelease k b) := by
  unfold recordRelease
  repeat'
    first
      | with_reducible exact h | with_reducible apply retire_kept | with_reducible apply setFtu_kept
      | with_reducible exact id | exact fun hh => by simpa [PipelineOk, StoreOk, WindowsOk, CandidatesOk] using hh
      | split

theorem meterRelease_kept {x₀ b : Block} (k : Word) (h : Kept x₀ b) : Kept x₀ (meterRelease k b) := by
  unfold meterRelease
  repeat'
    first
      | with_reducible exact h | with_reducible apply retire_kept | with_reducible apply setFtu_kept
      | with_reducible exact id | exact fun hh => by simpa [PipelineOk, StoreOk, WindowsOk, CandidatesOk] using hh
      | split

theorem emptyPipeline_kept {x₀ b : Block} (h : Kept x₀ b) : Kept x₀ (emptyPipeline b) :=
  dropDue_kept (setFtu_kept h _ fun _ => Nat.zero_le _) _

theorem rekeyLate_kept {x₀ b : Block} (k : Word) (h : Kept x₀ b) : Kept x₀ (rekeyLate k b) := by
  unfold rekeyLate
  repeat'
    first
      | with_reducible exact h | with_reducible apply setFtu_kept | with_reducible apply callEntry_kept
      | with_reducible exact id | exact fun hh => by simpa [PipelineOk, StoreOk, WindowsOk, CandidatesOk] using hh
      | extract_lets c1 c2 c3 | dsimp only [c1] | dsimp only [c2] | dsimp only [c3] | split

theorem pipelineWork_kept {x₀ b : Block} (k : Word) (h : Kept x₀ b) : Kept x₀ (pipelineWork k b) := by
  unfold pipelineWork
  repeat'
    first
      | with_reducible exact h | with_reducible apply dropDue_kept | with_reducible apply setFtu_kept
      | with_reducible apply rekeyLate_kept | with_reducible apply callEntry_kept
      | with_reducible apply irisRequest_kept | with_reducible exact id
      | exact fun hh => by simpa [PipelineOk, StoreOk, WindowsOk, CandidatesOk] using hh
      | extract_lets c1 c2 c3 c4 c5 | dsimp only [c1] | dsimp only [c2] | dsimp only [c3] | dsimp only [c4]
      | dsimp only [c5] | split

/-! ### Capture.lean -/

theorem capFinish_kept {x₀ b : Block} (h : Kept x₀ b) : Kept x₀ (capFinish b) := by
  unfold capFinish
  extract_lets b1 b2 cause b3 fin b4 b5
  have h1 : Kept x₀ b1 := cafStop_kept h
  have h2 : Kept x₀ b2 := by
    unfold b2
    split
    · exact recomputeU_kept h1
    · exact h1
  have h4 : Kept x₀ b4 := endPlan_kept _ _ _ _ _ (setCap_kept h2 _)
  exact setCap_kept (setCond_kept _ _ (kept_exu h4 _)) _

theorem withdrawRequest_kept {x₀ b : Block} (h : Kept x₀ b) : Kept x₀ (withdrawRequest b) := by
  unfold withdrawRequest
  split
  · exact h
  · split
    · exact h
    · exact setFsu_kept h _ fun hh => ⟨Nat.zero_le _, hh.2⟩

theorem capDrain_kept {x₀ b : Block} (cause : PlanOutcome) (h : Kept x₀ b) : Kept x₀ (capDrain cause b) := by
  unfold capDrain
  repeat'
    first
      | with_reducible exact h | with_reducible apply setCap_kept | with_reducible apply capFinish_kept
      | with_reducible apply withdrawRequest_kept | with_reducible exact id | extract_lets c1 | dsimp only [c1]
      | split

theorem capStreamEnd_kept {x₀ b : Block} (h : Kept x₀ b) : Kept x₀ (capStreamEnd b) := by
  unfold capStreamEnd
  repeat' first | with_reducible exact h | with_reducible apply capDrain_kept | with_reducible exact id | split

theorem capAbort_kept {x₀ b : Block} (h : Kept x₀ b) : Kept x₀ (capAbort b) := by
  unfold capAbort
  repeat'
    first
      | with_reducible exact h | with_reducible apply setCap_kept | with_reducible apply capFinish_kept
      | with_reducible apply withdrawRequest_kept | with_reducible exact id | extract_lets c1 | dsimp only [c1]
      | split

theorem capPublished_kept {x₀ b : Block} (k : Word) (bus : Bool) (h : Kept x₀ b) :
    Kept x₀ (capPublished k bus b) := by
  unfold capPublished
  repeat'
    first
      | with_reducible exact h | with_reducible apply setCap_kept | with_reducible apply capDrain_kept
      | with_reducible apply capFinish_kept | with_reducible exact id | extract_lets c1 | dsimp only [c1] | split

theorem pruneNotes_kept {x₀ b : Block} (k : Word) (h : Kept x₀ b) : Kept x₀ (pruneNotes k b) :=
  setFsu_kept h _ fun hh => ⟨hh.1, hh.2.1, le_trans (List.length_filter_le _ _) hh.2.2⟩

theorem dropPassedNotes_kept {x₀ b : Block} (k : Word) (h : Kept x₀ b) : Kept x₀ (dropPassedNotes k b) := by
  unfold dropPassedNotes
  split
  · exact h
  · exact pruneNotes_kept k h

theorem skipOther_kept {x₀ b : Block} (h : Kept x₀ b) : Kept x₀ (skipOther b) := by
  unfold skipOther
  repeat' first | with_reducible exact h | with_reducible apply setCap_kept | with_reducible exact id | split

theorem candidate_kept {x₀ b : Block} (k : Word) (periodJump : Bool) (h : Kept x₀ b) :
    Kept x₀ (candidate k periodJump b) := by
  unfold candidate
  extract_lets stride
  split
  · exact dropPassedNotes_kept _ h
  · split
    · exact dropPassedNotes_kept _ (skipOther_kept h)
    · exact setFsu_kept h _ fun hh => ⟨Nat.zero_le _, hh.2⟩

theorem capBegin_kept {x₀ b : Block} (k : Word) (periodJump : Bool) (kind : StartKind) (h : Kept x₀ b) :
    Kept x₀ (capBegin k periodJump kind b) := by
  unfold capBegin
  repeat'
    first
      | with_reducible exact h | with_reducible apply candidate_kept | with_reducible apply setCap_kept
      | with_reducible exact id | split

theorem capFrameStart_kept {x₀ b : Block} (k : Word) (periodJump : Bool) (h : Kept x₀ b) :
    Kept x₀ (capFrameStart k periodJump b) := by
  unfold capFrameStart
  repeat'
    first
      | with_reducible exact h | with_reducible apply dropPassedNotes_kept | with_reducible apply capBegin_kept
      | with_reducible apply setCap_kept | with_reducible apply markDue_kept | with_reducible apply candidate_kept
      | with_reducible exact id | extract_lets c1 | dsimp only [c1] | split

theorem capMaxWait_kept {x₀ b : Block} (h : Kept x₀ b) : Kept x₀ (capMaxWait b) := by
  unfold capMaxWait
  repeat'
    first
      | with_reducible exact h | with_reducible apply capBegin_kept | with_reducible exact id | extract_lets c1
      | dsimp only [c1] | split

theorem captureHandOver_kept {x₀ b : Block} (tag : Word) (p : CapParams) (pool : Pool) (h : Kept x₀ b) :
    Kept x₀ (captureHandOver tag p pool b) := by
  unfold captureHandOver
  extract_lets _ b1 b2 _ b3
  have h2 : Kept x₀ b2 := (setCap_kept h _).trans ⟨rfl, rfl, rfl, id⟩
  have h3 : Kept x₀ b3 := by
    unfold b3
    split
    · exact kept_exu h2 _
    · exact h2
  split
  · exact cafStart_kept _ h3
  · exact h3

/-! ### Store.lean -/

theorem queuePWrite_kept {x₀ b : Block} (pub : Option Publication) (h : Kept x₀ b) : Kept x₀ (queuePWrite pub b) :=
  h.trans ⟨rfl, rfl, rfl, id⟩

theorem releasePWrites_kept {x₀ b : Block} (h : Kept x₀ b) : Kept x₀ (releasePWrites b) := setFsu_kept h _ id

theorem firstQ_kept {x₀ b : Block} (q : Word) (h : Kept x₀ b) : Kept x₀ (firstQ q b) := by
  unfold firstQ
  repeat'
    first
      | with_reducible exact h | with_reducible apply queuePWrite_kept | with_reducible apply setFsu_kept
      | with_reducible exact id | exact fun hh => by simpa [PipelineOk, StoreOk, WindowsOk, CandidatesOk] using hh
      | split

theorem lineWritten_kept {x₀ b : Block} (f : StoreFrame) (l : LineBuf) (rest : List LineBuf)
    (hl : rest.length ≤ Config.lineBufferPlaces) (h : Kept x₀ b) : Kept x₀ (lineWritten f l rest b) :=
  setFsu_kept h _ fun hh => ⟨hl, hh.2⟩

theorem tryPublish_kept {x₀ b : Block} (h : Kept x₀ b) : Kept x₀ (tryPublish b) := by
  unfold tryPublish
  split
  · exact h
  · split
    · exact h
    · split
      · exact setFsu_kept h _ id
      · exact h

/-- A burst that is issued leaves a good block. -/
theorem issueBurst_kept {b c : Block} (h : issueBurst b = some c) : Kept b c := by
  unfold issueBurst at h
  split at h
  · rename_i f pool l rest hc hp hpl
    split at h
    · exact absurd h (by simp)
    · split at h
      · exact absurd h (by simp)
      · rename_i slot _ hroom
        simp only [Option.some.injEq] at h
        subst h
        have h1 : ∀ (x : Option StoreFrame) (l' : LineBuf) (failed : Bool) (acc : WriteAcc), Kept b (setFsu (fun u => { u with
            cur := x, places := l' :: rest, wbuf := if failed then u.wbuf else u.wbuf ++ [acc] }) b) := by
          intro x l' failed acc
          refine setFsu_kept (Kept.refl b) _ fun hh => ⟨?_, ?_, hh.2.2⟩
          · have := hh.1
            rw [hpl] at this
            simpa using this
          · have h8 := hh.2.1
            show (if failed then b.fsu.wbuf else b.fsu.wbuf ++ [acc]).length ≤ _
            split
            · exact h8
            · simp only [List.length_append, List.length_singleton]
              omega
        have h2 : ∀ (x : Option StoreFrame) (l' : LineBuf) (failed : Bool) (acc : WriteAcc), Kept b
            (if failed then memoryFault .window acc.offset (setFsu (fun u => { u with
              cur := x, places := l' :: rest, wbuf := if failed then u.wbuf else u.wbuf ++ [acc] }) b)
             else setFsu (fun u => { u with
              cur := x, places := l' :: rest, wbuf := if failed then u.wbuf else u.wbuf ++ [acc] }) b) := by
          intro x l' failed acc
          cases failed
          · exact h1 x l' false acc
          · exact memoryFault_kept _ _ (h1 x l' true acc)
        split
        · exact h2 _ _ _ _
        · refine ⟨(h2 _ _ _ _).wbase, (h2 _ _ _ _).wlimit, (h2 _ _ _ _).run, fun hb => ?_⟩
          refine (lineWritten_kept _ _ _ ?_ (h2 _ _ _ _)).inv hb
          have := hb.2.2.1.1
          rw [hpl] at this
          exact le_trans (Nat.le_succ _) this
  · exact absurd h (by simp)

theorem issueBursts_kept {x₀ b : Block} (n : Nat) (h : Kept x₀ b) : Kept x₀ (issueBursts n b) := by
  induction n generalizing b with
  | zero => exact h
  | succ n ih =>
    unfold issueBursts
    split
    · exact h
    · rename_i c hc
      exact ih (h.trans (issueBurst_kept hc))

theorem checkAnswered_kept {x₀ b : Block} (h : Kept x₀ b) : Kept x₀ (checkAnswered b) := by
  unfold checkAnswered
  split
  · exact h
  · split
    · exact setFsu_kept h _ id
    · exact h

theorem pump_kept {x₀ b : Block} (h : Kept x₀ b) : Kept x₀ (pump b) :=
  tryPublish_kept (checkAnswered_kept (issueBursts_kept _ h))

theorem storeLineBegin_kept {x₀ b : Block} (k : Word) (width : Nat) (px : List Pixel) (h : Kept x₀ b) :
    Kept x₀ (storeLineBegin k width px b) := by
  unfold storeLineBegin
  repeat'
    first
      | with_reducible exact h | with_reducible apply setFsu_kept | with_reducible exact id
      | exact fun hh => by simpa [PipelineOk, StoreOk, WindowsOk, CandidatesOk] using hh | split

theorem storeLineEnd_kept {x₀ b : Block} (h : Kept x₀ b) : Kept x₀ (storeLineEnd b) := by
  unfold storeLineEnd
  split
  · split
    · rename_i hl
      extract_lets
      refine pump_kept (setFsu_kept h _ fun hh => ⟨?_, hh.2⟩)
      simp only [List.length_append, List.length_singleton]
      omega
    · exact setFsu_kept h _ id
  · exact setFsu_kept h _ id

theorem storeFrameEnd_kept {x₀ b : Block} (k : Word) (cut : Bool) (state : SbuState) (peak : Nat) (h : Kept x₀ b) :
    Kept x₀ (storeFrameEnd k cut state peak b) := by
  unfold storeFrameEnd
  repeat'
    first
      | with_reducible exact h | with_reducible apply pump_kept | with_reducible apply setFsu_kept
      | with_reducible apply recordRelease_kept | with_reducible exact id
      | exact fun hh => by simpa [PipelineOk, StoreOk, WindowsOk, CandidatesOk] using hh | split

theorem storeStats_kept {x₀ b : Block} (h : Kept x₀ b) : Kept x₀ (storeStats b) := by
  unfold storeStats
  repeat'
    first
      | with_reducible exact h | with_reducible apply setFsu_kept | with_reducible apply tryPublish_kept
      | with_reducible exact id | exact fun hh => by simpa [PipelineOk, StoreOk, WindowsOk, CandidatesOk] using hh
      | extract_lets c1 | dsimp only [c1] | split

theorem storeMetered_kept {x₀ b : Block} (k : Word) (m : Nat) (e : Int) (h : Kept x₀ b) :
    Kept x₀ (storeMetered k m e b) := by
  unfold storeMetered
  repeat'
    first
      | with_reducible exact h | with_reducible apply tryPublish_kept | with_reducible apply setFsu_kept
      | with_reducible exact id | exact fun hh => by simpa [PipelineOk, StoreOk, WindowsOk, CandidatesOk] using hh
      | split

theorem takeQ_kept {x₀ b : Block} (q : Word) (h : Kept x₀ b) : Kept x₀ (takeQ q b) := by
  unfold takeQ
  repeat'
    first
      | with_reducible exact h | with_reducible apply setFsu_kept | with_reducible apply latchFault_kept
      | with_reducible apply raise_kept | with_reducible exact id
      | exact fun hh => by simpa [PipelineOk, StoreOk, WindowsOk, CandidatesOk] using hh | extract_lets c1 c2
      | dsimp only [c1] | dsimp only [c2] | split

theorem giveSlot_kept {x₀ b : Block} (f : StoreFrame) (pool : Pool) (h : Kept x₀ b) :
    Kept x₀ (giveSlot f pool b) := by
  unfold giveSlot
  repeat'
    first
      | with_reducible exact h | with_reducible apply setFsu_kept | with_reducible apply setCap_kept
      | with_reducible apply pump_kept | with_reducible apply pruneNotes_kept | with_reducible apply setCond_kept
      | with_reducible apply capDrain_kept | with_reducible exact id
      | exact fun hh => by simpa [PipelineOk, StoreOk, WindowsOk, CandidatesOk] using hh | extract_lets c1 c2 c3 c4
      | dsimp only [c1] | dsimp only [c2] | dsimp only [c3] | dsimp only [c4] | split

theorem noSlot_kept {x₀ b : Block} (f : StoreFrame) (h : Kept x₀ b) : Kept x₀ (noSlot f b) := by
  unfold noSlot
  repeat'
    first
      | with_reducible exact h | with_reducible apply pruneNotes_kept | with_reducible apply withdrawRequest_kept
      | with_reducible apply capDrain_kept | with_reducible apply setCond_kept | with_reducible apply setCap_kept
      | with_reducible exact id | extract_lets c1 | dsimp only [c1] | split

theorem decideSlot_kept {x₀ b : Block} (k : Word) (h : Kept x₀ b) : Kept x₀ (decideSlot k b) := by
  unfold decideSlot
  repeat'
    first
      | with_reducible exact h | with_reducible apply giveSlot_kept | with_reducible apply noSlot_kept
      | with_reducible exact id | split

theorem qResponse_kept {x₀ b : Block} (r : ReadResp) (h : Kept x₀ b) : Kept x₀ (qResponse r b) := by
  unfold qResponse
  repeat'
    first
      | with_reducible exact h | with_reducible apply setFsu_kept | with_reducible apply memoryFault_kept
      | with_reducible apply takeQ_kept | with_reducible apply decideSlot_kept | with_reducible exact id
      | exact fun hh => by simpa [PipelineOk, StoreOk, WindowsOk, CandidatesOk] using hh | extract_lets c1 c2
      | dsimp only [c1] | dsimp only [c2] | split

theorem burstResponse_kept {x₀ b : Block} (i : Nat) (err : Bool) (h : Kept x₀ b) : Kept x₀ (burstResponse i err b) := by
  unfold burstResponse
  split
  · exact h
  · extract_lets b1 b2
    have h1 : Kept x₀ b1 := setFsu_kept h _ fun hh =>
      ⟨hh.1, le_trans (List.length_eraseIdx_le _ _) hh.2.1, hh.2.2⟩
    have h2 : Kept x₀ b2 := by
      unfold b2
      split
      · exact memoryFault_kept _ _ (setFsu_kept h1 _ id)
      · exact h1
    exact pump_kept h2

theorem recordResponse_kept {x₀ b : Block} (err : Bool) (h : Kept x₀ b) : Kept x₀ (recordResponse err b) := by
  unfold recordResponse
  split
  · extract_lets c b1
    have h1 : Kept x₀ b1 := memoryFault?_kept _ _ h
    exact queuePWrite_kept _ (setFsu_kept h1 _ fun hh => ⟨Nat.zero_le _, hh.2⟩)
  · exact h

theorem finishPublication_kept {x₀ b : Block} (p : Publication) (h : Kept x₀ b) :
    Kept x₀ (finishPublication p b) := by
  unfold finishPublication
  repeat'
    first
      | with_reducible exact h | with_reducible apply capPublished_kept | with_reducible apply recordRelease_kept
      | with_reducible apply raise_kept | with_reducible exact id | split

theorem pResponse_kept {x₀ b : Block} (err : Bool) (h : Kept x₀ b) : Kept x₀ (pResponse err b) := by
  unfold pResponse
  repeat'
    first
      | with_reducible exact h | with_reducible apply memoryFault?_kept | with_reducible apply setFsu_kept
      | with_reducible apply finishPublication_kept | with_reducible exact id
      | exact fun hh => by simpa [PipelineOk, StoreOk, WindowsOk, CandidatesOk] using hh | extract_lets c1
      | dsimp only [c1] | split

theorem readQ_kept {x₀ b : Block} (h : Kept x₀ b) : Kept x₀ (readQ b) := by
  unfold readQ
  repeat'
    first
      | with_reducible exact h | with_reducible apply setFsu_kept | with_reducible exact id
      | exact fun hh => by simpa [PipelineOk, StoreOk, WindowsOk, CandidatesOk] using hh | split

/-! ### Stab.lean -/

/-- A pair that may stand on the port in the state named. -/
theorem sbuOk_sendPair (p y : Int) {s : Sbu} (h : WindowsOk s) (ha : s.base = .active → p.natAbs ≤ s.prm.range ∧ y.natAbs ≤ s.prm.range)
    (hz : s.base ≠ .active → p = 0 ∧ y = 0 ∧ s.sample = none) :
    WindowsOk (sendPair p y s) ∧ PairOk (sendPair p y s) :=
  ⟨by simpa [WindowsOk, sendPair] using h, ha, hz⟩

/-- The pair 0, 0 may stand on the port in every state. -/
theorem sbuOk_sendZero {s : Sbu} (h : WindowsOk s) (hs : s.base ≠ .active → s.sample = none) :
    WindowsOk (sendPair 0 0 s) ∧ PairOk (sendPair 0 0 s) :=
  sbuOk_sendPair 0 0 h (fun _ => ⟨Nat.zero_le _, Nat.zero_le _⟩) fun ha => ⟨rfl, rfl, hs ha⟩

theorem gyroLoss_kept {x₀ b : Block} (inSeq : Nat) (h : Kept x₀ b) : Kept x₀ (gyroLoss inSeq b) :=
  setCond_kept _ _ (setSbu_kept h _ fun hh =>
    ⟨by simpa [WindowsOk, sendPair, clearRots] using hh.1, nofun, fun _ => ⟨rfl, rfl, rfl⟩⟩)

theorem lostPacket_kept {x₀ b : Block} (gap : Nat) (h : Kept x₀ b) : Kept x₀ (lostPacket gap b) := by
  unfold lostPacket
  extract_lets run b'
  have hb : Kept x₀ b' := setSbu_kept h _ fun hh => sbuOk_sendZero hh.1 fun ha => (hh.2.2 ha).2.2
  split
  · exact markDue_kept hb _
  · exact hb

theorem gyroRecover_kept {x₀ b : Block} (h : Kept x₀ b) : Kept x₀ (gyroRecover b) := by
  unfold gyroRecover
  split
  · rename_i hb
    exact setCond_kept _ _ (setSbu_kept h _ fun hh => ⟨hh.1, nofun, fun _ => hh.2.2 (by rw [hb]; decide)⟩)
  · exact h

theorem centeringPacket_kept {x₀ b : Block} (pitch yaw : Int) (h : Kept x₀ b) : Kept x₀ (centeringPacket pitch yaw b) := by
  unfold centeringPacket
  extract_lets b'
  have hb : Kept x₀ b' := setSbu_kept h _ fun hh => sbuOk_sendZero hh.1 fun ha => (hh.2.2 ha).2.2
  split
  · exact markDue_kept hb _
  · exact hb

theorem centeringDone_kept {x₀ b : Block} (h : Kept x₀ b) : Kept x₀ (centeringDone b) := by
  unfold centeringDone
  split
  · rename_i hb
    refine setSbu_kept h _ fun hh => ⟨hh.1, fun _ => ?_, fun ha => absurd rfl ha⟩
    obtain ⟨hp, hy, _⟩ := hh.2.2 (by rw [hb]; decide)
    simp only [clearRots, clearRot]
    omega
  · exact h

/-- A shift after the clamp lies within the range (R141). -/
theorem finishRot_range (p : StabParams) (h : Nat) (g : Int) (x : RotSample) (u : RotUnit) :
    (finishRot p h g x u).2.natAbs ≤ p.range := by
  simp only [finishRot, clamp]
  omega

theorem finishSample_kept {x₀ b : Block} (g : GyroSample) (h : Kept x₀ b) (hg : b.sbu.sample = some g) :
    Kept x₀ (finishSample g b) := by
  unfold finishSample
  extract_lets gain p y b1 b2
  have h1 : Kept x₀ b1 := setSbu_kept h _ fun hh =>
    sbuOk_sendPair _ _ (s := { b.sbu with pitch := p.1, yaw := y.1, sample := none }) hh.1
      (fun _ => ⟨finishRot_range .., finishRot_range ..⟩)
      fun ha => by have := (hh.2.2 ha).2.2; rw [hg] at this; cases this
  have h2 : Kept x₀ b2 := by
    unfold b2
    split
    · exact markDue_kept h1 _
    · exact h1
  split
  · exact markDue_kept h2 _
  · exact h2

theorem resumeSample_kept {x₀ b : Block} (h : Kept x₀ b) : Kept x₀ (resumeSample b) := by
  unfold resumeSample
  split
  · exact h
  · rename_i hg
    split
    · exact h
    · exact finishSample_kept _ h hg

theorem markPan_kept {x₀ b : Block} (r : Rot) (h : Kept x₀ b) : Kept x₀ (markPan r b) := by
  unfold markPan
  repeat' first | with_reducible exact h | with_reducible apply markDue_kept | with_reducible exact id | split

/-- A packet in ACTIVE leaves the pair until its sample is finished. -/
theorem activePacket_kept {x₀ b : Block} (gap : Nat) (pitch yaw : Int) (h : Kept x₀ b) (hb : b.sbu.base = .active) :
    Kept x₀ (activePacket gap pitch yaw b) :=
  resumeSample_kept (markPan_kept _ (markPan_kept _ (setSbu_kept h _ fun hh =>
    ⟨hh.1, hh.2.1, fun ha => absurd hb ha⟩)))

/-- A change of an axis that keeps its shift. -/
theorem sbuOk_setRot (r : Rot) (u : RotUnit) {s : Sbu} (hu : u.s = (rotOf s r).s) (h : WindowsOk s ∧ PairOk s) :
    WindowsOk (setRot r u s) ∧ PairOk (setRot r u s) := by
  obtain ⟨hw, ha, hz⟩ := h
  cases r
  · exact ⟨hw, fun e => ⟨hu ▸ (ha e).1, (ha e).2⟩, fun e => ⟨hu.trans (hz e).1, (hz e).2⟩⟩
  · exact ⟨hw, fun e => ⟨(ha e).1, hu ▸ (ha e).2⟩, fun e => ⟨(hz e).1, hu.trans (hz e).2.1, (hz e).2.2⟩⟩

theorem panChange_kept {x₀ b : Block} (r : Rot) (h : Kept x₀ b) : Kept x₀ (panChange r b) := by
  unfold panChange
  split
  · exact h
  · exact resumeSample_kept (setSbu_kept h _ fun hh => sbuOk_setRot _ _ rfl hh)

theorem holdEnd_kept {x₀ b : Block} (r : Rot) (h : Kept x₀ b) : Kept x₀ (holdEnd r b) :=
  setSbu_kept h _ fun hh => sbuOk_setRot _ _ rfl hh

theorem gyroPacket_kept {x₀ b : Block} (p : BitVec 40) (h : Kept x₀ b) : Kept x₀ (gyroPacket p b) := by
  unfold gyroPacket
  extract_lets b0 gap b1
  have h0 : Kept x₀ b0 := setSbu_kept h _ id
  split
  · exact h0
  · have h1 : Kept x₀ b1 := setSbu_kept h0 _ id
    split
    · exact lostPacket_kept _ h1
    · split
      · exact gyroLoss_kept _ h1
      · exact centeringPacket_kept _ _ h1
    · split
      · exact gyroLoss_kept _ h1
      · refine activePacket_kept _ _ _ h1 ?_
        show b0.sbu.base = .active
        cases hb : b0.sbu.base <;> simp_all

theorem gyroDiscard_kept {x₀ b : Block} (reasserted : Bool) (h : Kept x₀ b) : Kept x₀ (gyroDiscard reasserted b) := by
  unfold gyroDiscard
  repeat'
    first
      | with_reducible exact h | with_reducible apply setSbu_kept | with_reducible exact id
      | exact fun hh => by simpa [PipelineOk, StoreOk, WindowsOk, CandidatesOk] using hh | split

theorem gyroTimeout_kept {x₀ b : Block} (h : Kept x₀ b) : Kept x₀ (gyroTimeout b) := by
  unfold gyroTimeout
  repeat'
    first
      | with_reducible exact h | with_reducible apply setSbu_kept | with_reducible apply gyroLoss_kept
      | with_reducible exact id | exact fun hh => by simpa [PipelineOk, StoreOk, WindowsOk, CandidatesOk] using hh
      | extract_lets c1 | dsimp only [c1] | split

theorem closeWindow_kept {x₀ b : Block} (k : Word) (h : Kept x₀ b) : Kept x₀ (closeWindow k b) :=
  setSbu_kept h _ fun hh => ⟨le_trans (List.length_filter_le _ _) hh.1, hh.2⟩

theorem stabReport_kept {x₀ b : Block} (h : Kept x₀ b) : Kept x₀ (stabReport b) := by
  unfold stabReport
  repeat' first | with_reducible exact h | with_reducible apply endPlan_kept | with_reducible exact id | split

theorem clamp_natAbs (x : Int) (n : Nat) : (clamp x (-(n : Int)) n).natAbs ≤ n := by
  simp only [clamp]
  omega

theorem sbuOk_stabOnState (p : StabParams) (t : Nat) {s : Sbu} (h : WindowsOk s ∧ PairOk s) :
    WindowsOk (stabOnState p t s) ∧ PairOk (stabOnState p t s) := by
  obtain ⟨hw, ha, hz⟩ := h
  unfold stabOnState
  extract_lets s'
  split
  · rename_i hb
    exact ⟨hw, nofun, fun _ => hz (by rw [hb]; decide)⟩
  · rename_i hb
    unfold cutPair
    extract_lets a b
    split
    · rename_i hs
      refine ⟨hw, fun _ => ?_, fun e => absurd hb e⟩
      show s.pitch.s.natAbs ≤ p.range ∧ s.yaw.s.natAbs ≤ p.range
      have h1 : clamp s.pitch.s _ _ = s.pitch.s := hs.1
      have h2 : clamp s.yaw.s _ _ = s.yaw.s := hs.2
      rw [← h1, ← h2]
      exact ⟨clamp_natAbs _ _, clamp_natAbs _ _⟩
    · exact sbuOk_sendPair _ _ (s := s') hw (fun _ => ⟨clamp_natAbs _ _, clamp_natAbs _ _⟩) fun e => absurd hb e
  · rename_i _ hne
    exact ⟨hw, fun e => absurd e hne, hz⟩

theorem stabOnHandOver_kept {x₀ b : Block} (p : StabParams) (timeout : Nat) (h : Kept x₀ b) :
    Kept x₀ (stabOnHandOver p timeout b) := stabReport_kept (setSbu_kept h _ fun hh => sbuOk_stabOnState _ _ hh)

theorem stabOffHandOver_kept {x₀ b : Block} (h : Kept x₀ b) : Kept x₀ (stabOffHandOver b) :=
  stabReport_kept (setCond_kept _ _ (setSbu_kept h _ fun hh =>
    ⟨by simpa [WindowsOk, sendPair, clearRots] using hh.1, nofun, fun _ => ⟨rfl, rfl, rfl⟩⟩))

/-! ### TableLoad.lean -/

theorem tablesHandOver_kept {x₀ b : Block} (p : TablesParams) (h : Kept x₀ b) : Kept x₀ (tablesHandOver p b) := by
  unfold tablesHandOver
  repeat' first | with_reducible exact h | with_reducible refine setZmap_kept ?_ _ rfl rfl | with_reducible exact id | split

theorem adoptTables_kept {x₀ b : Block} (t : Tables) (h : Kept x₀ b) : Kept x₀ (adoptTables t b) :=
  h.trans ⟨rfl, rfl, rfl, id⟩

theorem swapTables_kept {x₀ b : Block} (frame : Option Word) (h : Kept x₀ b) : Kept x₀ (swapTables frame b) := by
  unfold swapTables
  repeat'
    first
      | with_reducible exact h | with_reducible apply endPlan_kept | with_reducible apply updateFocusLimits_kept
      | with_reducible apply updateZoomLimits_kept | with_reducible apply adoptTables_kept | split

theorem tablesFail_kept {x₀ b : Block} (o : PlanOutcome) (word : Nat) (index offset : Nat) (h : Kept x₀ b) :
    Kept x₀ (tablesFail o word index offset b) := by
  unfold tablesFail
  repeat'
    first
      | with_reducible exact h | with_reducible apply endPlan_kept | with_reducible refine setZmap_kept ?_ _ rfl rfl
      | with_reducible exact id | split

theorem validateShadow_kept {x₀ b : Block} (t : Tables) (h : Kept x₀ b) : Kept x₀ (validateShadow t b) := by
  unfold validateShadow
  repeat'
    first
      | with_reducible exact h | with_reducible apply tablesFail_kept | with_reducible refine setZmap_kept ?_ _ rfl rfl
      | with_reducible apply swapTables_kept | with_reducible exact id | extract_lets c1 | dsimp only [c1] | split

theorem tablesResponse_kept {x₀ b : Block} (r : ReadResp) (h : Kept x₀ b) : Kept x₀ (tablesResponse r b) := by
  unfold tablesResponse
  repeat'
    first
      | with_reducible exact h | with_reducible apply tablesFail_kept | with_reducible apply memoryFault_kept
      | with_reducible refine setZmap_kept ?_ _ rfl rfl | with_reducible apply validateShadow_kept
      | with_reducible apply endPlan_kept | with_reducible exact id | extract_lets c1 c2 | dsimp only [c1]
      | dsimp only [c2] | split

theorem tablesAbort_kept {x₀ b : Block} (h : Kept x₀ b) : Kept x₀ (tablesAbort b) := by
  unfold tablesAbort
  repeat'
    first
      | with_reducible exact h | with_reducible refine setZmap_kept ?_ _ rfl rfl | with_reducible apply endPlan_kept
      | with_reducible exact id | split

/-! ### Timing.lean -/

theorem statsLineBegin_kept {x₀ b : Block} (j : Nat) (px : List Pixel) (h : Kept x₀ b) :
    Kept x₀ (statsLineBegin j px b) := by
  unfold statsLineBegin
  repeat' first | with_reducible exact h | with_reducible apply setStu_kept | with_reducible exact id | split

theorem statsLineEnd_kept {x₀ b : Block} (h : Kept x₀ b) : Kept x₀ (statsLineEnd b) := by
  unfold statsLineEnd
  repeat' first | with_reducible exact h | with_reducible apply setStu_kept | with_reducible exact id | split

theorem raiseStats_kept {x₀ b : Block} (r : StatsRecord) (h : Kept x₀ b) : Kept x₀ (raiseStats r b) :=
  h.trans ⟨rfl, rfl, rfl, id⟩

theorem statsFrameEnd_kept {x₀ b : Block} (lineCount cut : Bool) (h : Kept x₀ b) :
    Kept x₀ (statsFrameEnd lineCount cut b) := by
  unfold statsFrameEnd
  repeat'
    first
      | with_reducible exact h | with_reducible apply setStu_kept | with_reducible apply raiseStats_kept
      | with_reducible exact id | extract_lets c1 | dsimp only [c1] | split

theorem statsFrameStart_kept {x₀ b : Block} (k : Word) (periodJump untimed : Bool) (h : Kept x₀ b) :
    Kept x₀ (statsFrameStart k periodJump untimed b) := by
  unfold statsFrameStart
  repeat' first | with_reducible exact h | with_reducible apply setStu_kept | with_reducible exact id | split

theorem closeEntry_kept {x₀ b : Block} (k : Word) (h : Kept x₀ b) : Kept x₀ (closeEntry k b) :=
  setFtu_kept h _ fun hh => by simpa [PipelineOk] using hh

theorem raiseFrameEnd_kept {x₀ b : Block} (k : Word) (lineCount cut : Bool) (h : Kept x₀ b) :
    Kept x₀ (raiseFrameEnd k lineCount cut b) := by
  unfold raiseFrameEnd
  repeat'
    first
      | with_reducible exact h | with_reducible apply storeFrameEnd_kept | with_reducible apply closeWindow_kept
      | with_reducible apply statsFrameEnd_kept | with_reducible apply closeEntry_kept
      | with_reducible apply setFtu_kept | with_reducible exact id
      | exact fun hh => by simpa [PipelineOk, StoreOk, WindowsOk, CandidatesOk] using hh | extract_lets c1 c2
      | dsimp only [c1] | dsimp only [c2] | split

theorem endLine_kept {x₀ b : Block} (h : Kept x₀ b) : Kept x₀ (endLine b) := by
  unfold endLine
  repeat'
    first
      | with_reducible exact h | with_reducible apply storeLineEnd_kept | with_reducible apply statsLineEnd_kept
      | with_reducible apply setFtu_kept | with_reducible exact id
      | exact fun hh => by simpa [PipelineOk, StoreOk, WindowsOk, CandidatesOk] using hh | extract_lets c1
      | dsimp only [c1] | split

theorem cutFrame_kept {x₀ b : Block} (h : Kept x₀ b) : Kept x₀ (cutFrame b) := by
  unfold cutFrame
  repeat'
    first
      | with_reducible exact h | with_reducible apply raiseFrameEnd_kept | with_reducible apply setFtu_kept
      | with_reducible exact id | exact fun hh => by simpa [PipelineOk, StoreOk, WindowsOk, CandidatesOk] using hh
      | extract_lets c1 | dsimp only [c1] | split

theorem lineFrameEnd_kept {x₀ b : Block} (fmt : StreamParams) (j : Nat) (h : Kept x₀ b) :
    Kept x₀ (lineFrameEnd fmt j b) := by
  unfold lineFrameEnd
  repeat' first | with_reducible exact h | with_reducible apply raiseFrameEnd_kept | with_reducible exact id | split

theorem lineWindowOpen_kept {x₀ b : Block} (fmt : StreamParams) (j : Nat) (h : Kept x₀ b) :
    Kept x₀ (lineWindowOpen fmt j b) := by
  unfold lineWindowOpen
  repeat' first | with_reducible exact h | with_reducible apply raiseWindowOpen_kept | with_reducible exact id | split

theorem beginLine_kept {x₀ b : Block} (fmt : StreamParams) (j : Nat) (px : List Pixel) (h : Kept x₀ b) :
    Kept x₀ (beginLine fmt j px b) := by
  unfold beginLine
  repeat'
    first
      | with_reducible exact h | with_reducible apply storeLineBegin_kept | with_reducible apply statsLineBegin_kept
      | with_reducible apply setFtu_kept | with_reducible exact id
      | exact fun hh => by simpa [PipelineOk, StoreOk, WindowsOk, CandidatesOk] using hh | split

theorem lineSync_kept {x₀ b : Block} (px : List Pixel) (h : Kept x₀ b) : Kept x₀ (lineSync px b) := by
  unfold lineSync
  repeat'
    first
      | with_reducible exact h | with_reducible apply setFtu_kept | with_reducible apply endLine_kept
      | with_reducible apply lineWindowOpen_kept | with_reducible apply beginLine_kept
      | with_reducible apply lineFrameEnd_kept | with_reducible exact id
      | exact fun hh => by simpa [PipelineOk, StoreOk, WindowsOk, CandidatesOk] using hh | extract_lets c1 c2
      | dsimp only [c1] | dsimp only [c2] | split

theorem periodLimit_kept {x₀ b : Block} (h : Kept x₀ b) : Kept x₀ (periodLimit b) := by
  unfold periodLimit
  repeat'
    first
      | with_reducible exact h | with_reducible apply setFtu_kept | with_reducible exact id
      | exact fun hh => by simpa [PipelineOk, StoreOk, WindowsOk, CandidatesOk] using hh | split

theorem frameStart_kept {x₀ b : Block} (untimed jump swapFirst : Bool) (h : Kept x₀ b) :
    Kept x₀ (frameStart untimed jump swapFirst b) := by
  unfold frameStart
  extract_lets k b0 b1 b2
  have h0 : Kept x₀ b0 := by
    unfold b0
    split
    · exact swapTables_kept _ h
    · exact h
  have h2 : Kept x₀ b2 :=
    capFrameStart_kept _ _ (readQ_kept (requestMirror_kept (statsFrameStart_kept _ _ _ (pipelineWork_kept _
      (setFtu_kept h0 _ id)))))
  split
  · exact h2
  · exact swapTables_kept _ h2

theorem finishFrame_kept {x₀ b : Block} (h : Kept x₀ b) : Kept x₀ (finishFrame b) := by
  unfold finishFrame
  repeat'
    first
      | with_reducible exact h | with_reducible apply endLine_kept | with_reducible apply raiseFrameEnd_kept
      | with_reducible apply raiseWindowOpen_kept | with_reducible exact id | extract_lets c1 c2 | dsimp only [c1]
      | dsimp only [c2] | split

theorem streamStarted_kept {x₀ b : Block} (h : Kept x₀ b) : Kept x₀ (streamStarted b) := by
  unfold streamStarted
  repeat' first | with_reducible exact h | with_reducible apply endPlan_kept | with_reducible exact id | split

theorem frameSync_kept {x₀ b : Block} (count : Nat) (swapFirst : Bool) (h : Kept x₀ b) :
    Kept x₀ (frameSync count swapFirst b) := by
  unfold frameSync
  split
  · exact h
  · exact frameStart_kept _ _ _ (setFtu_kept h _ id)
  · exact streamStarted_kept (frameStart_kept _ _ _ (setFtu_kept (finishFrame_kept h) _ id))
  · exact frameStart_kept _ _ _ (setFtu_kept (finishFrame_kept h) _ id)
  · exact frameStart_kept _ _ _ (setCond_kept _ _ (setFtu_kept h _ id))

theorem emptyWindowLists_kept {x₀ b : Block} (h : Kept x₀ b) : Kept x₀ (emptyWindowLists b) :=
  h.trans ⟨rfl, rfl, rfl, fun ⟨h1, h2, h3, h4, h5, h6⟩ =>
    ⟨h1, h2, ⟨h3.1, h3.2.1, Nat.zero_le _⟩, ⟨Nat.zero_le _, h4.2⟩, ⟨Nat.zero_le _, h5.2⟩, h6⟩⟩

theorem enterStopped_kept {x₀ b : Block} (h : Kept x₀ b) : Kept x₀ (enterStopped b) := by
  unfold enterStopped
  repeat'
    first
      | with_reducible exact h | with_reducible apply searchStreamStopped_kept
      | with_reducible apply swapTables_kept | with_reducible apply emptyWindowLists_kept
      | with_reducible apply setFtu_kept | with_reducible exact id
      | exact fun hh => by simpa [PipelineOk, StoreOk, WindowsOk, CandidatesOk] using hh | split

theorem noSync_kept {x₀ b : Block} (h : Kept x₀ b) : Kept x₀ (noSync b) := by
  unfold noSync
  repeat'
    first
      | with_reducible exact h | with_reducible apply endPlan_kept | with_reducible apply emptyPipeline_kept
      | with_reducible apply enterStopped_kept | with_reducible apply cutFrame_kept | with_reducible exact id
      | split

theorem loseStream_kept {x₀ b : Block} (h : Kept x₀ b) : Kept x₀ (loseStream b) := by
  unfold loseStream
  repeat'
    first
      | with_reducible exact h | with_reducible apply capStreamEnd_kept | with_reducible apply setCond_kept
      | with_reducible apply emptyWindowLists_kept | with_reducible apply setFtu_kept
      | with_reducible apply cutFrame_kept | with_reducible exact id
      | exact fun hh => by simpa [PipelineOk, StoreOk, WindowsOk, CandidatesOk] using hh | split

theorem syncTimeout_kept {x₀ b : Block} (h : Kept x₀ b) : Kept x₀ (syncTimeout b) := by
  unfold syncTimeout
  repeat'
    first
      | with_reducible exact h | with_reducible apply noSync_kept | with_reducible apply loseStream_kept
      | with_reducible exact id | split

theorem stopComplete_kept {x₀ b : Block} (h : Kept x₀ b) : Kept x₀ (stopComplete b) := by
  unfold stopComplete
  repeat'
    first
      | with_reducible exact h | with_reducible apply setFtu_kept | with_reducible apply emptyPipeline_kept
      | with_reducible apply endPlan_kept | with_reducible exact id
      | exact fun hh => by simpa [PipelineOk, StoreOk, WindowsOk, CandidatesOk] using hh | extract_lets c1
      | dsimp only [c1] | split

theorem stopIfFree_kept {x₀ b : Block} (h : Kept x₀ b) : Kept x₀ (stopIfFree b) := by
  unfold stopIfFree
  repeat' first | with_reducible exact h | with_reducible apply markDue_kept | with_reducible exact id | split

theorem streamStopComplete_kept {x₀ b : Block} (h : Kept x₀ b) : Kept x₀ (streamStopComplete b) := by
  unfold streamStopComplete
  repeat' first | with_reducible exact h | with_reducible apply stopComplete_kept | with_reducible exact id | split

theorem streamStopHandOver_kept {x₀ b : Block} (h : Kept x₀ b) : Kept x₀ (streamStopHandOver b) := by
  unfold streamStopHandOver
  repeat'
    first
      | with_reducible exact h | with_reducible apply endPlan_kept | with_reducible apply setCond_kept
      | with_reducible apply enterStopped_kept | with_reducible apply cutFrame_kept
      | with_reducible apply setFtu_kept | with_reducible apply stopIfFree_kept
      | with_reducible apply capStreamEnd_kept | with_reducible exact id
      | exact fun hh => by simpa [PipelineOk, StoreOk, WindowsOk, CandidatesOk] using hh | extract_lets c1 c2
      | dsimp only [c1] | dsimp only [c2] | split

theorem streamStartHandOver_kept {x₀ b : Block} (p : StreamParams) (timeout : Nat) (h : Kept x₀ b) :
    Kept x₀ (streamStartHandOver p timeout b) :=
  h.trans ⟨rfl, rfl, rfl, fun ⟨h1, _, h3⟩ => ⟨h1, by
    show (initialEntries b p).length ≤ p.latency + 1
    simp [initialEntries], h3⟩⟩

theorem metering_kept {x₀ b : Block} (h : Kept x₀ b) : Kept x₀ (metering b) := by
  unfold metering
  split
  · exact h
  · extract_lets _ b1
    have h1 : Kept x₀ b1 := kept_exu h _
    split
    · exact h1
    · split
      · split
        · exact storeMetered_kept _ _ _ (meterRelease_kept _ (kept_exu h1 _))
        · exact storeMetered_kept _ _ _ (meterRelease_kept _ h1)
      · exact storeMetered_kept _ _ _ (meterRelease_kept _ h1)

/-! ### Chain.lean -/

/-- A look stage that holds no classes. -/
theorem setLook_kept {x₀ b : Block} (l : Look) (hl : lookClasses l = []) (h : Kept x₀ b) : Kept x₀ (setLook l b) :=
  kept_ple h fun hh => classesOk_of_look hh rfl hl

theorem endLook_kept {x₀ b : Block} (h : Kept x₀ b) : Kept x₀ (endLook b) := by
  unfold endLook
  extract_lets b'
  have hb : Kept x₀ b' := setPle_kept h _ fun hh => classesOk_of_look hh rfl rfl
  split
  · exact markDue_kept hb _
  · exact hb

theorem lookStep_kept {x₀ b : Block} (h : Kept x₀ b) : Kept x₀ (lookStep b) := by
  unfold lookStep
  split
  · exact endLook_kept h
  · exact setLook_kept _ rfl h
  · exact setLook_kept _ rfl h

theorem goOn_kept {x₀ b : Block} (h : Kept x₀ b) : Kept x₀ (goOn b) := by
  unfold goOn
  split
  · exact endLook_kept h
  · exact lookStep_kept h

theorem moveCursor_kept {x₀ b : Block} (c : Cursor) (h : Kept x₀ b) : Kept x₀ (moveCursor c b) :=
  goOn_kept (setPle_kept h _ id)

theorem lookStart_kept {x₀ b : Block} (h : Kept x₀ b) : Kept x₀ (lookStart b) := by
  unfold lookStart
  split
  · exact lookStep_kept (requestMirror_kept h)
  · exact lookStep_kept h

theorem lookTimerExpiry_kept {x₀ b : Block} (h : Kept x₀ b) : Kept x₀ (lookTimerExpiry b) := by
  unfold lookTimerExpiry
  split
  · exact requestLook_kept h
  · exact h

theorem refuse_kept {x₀ b : Block} (x : Nat) (notify : Bool) (o : PlanOutcome) (h : Kept x₀ b) :
    Kept x₀ (refuse x notify o b) := setLook_kept _ rfl h

/-- The classes of a plan do not repeat. -/
theorem PlanParams.classes_nodup (p : PlanParams) : p.classes.Nodup := by
  cases p <;> simp [PlanParams.classes]
  split <;> simp

/-- The classes of a plan that is not blocked are free. -/
theorem classes_free {b : Block} {p : PlanRec} (hb : blocked b p = false) (h : ClassesOk b.ple) :
    (p.params.classes ++ takenClasses b.ple).Nodup := by
  refine List.Nodup.append p.params.classes_nodup h.taken ?_
  intro c hc ht
  simp only [blocked, Bool.or_eq_false_iff] at hb
  have hn := hb.1.2
  rw [List.any_eq_false] at hn
  refine hn c hc ?_
  simp only [takenClasses, List.mem_flatMap] at ht
  obtain ⟨t, ht1, ht2⟩ := ht
  simp only [classBusy, List.any_eq_true]
  exact ⟨t, ht1, by simpa using ht2⟩

/-- The decision on a plan whose classes are free. -/
theorem actOn_kept {x₀ b : Block} (c : Check) (p : PlanRec) (v : CheckVal)
    (hp : ClassesOk b.ple → (p.params.classes ++ takenClasses b.ple).Nodup) (h : Kept x₀ b) :
    Kept x₀ (actOn c p v b) := by
  unfold actOn
  split
  · exact kept_ple h fun hh => hp hh
  · exact refuse_kept _ _ _ h
  · exact endLook_kept h

theorem judge_kept {x₀ b : Block} (p : PlanRec) (v : CheckVal) (h : Kept x₀ b) : Kept x₀ (judge p v b) := by
  unfold judge
  split
  · exact endLook_kept h
  · rename_i hb
    have hf := fun hh => classes_free (by simpa using hb) (b := b) (p := p) hh
    split
    · rename_i q hq _
      refine kept_ple h fun hh => ?_
      have := hf hh
      simp only [ClassesOk, lookClasses, hq] at this ⊢
      exact this
    · exact actOn_kept _ _ _ hf h

/-- The TAKEN write is answered: the plan's classes pass from the look to the table. -/
theorem enterTaken_kept {x₀ b : Block} {p : PlanRec} {v : CheckVal} (ht : takenNow b = some (p, v)) (h : Kept x₀ b) :
    Kept x₀ (enterTaken p b) := by
  refine setPle_kept h _ fun hh => ?_
  have hl : lookClasses b.ple.look = p.params.classes := by
    unfold takenNow at ht
    split at ht
    · rename_i q w acc hlook
      split at ht
      · simp only [Option.some.injEq, Prod.mk.injEq] at ht
        rw [hlook, lookClasses, ht.1]
      · exact absurd ht (by simp)
    · exact absurd ht (by simp)
  simp only [ClassesOk, lookClasses, List.nil_append, takenClasses, List.flatMap_append, List.flatMap_cons,
    List.flatMap_nil, List.append_nil, entryOfPlan]
  have h2 := hh
  simp only [ClassesOk, hl, takenClasses] at h2
  exact (List.perm_append_comm.nodup_iff).mp h2

theorem take_kept {x₀ b : Block} {p : PlanRec} {v : CheckVal} (f : Block → Block) (ht : takenNow b = some (p, v))
    (hf : ∀ c, Kept x₀ c → Kept x₀ (f c)) (h : Kept x₀ b) : Kept x₀ (take p f b) :=
  moveCursor_kept _ (hf _ (retrack_kept _ (enterTaken_kept ht h)))

theorem syncHandOver_kept {x₀ b : Block} (h : Kept x₀ b) : Kept x₀ (syncHandOver b) := by
  unfold syncHandOver
  repeat' first | with_reducible exact h | with_reducible apply endPlan_kept | with_reducible exact id | split

theorem exposureTaken_kept {x₀ b : Block} (p : ExpParams) (h : Kept x₀ b) : Kept x₀ (exposureTaken p b) :=
  endPlan_kept _ _ _ _ _ (exposureHandOver_kept _ h)

theorem resultWritten_kept {x₀ b : Block} (k : PlanKind) (w : ResultWrite) (err : Bool) (h : Kept x₀ b) :
    Kept x₀ (resultWritten k w err b) := by
  unfold resultWritten
  repeat'
    first
      | with_reducible exact h | with_reducible apply setEnding_kept | with_reducible apply memoryFault?_kept
      | with_reducible exact id | extract_lets c1 c2 | dsimp only [c1] | dsimp only [c2] | split

theorem failOutcomeWritten_kept {x₀ b : Block} (k : PlanKind) (err : Bool) (h : Kept x₀ b) :
    Kept x₀ (failOutcomeWritten k err b) := by
  unfold failOutcomeWritten
  repeat'
    first
      | with_reducible exact h | with_reducible apply setEnding_kept | with_reducible apply memoryFault?_kept
      | with_reducible exact id | split

theorem freePlan_kept {x₀ b : Block} (t : Taken) (h : Kept x₀ b) : Kept x₀ (freePlan t b) := by
  unfold freePlan
  extract_lets b1 b2 b3
  have h1 : Kept x₀ b1 := setPle_kept h _ fun hh => by
    refine List.Nodup.sublist ?_ hh
    exact (List.Sublist.refl _).append (List.Sublist.flatMap List.filter_sublist _)
  have h2 : Kept x₀ b2 := by
    unfold b2
    split
    · exact raise_kept _ h1
    · exact h1
  have h3 : Kept x₀ b3 := by
    unfold b3
    split
    · exact setCap_kept h2 _
    · exact h2
  exact requestLook_kept (stopIfFree_kept (retrack_kept _ h3))

theorem finalWritten_kept {x₀ b : Block} (k : PlanKind) (err : Bool) (h : Kept x₀ b) :
    Kept x₀ (finalWritten k err b) := by
  unfold finalWritten
  repeat'
    first
      | with_reducible exact h | with_reducible apply freePlan_kept | with_reducible apply memoryFault?_kept
      | with_reducible exact id | split

theorem mirrorStart_kept {x₀ b : Block} (h : Kept x₀ b) : Kept x₀ (mirrorStart b) := setPle_kept h _ id

theorem mirrorHeadWritten_kept {x₀ b : Block} (err : Bool) (h : Kept x₀ b) : Kept x₀ (mirrorHeadWritten err b) := by
  unfold mirrorHeadWritten
  split
  · exact setPle_kept (memoryFault?_kept _ _ h) _ id
  · exact h

theorem mirrorBodyWritten_kept {x₀ b : Block} (err : Bool) (h : Kept x₀ b) : Kept x₀ (mirrorBodyWritten err b) := by
  unfold mirrorBodyWritten
  split
  · exact releasePWrites_kept (setPle_kept (memoryFault?_kept _ _ h) _ id)
  · exact h

theorem countTail_classes (b : Block) (t : Taken) : (countTail b t).classes = t.classes := by
  unfold countTail
  split <;> rfl

theorem mirrorTailWritten_kept {x₀ b : Block} (err : Bool) (h : Kept x₀ b) : Kept x₀ (mirrorTailWritten err b) := by
  unfold mirrorTailWritten
  split
  · extract_lets b1 b2
    have h1 : Kept x₀ b1 := memoryFault?_kept _ _ h
    have h2 : Kept x₀ b2 := setPle_kept h1 _ fun hh => by
      simp only [ClassesOk, takenClasses]
      rw [takenClasses_map _ _ (countTail_classes _)]
      exact hh
    split
    · exact markDue_kept h2 _
    · exact h2
  · exact h

theorem abortEffects_kept {x₀ b : Block} (k : PlanKind) (h : Kept x₀ b) : Kept x₀ (abortEffects k b) := by
  unfold abortEffects
  repeat'
    first
      | with_reducible exact h | with_reducible apply zoomAbort_kept | with_reducible apply focusAbort_kept
      | with_reducible apply searchStop_kept | with_reducible apply referenceAbort_kept
      | with_reducible apply capAbort_kept | with_reducible apply tablesAbort_kept | with_reducible exact id | split

theorem abortClass_kept {x₀ b : Block} (c : PClass) (h : Kept x₀ b) : Kept x₀ (abortClass c b) := by
  unfold abortClass
  repeat'
    first
      | with_reducible exact h | with_reducible apply abortEffects_kept | with_reducible apply setEnding_kept
      | with_reducible exact id | split

theorem readCause_kept {x₀ b : Block} (h : Kept x₀ b) : Kept x₀ (readCause b) := by
  refine h.trans ⟨rfl, rfl, rfl, fun ⟨h1, h2⟩ => ⟨⟨h1.1, fun c _ _ => ?_⟩, h2⟩⟩
  show (0#8).getLsbD c.bit = false
  simp

theorem clearFault_kept {x₀ b : Block} (h : Kept x₀ b) : Kept x₀ (clearFault b) := kept_fault h _

/-! ### Due.lean -/

theorem execLevels_kept {x₀ b : Block} (v : Word) (h : Kept x₀ b) : Kept x₀ { b with ntu := writeLevels v b.ntu } :=
  kept_ntu h fun _ => ntuOk_writeLevels _ _

/-! ### RUN and the responses of the chain -/

theorem stopRun_port {x₀ b : Block} (h : KeptPort x₀ b) : KeptPort x₀ (stopRun b) := h.trans ⟨rfl, rfl, id⟩

theorem chainFault_port {x₀ b : Block} (c : FaultCode) (o : Nat) (h : KeptPort x₀ b) :
    KeptPort x₀ (chainFault c o b) :=
  (stopRun_port (h.step (memoryFault_kept c o (Kept.refl b)))).step
    (setPle_kept (Kept.refl _) _ fun hh => classesOk_of_look hh rfl rfl)

theorem runStartFault_port {x₀ b : Block} (c : FaultCode) (o : Nat) (h : KeptPort x₀ b) :
    KeptPort x₀ (runStartFault c o b) :=
  stopRun_port (h.step (memoryFault_kept c o (Kept.refl b)))

theorem startRun_port {x₀ b : Block} (h : KeptPort x₀ b) : KeptPort x₀ (startRun b) := by
  unfold startRun
  split
  · exact h
  · exact h.trans ⟨rfl, rfl, id⟩

theorem clearRun_port {x₀ b : Block} (h : KeptPort x₀ b) : KeptPort x₀ (clearRun b) := by
  unfold clearRun
  split
  · exact stopRun_port h
  · exact h

theorem startLooking_kept {x₀ b : Block} (n : Nat) (h : Kept x₀ b) : Kept x₀ (startLooking n b) := by
  unfold startLooking
  extract_lets b'
  have hb : Kept x₀ b' := setPle_kept h _ id
  split
  · exact requestLook_kept (setPle_kept hb _ id)
  · exact hb

theorem runStartResponse_port {x₀ b : Block} (r : ReadResp) (h : KeptPort x₀ b) :
    KeptPort x₀ (runStartResponse r b) := by
  unfold runStartResponse
  split
  · exact h
  · extract_lets b1
    have h1 : KeptPort x₀ b1 := h.step (setPle_kept (Kept.refl b) _ id)
    split
    · exact runStartFault_port _ _ h1
    · split
      · extract_lets b2 x
        have h2 : KeptPort x₀ b2 := h1.step (firstQ_kept _ (Kept.refl b1))
        split
        · exact runStartFault_port _ _ h2
        · exact h2.step (startLooking_kept _ (setPle_kept (Kept.refl b2) _ id))
      · exact h1.step (startLooking_kept _ (Kept.refl b1))

theorem nextResponse_port {x₀ b : Block} (r : ReadResp) (h : KeptPort x₀ b) : KeptPort x₀ (nextResponse r b) := by
  unfold nextResponse
  split
  · split
    · exact chainFault_port _ _ h
    · extract_lets v
      split
      · exact h.step (endLook_kept (Kept.refl b))
      · split
        · exact chainFault_port _ _ h
        · exact h.step (moveCursor_kept _ (Kept.refl b))
  · exact h

theorem timeoutField_look {p : PlanRec} {acc : ReadAcc} {n : Nat} (h : timeoutField p.params = some n) :
    lookClasses (.check p acc) = [] := by
  unfold timeoutField at h
  unfold lookClasses
  split at h <;> simp_all

theorem planResponse_port {x₀ b : Block} (r : ReadResp) (h : KeptPort x₀ b) : KeptPort x₀ (planResponse r b) := by
  unfold planResponse
  split
  · split
    · exact chainFault_port _ _ h
    · split
      · exact h.step (endLook_kept (Kept.refl b))
      · split
        · exact h.step (refuse_kept _ _ _ (Kept.refl b))
        · extract_lets p
          split
          · rename_i n hn
            exact h.step (setLook_kept _ (timeoutField_look (p := p) hn) (Kept.refl b))
          · exact h.step (judge_kept _ _ (Kept.refl b))
  · exact h

theorem checkResponse_port {x₀ b : Block} (r : ReadResp) (h : KeptPort x₀ b) : KeptPort x₀ (checkResponse r b) := by
  unfold checkResponse
  split
  · rename_i p acc hl
    split
    · exact chainFault_port _ _ h
    · split
      · rename_i q hq
        refine h.step (actOn_kept _ _ _ (fun hh => ?_) (Kept.refl b))
        simp only [ClassesOk, hl, lookClasses, hq] at hh
        rw [hq]
        exact hh
      · split
        · exact h.step (refuse_kept _ _ _ (Kept.refl b))
        · exact h.step (judge_kept _ _ (Kept.refl b))
  · exact h

theorem refusalOutcomeResponse_port {x₀ b : Block} (err : Bool) (h : KeptPort x₀ b) :
    KeptPort x₀ (refusalOutcomeResponse err b) := by
  unfold refusalOutcomeResponse
  split
  · split
    · exact chainFault_port _ _ h
    · exact h.step (setLook_kept _ rfl (Kept.refl b))
  · exact h

theorem refusalStateResponse_port {x₀ b : Block} (err : Bool) (h : KeptPort x₀ b) :
    KeptPort x₀ (refusalStateResponse err b) := by
  unfold refusalStateResponse
  split
  · split
    · exact chainFault_port _ _ h
    · refine h.step (moveCursor_kept _ ?_)
      split
      · exact raise_kept _ (Kept.refl b)
      · exact Kept.refl b
  · exact h

theorem takenWriteError_port {x₀ b : Block} (h : KeptPort x₀ b) : KeptPort x₀ (takenWriteError b) := by
  unfold takenWriteError
  split
  · exact chainFault_port _ _ h
  · exact h

/-! ### Resets -/

/-- The block after power-on reset is good. -/
theorem reset_inv : Block.reset.Inv := by decide +kernel

/-- The block after a soft reset is good when the block before it was. -/
theorem softResetAxis_move (a : AxisUnit) : (softResetAxis a).move = none := by
  unfold softResetAxis
  repeat' first | rfl | split | extract_lets

theorem softReset_inv {b : Block} (h : b.Inv) : (softReset b).Inv := by
  have hr := reset_inv
  refine ⟨⟨h.1.1, fun c _ _ => ?_⟩, hr.2.1, hr.2.2.1, hr.2.2.2.1, hr.2.2.2.2.1, hr.2.2.2.2.2.1,
    targetOk_still _ (softResetAxis_move _), targetOk_still _ (softResetAxis_move _)⟩
  show (0#8).getLsbD c.bit = false
  simp

/-! ### Due steps -/

theorem fire_kept {x₀ b : Block} (d : DueStep) (h : Kept x₀ b) : Kept x₀ (fire d b) := by
  cases d
  · exact lookStart_kept h
  · exact mirrorStart_kept h
  · exact makeDueEntry_kept h
  · exact streamStopComplete_kept h
  · exact capMaxWait_kept h
  · exact brakingEnd_kept _ h
  · exact moveDone_kept _ h
  · exact failMove_kept _ _ _ h
  · exact supplyStop_kept _ h
  · exact searchFail_kept _ _ h
  · exact centeringDone_kept h
  · exact gyroRecover_kept h
  · exact panChange_kept _ h
  · exact holdEnd_kept _ h

theorem settleSteps_kept {x₀ b : Block} (n : Nat) (h : Kept x₀ b) : Kept x₀ (settleSteps n b) := by
  induction n generalizing b with
  | zero => exact h
  | succ n ih =>
    unfold settleSteps
    split
    · exact h
    · exact ih (fire_kept _ (dropDue_kept h _))

/-- The due steps keep the window bounds, RUN and the invariant. -/
theorem settle_kept (b : Block) : Kept b (settle b) := settleSteps_kept _ (Kept.refl b)

/-- With nothing due, nothing is taken before a command. -/
theorem settle_of_quiet {b : Block} (h : b.due = []) : settle b = b := by
  show settleSteps 32 b = b
  unfold settleSteps
  rw [h]

end Sys2Proof.Machine
end

