-- ==== Sys2Proof/WellFormed.lean ====
section
/-!
DEFINITION. Which commands the part's ports can carry: the lengths of read responses, the range of the period
counter, the places of the write buffer and of the trace.
-/

namespace Sys2Proof

/-- A response to a read of n bytes: n bytes, or an error response (R1). -/
def ReadResp.hasLength (r : ReadResp) (n : Nat) : Bool :=
  match r with
  | .data bytes => bytes.length == n
  | .error => true

/-- The checks on a command's operands, each from the rule that gives the operand its range. -/
def Instr.wellFormed : Instr → Bool
  | .controlBlockReadDone a => a.resp.hasLength 64 || a.resp.hasLength 1       -- the host area, or the look period alone (R6)
  | .nextFieldReadDone a => a.resp.hasLength 4                            -- a u32 next field (Table 65)
  | .planReadDone a => a.resp.hasLength 64                                -- a plan record (R10)
  | .takingCheckReadDone a => a.resp.hasLength 1 || a.resp.hasLength 9         -- a timeout field, or the pool fields (Table 63)
  | .tablesReadDone a => a.resp.hasLength 528 || a.resp.hasLength 64 || a.resp.hasLength 256   -- Table 36
  | .qReadDone a => a.resp.hasLength 4                                    -- Q (Table 63)
  | .frameSync count _ => decide (count ≤ Config.periodLimit)        -- R25
  | .burstResponse i _ => decide (i < Config.writeBufferPlaces)      -- R166
  | .traceWriteDone i _ => decide (i < Config.traceLimit)            -- R116
  | .inputFilterAccept _ pa pb ref => pa.isSome || pb.isSome || ref.isSome   -- some level is accepted (R71)
  | _ => true

end Sys2Proof
end

