-- ==== Sys2Proof/Laws/PerInstr.lean ====
section
/-!
SUPPORT. Statements made for every command, one lemma per constructor. The family UncheckedWellFormed: only the ten commands
whose operands a rule bounds can be ill-formed.
-/

namespace Sys2Proof.Laws.UncheckedWellFormed

/-- Whether a rule bounds an operand of the command. -/
def bounded : Instr → Bool
  | .controlBlockReadDone _ => true
  | .nextFieldReadDone _ => true
  | .planReadDone _ => true
  | .frameSync _ _ => true
  | .inputFilterAccept _ _ _ _ => true
  | .tablesReadDone _ => true
  | .traceWriteDone _ _ => true
  | .qReadDone _ => true
  | .burstResponse _ _ => true
  | .takingCheckReadDone _ => true
  | _ => false

/-- A command none of whose operands a rule bounds is well-formed. -/
def Statement (i : Instr) : Prop := bounded i = false → i.wellFormed = true

theorem powerOnReset : Statement .powerOnReset := fun _ => rfl
theorem softReset : Statement .softReset := fun _ => rfl
theorem runSet : Statement .runSet := fun _ => rfl
theorem runClear : Statement .runClear := fun _ => rfl
theorem wbaseWrite (v : Word) : Statement (.wbaseWrite v) := fun _ => rfl
theorem wlimitWrite (v : Word) : Statement (.wlimitWrite v) := fun _ => rfl
theorem levelsWrite (v : Word) : Statement (.levelsWrite v) := fun _ => rfl
theorem causeRead : Statement .causeRead := fun _ => rfl
theorem faultWrite (v : Word) : Statement (.faultWrite v) := fun _ => rfl
theorem abortZoom : Statement .abortZoom := fun _ => rfl
theorem abortFocus : Statement .abortFocus := fun _ => rfl
theorem abortCapture : Statement .abortCapture := fun _ => rfl
theorem registerWriteIgnored (r : FixedReg) (v : Word) : Statement (.registerWriteIgnored r v) := fun _ => rfl
theorem controlBlockReadDone (r : ReadAnswer) : Statement (.controlBlockReadDone r) := nofun
theorem lookTimerExpiry : Statement .lookTimerExpiry := fun _ => rfl
theorem lookStart : Statement .lookStart := fun _ => rfl
theorem nextFieldReadDone (r : ReadAnswer) : Statement (.nextFieldReadDone r) := nofun
theorem planReadDone (r : ReadAnswer) : Statement (.planReadDone r) := nofun
theorem refusalOutcomeWriteDone (a : WriteAnswer) :
    Statement (.refusalOutcomeWriteDone a) := fun _ => rfl
theorem refusalStateWriteDone (a : WriteAnswer) : Statement (.refusalStateWriteDone a) := fun _ => rfl
theorem takenWriteError : Statement .takenWriteError := fun _ => rfl
theorem takeStreamStart : Statement .takeStreamStart := fun _ => rfl
theorem takeStreamStop : Statement .takeStreamStop := fun _ => rfl
theorem takeExposure : Statement .takeExposure := fun _ => rfl
theorem takeStabOn : Statement .takeStabOn := fun _ => rfl
theorem takeStabOff : Statement .takeStabOff := fun _ => rfl
theorem takeZoom (m : Msense) : Statement (.takeZoom m) := fun _ => rfl
theorem takeFocus (m : Msense) : Statement (.takeFocus m) := fun _ => rfl
theorem takeAfSearch (m : Msense) : Statement (.takeAfSearch m) := fun _ => rfl
theorem takeReference (m : Msense) : Statement (.takeReference m) := fun _ => rfl
theorem takeCapture : Statement .takeCapture := fun _ => rfl
theorem takeTables : Statement .takeTables := fun _ => rfl
theorem takeSync : Statement .takeSync := fun _ => rfl
theorem endingResultsWriteDone (k : PlanKind) (w : ResultWrite) (a : WriteAnswer) :
    Statement (.endingResultsWriteDone k w a) := fun _ => rfl
theorem endingFailureOutcomeWriteDone (k : PlanKind) (a : WriteAnswer) :
    Statement (.endingFailureOutcomeWriteDone k a) := fun _ => rfl
theorem finalStateWriteDone (k : PlanKind) (a : WriteAnswer) :
    Statement (.finalStateWriteDone k a) := fun _ => rfl
theorem mirrorRewriteStart : Statement .mirrorRewriteStart := fun _ => rfl
theorem mirrorHeadWriteDone (a : WriteAnswer) : Statement (.mirrorHeadWriteDone a) := fun _ => rfl
theorem mirrorBodyWriteDone (a : WriteAnswer) : Statement (.mirrorBodyWriteDone a) := fun _ => rfl
theorem mirrorTailWriteDone (a : WriteAnswer) : Statement (.mirrorTailWriteDone a) := fun _ => rfl
theorem frameSync (count : Nat) (swapFirst : Bool) : Statement (.frameSync count swapFirst) := nofun
theorem lineSync (px : List Pixel) : Statement (.lineSync px) := fun _ => rfl
theorem syncTimerExpiry : Statement .syncTimerExpiry := fun _ => rfl
theorem periodCounterLimit : Statement .periodCounterLimit := fun _ => rfl
theorem settingsAck : Statement .settingsAck := fun _ => rfl
theorem dueEntryCreate : Statement .dueEntryCreate := fun _ => rfl
theorem streamStopComplete : Statement .streamStopComplete := fun _ => rfl
theorem metering : Statement .metering := fun _ => rfl
theorem afuStatsReady (m : Msense) : Statement (.afuStatsReady m) := fun _ => rfl
theorem fsuStatsReady : Statement .fsuStatsReady := fun _ => rfl
theorem inputFilterAccept (ax : Axis) (pa pb ref : Option Bool) : Statement (.inputFilterAccept ax pa pb ref) := nofun
theorem controlPeriodExpiry (ax : Axis) (m : Msense) (first : MoveCheck) :
    Statement (.controlPeriodExpiry ax m first) := fun _ => rfl
theorem brakingEnd (ax : Axis) : Statement (.brakingEnd ax) := fun _ => rfl
theorem moveSettled (ax : Axis) : Statement (.moveSettled ax) := fun _ => rfl
theorem stallStop (ax : Axis) : Statement (.stallStop ax) := fun _ => rfl
theorem supplyLowStop (ax : Axis) : Statement (.supplyLowStop ax) := fun _ => rfl
theorem refNoMotion (ax : Axis) : Statement (.refNoMotion ax) := fun _ => rfl
theorem moveTimerExpiry (ax : Axis) : Statement (.moveTimerExpiry ax) := fun _ => rfl
theorem pwmPeriodStart (ax : Axis) : Statement (.pwmPeriodStart ax) := fun _ => rfl
theorem irisStep (m : Msense) : Statement (.irisStep m) := fun _ => rfl
theorem tablesReadDone (r : ReadAnswer) : Statement (.tablesReadDone r) := nofun
theorem traceWriteDone (i : Nat) (a : WriteAnswer) : Statement (.traceWriteDone i a) := nofun
theorem gyroPacket (p : BitVec 40) : Statement (.gyroPacket p) := fun _ => rfl
theorem gyroPacketDiscard (reasserted : Bool) : Statement (.gyroPacketDiscard reasserted) := fun _ => rfl
theorem gyroTimerExpiry : Statement .gyroTimerExpiry := fun _ => rfl
theorem centeringDone : Statement .centeringDone := fun _ => rfl
theorem gyroRecovered : Statement .gyroRecovered := fun _ => rfl
theorem panFlagChange (r : Rot) : Statement (.panFlagChange r) := fun _ => rfl
theorem saturationHoldEnd (r : Rot) : Statement (.saturationHoldEnd r) := fun _ => rfl
theorem captureMaxWait : Statement .captureMaxWait := fun _ => rfl
theorem qReadDone (r : ReadAnswer) : Statement (.qReadDone r) := nofun
theorem burstResponse (i : Nat) (a : WriteAnswer) : Statement (.burstResponse i a) := nofun
theorem recordWriteDone (a : WriteAnswer) : Statement (.recordWriteDone a) := fun _ => rfl
theorem pWriteDone (a : WriteAnswer) : Statement (.pWriteDone a) := fun _ => rfl
theorem takingCheckReadDone (r : ReadAnswer) : Statement (.takingCheckReadDone r) := nofun

end Sys2Proof.Laws.UncheckedWellFormed
end

