-- ==== Sys2Proof/Tests/Slice0.lean ====
section
/-!
SUPPORT. The model's own tests. `test_bad_…`: a command that WellFormed refuses, one for each of its checks. `test_met_…`: a state and
operands that meet the hypotheses of a statement, clause by clause (`Still b`: the block has no due step to take, so b is what a
command finds in `b.alone`). The other tests follow worked cases of the spec.
-/

namespace Sys2Proof.Machine

-- One test after another: a test that waits for the kernel would hold a thread of its own.
set_option Elab.async false

/-! ### WellFormed -/

theorem test_bad_control_block_length : (Instr.controlBlockReadDone ⟨false, .data [0#8, 0#8]⟩).wellFormed = false := by decide
theorem test_bad_next_field_length : (Instr.nextFieldReadDone ⟨false, .data [0#8]⟩).wellFormed = false := by decide
theorem test_bad_plan_length : (Instr.planReadDone ⟨false, .data [1#8]⟩).wellFormed = false := by decide
theorem test_bad_taking_check_length : (Instr.takingCheckReadDone ⟨false, .data []⟩).wellFormed = false := by decide
theorem test_bad_tables_length : (Instr.tablesReadDone ⟨false, .data [1#8]⟩).wellFormed = false := by decide
theorem test_bad_q_length : (Instr.qReadDone ⟨false, .data [1#8, 0#8]⟩).wellFormed = false := by decide
theorem test_bad_period : (Instr.frameSync 120000001 false).wellFormed = false := by decide
theorem test_bad_burst_place : (Instr.burstResponse 8 ⟨false, false⟩).wellFormed = false := by decide
theorem test_bad_trace_place : (Instr.traceWriteDone 32 ⟨false, false⟩).wellFormed = false := by decide
theorem test_bad_no_level : (Instr.inputFilterAccept .zoom none none none).wellFormed = false := by decide

theorem test_good_commands :
    (Instr.nextFieldReadDone ⟨false, .error⟩).wellFormed = true ∧ (Instr.frameSync 120000000 true).wellFormed = true ∧
    (Instr.burstResponse 7 ⟨false, true⟩).wellFormed = true ∧ Instr.causeRead.wellFormed = true := by decide

/-- No row of the command table gives bits. -/
theorem test_no_word_spells_a_command (n w : Nat) : decodeTableWord n w = none ∧ State.reset.withFetchWord n w = State.reset :=
  ⟨rfl, rfl⟩

/-! ### Worked cases of the spec -/

/-- R49, R50 and section 4.7: E_max 1642 is 169 steps, 120 steps are 192 lines, and 219 lines are 123 steps that give 216 lines. -/
theorem test_steps :
    lg16 1642 = 169 ∧ ex16 120 = 192 ∧ lg16 219 = 123 ∧ ex16 123 = 216 ∧ ex16 0 = 1 ∧ ex16 15 = 1 ∧ lg16 65535 = 255 ∧
    lg16 1 = 0 ∧ ex16 255 = 63488 := by decide +kernel

/-- Section 4.7: levels 40, 44, 48, 52 at weight 1 meter 46; with target 118 the error is 22, the correction 16. -/
theorem test_metering_case :
    meteredLevel [1, 1, 1, 1] [40, 44, 48, 52] = 46 ∧
    meterError { ExpParams.reset with target := 118, response := 3 } 46 = 22 ∧
    correction { ExpParams.reset with target := 118, response := 3 } 0 22 = 16 := by decide +kernel

/-- R168: the CRC of the nine digits is the standard check value, and of no byte 0. -/
theorem test_crc :
    ~~~ crcBytes 0xFFFFFFFF#32 [49, 50, 51, 52, 53, 54, 55, 56, 57] = 0xCBF43926#32 ∧
    ~~~ crcBytes 0xFFFFFFFF#32 [] = 0#32 := by decide +kernel

/-- Section 8.6: the shifts of the worked packets. -/
theorem test_shifts :
    rawShift 120883 3500 = 403 ∧ rawShift 123328 3500 = 412 ∧ rawShift 122847 3500 = 410 ∧ rawShift 122368 6000 = 700 := by
  decide

/-- Section 2.8: a period of 5,000,000 over 1650 lines is a line time of 3030. -/
theorem test_line_time : 5000000 / 1650 = 3030 := by decide

/-- Chapter 12: the mirror's body has 180 bytes, a record and a result area their sizes. -/
theorem test_sizes :
    (mirrorBody Block.reset).length = 180 ∧
    (frameRecord Block.reset (candidateFrame Block.reset 0#32 false)).length = 64 ∧
    (moveArea 0 .ok 0 0).length = 24 ∧ (captureArea Cap.reset).length = 24 ∧
    (sampleBytes { position := 0, value := 0, frame := 0#32, phase := .start }).length = 16 := by decide +kernel

/-- A RUN set right after reset meets a window fault that clears RUN (R180). -/
theorem test_run_after_reset :
    (let s1 := step { State.reset with pending := [.runSet, .controlBlockReadDone ⟨false, .error⟩] }
     match s1 with
     | .next t =>
       match step t with
       | .next u => decide (u.regs.run = false ∧ u.regs.fault.code = .window ∧ u.pending = [])
       | _ => false
     | _ => false) = true := by decide +kernel

/-! ### Blocks that the witnesses use -/

/-- The block has no due step to take. -/
abbrev Still (b : Block) : Prop := settle b = b

theorem settles_of_still {b : Block} (h : Still b) : Settles b.alone b := h

/-- A window of 64 KiB at page 1, RUN set. -/
def tOpen : Block := { Block.reset with regs := { Regs.reset with run := true, wbase := 1#20, wlimit := 16#16 } }

/-- An open block in a stage of a look. -/
def tLook (l : Look) : Block := setLook l tOpen

/-- A read and a write that were issued, and ones that met a window fault. -/
def tRead : ReadAcc := readAt tOpen 0x1000 64
def tWrite : WriteAcc := writeAt tOpen 0x1000 [0#8]
def tReadOut : ReadAcc := readAt Block.reset 0x1000 64
def tWriteOut : WriteAcc := writeAt Block.reset 0x1000 [0#8]

/-- A 64-byte record that starts with the bytes given. -/
def tRec (bs : List Byte) : List Byte := (bs ++ List.replicate 64 0#8).take 64

/-- A taken plan at 0x1000. -/
def tTaken (k : PlanKind) (cs : List PClass) (e : Ending) : Taken :=
  { offset := 0x1000, kind := k, classes := cs, detached := true, notify := true, ending := e }

/-- An open block with taken plans. -/
def tWith (ts : List Taken) : Block := setPle (fun p => { p with taken := ts }) tOpen

/-- A stream format, and a block with it in a stream state. -/
def tFmt : StreamParams :=
  { lines := 1650, active := 1600, width := 4000, margin := 8, latency := 2, s0 := 120, g0 := 20, c0 := 0 }
def tStream (x : StreamState) : Block :=
  setFtu (fun u => { u with stream := x, fmt := some tFmt, syncTimer := true, periodRun := true }) tOpen

/-- An axis parameter block, tables with it, and a block with the tables. -/
def tBlk : AxisBlock :=
  { period := 20, filter := 3, wst := 4, tolerance := 2, settleTime := 8, stallPeriods := 8, stallDuty := 100,
    supplyLevel := 2, duty1 := 40, duty2 := 80, duty3 := 120, duty4 := 200, d1 := 10, d2 := 50, d3 := 200,
    moveTimeout := 500, lo := -1000, hi := 1000, hardMargin := 20,
    ref := { direction := 0, edge := 0, duty := 60, travel := 3000, offset := 0 }, trackStep := 5 }
def tNode (p : Int) : Node := { p := p, focal := 100, hand := 833, cMax := 24, gain := 3500, inf := p, near := p + 100 }
def tTables : Tables :=
  { nodes := (List.range 33).map fun j => tNode (100 * (j : Int) - 1600), zoomBlk := tBlk, focusBlk := tBlk,
    weights := List.replicate 4 (List.replicate 64 1), margin := 50 }
def tMapped (b : Block) : Block := setZmap (fun z => { z with tables := some tTables, zoomLim := { lo := -1000, hi := 1000 } }) b

/-- A referenced axis that runs a move of a giver. -/
def tAxis (st : AxisState) (g : Giver) : AxisUnit :=
  { AxisUnit.reset with
    referenced := true, state := st, phaseA := some false, phaseB := some false, moveTimer := some 500, settle := 8,
    move := some { giver := g, prevDuty := some 200, expiries := 3 } }

/-- An axis that runs a reference search. -/
def tSet : RefSet := { positive := false, rising := true, duty := 60, travel := 3000, offset := 5 }
def tSearching (leaving : Bool) : AxisUnit :=
  { AxisUnit.reset with
    state := .referencing, phaseA := some false, phaseB := some false, refLevel := some leaving,
    search := some { leaving := leaving, set := tSet, lastCounter := 0#16, still := 62 } }
def tRef (st : RefStage) : RefPlan :=
  { prm := { zoom := tBlk.ref, focus := tBlk.ref, cTravel := 100 }, stage := st, zoomTravel := 0, focusTravel := 0,
    zoomEdge := none, focusEdge := none }

/-! ### Worked steps of the spec, one step each -/

/-- The inputs of section 4.8's program line. -/
def tLine : LineIn :=
  { lineTime := 3030, eMax := 1642, hand := some 833, cMax := 24, sbu := .active,
    prm := { ExpParams.reset with bonus := 3, gMax := 192, slew := 8 }, mode := .auto, xTarget := 166, cPrev := 0 }

/-- Sections 4.8 to 4.10: the program line at the long end, with a saturated stabilizer, with a slewing iris, and in MANUAL. -/
theorem test_program_line :
    (let o := programLine tLine
     o.s = 123 ∧ o.g = 43 ∧ o.c = 0 ∧ o.xApp = 166 ∧ o.underFlag = false ∧ o.overFlag = false) ∧
    (let o := programLine { tLine with sbu := .saturated }
     o.s = 75 ∧ o.g = 91) ∧
    (let o := programLine { tLine with xTarget := 40, cMax := 48, prm := { tLine.prm with slew := 16 } }
     o.c = 16 ∧ o.s = 56 ∧ o.g = 0 ∧ o.xApp = 40 ∧ o.slewFlag = true) ∧
    (let o := programLine { tLine with xTarget := -60, cMax := 48, cPrev := 48, prm := { tLine.prm with slew := 16 } }
     o.s = 0 ∧ o.g = 0 ∧ o.xApp = -48 ∧ o.overFlag = true) ∧
    (let o := programLine { tLine with
       mode := .manual, cMax := 48, cPrev := 8, prm := { tLine.prm with gMax := 96, sm := 100, gm := 32, cm := 24 } }
     o.c = 16 ∧ o.s = 92 ∧ o.g = 32 ∧ o.xApp = 108 ∧ o.slewFlag = true) := by decide +kernel

/-- The two nodes of section 6.7. -/
def tNodes : List Node :=
  [{ p := 20000, focal := 0, hand := 1100, cMax := 40, gain := 0, inf := 1200, near := 5200 },
   { p := 21000, focal := 0, hand := 950, cMax := 36, gain := 0, inf := 1500, near := 6100 }]

/-- Section 6.7: values between two nodes. -/
theorem test_between_nodes :
    interpolate (·.inf) tNodes 20400 = 1320 ∧ interpolate (·.near) tNodes 20400 = 5560 ∧
    1320 + roundHalfAway (4240 * 256) 1024 = 2380 ∧ conservative (·.hand) tNodes 20400 = 950 ∧
    conservative (·.cMax) tNodes 20400 = 36 ∧ roundHalfAway (4246 * 256) 1024 = 1062 ∧
    roundHalfAway (-1) 2 = -1 := by decide +kernel

/-- Section 7.8: the vertex through 212000, 214000, 200000 lies at −37. -/
theorem test_vertex : vertexOffset 100 212000 214000 200000 = -37 ∧ vertexOffset 10 5 5 5 = 0 := by decide

/-- Table 33, expiry 8: three counts from the target the motor brakes and the settle counter starts to count. -/
theorem test_zoom_expiry :
    (let p := { tBlk with
       d1 := 40, d2 := 200, d3 := 1000, duty1 := 60, duty2 := 110, duty3 := 170, duty4 := 230, wst := 6, tolerance := 3,
       settleTime := 4 }
     let a := bandStep p { tAxis .moving .zoomPlan with counter := 19597#16, target := 19600, settle := 4 }
     let c := bandStep p { tAxis .moving .zoomPlan with counter := 19420#16, target := 19600, settle := 4 }
     a.state = .settling ∧ a.output = .brake ∧ a.settle = 3 ∧ c.output = .drive 110 true ∧ c.settle = 4) := by
  decide +kernel

/-- Table 49: one packet of 1050 on the yaw axis in ACTIVE. -/
theorem test_gyro_packet :
    (let b : Block := { tMapped tOpen with
       sbu := { Sbu.reset with
         base := .active, yaw := { RotUnit.reset with a := 120000, b32 := 12800 }, lastSeq := some 4#4,
         windows := [{ k := 31#32, peak := 398 }], prm := { StabParams.reset with range := 600 } }
       cap := { Cap.reset with state := .storing } }
     let c := gyroPacket 0x5000001A04#40 b
     c.sbu.yaw.a = 120883 ∧ c.sbu.yaw.s = 403 ∧ c.sbu.yaw.hold = 0 ∧ c.sbu.windows = [{ k := 31#32, peak := 403 }]) := by
  decide +kernel

/-- Table 61: a condition at level 0 sets no flag; its level written while it is true sets it. -/
theorem test_notification :
    (let n := { Ntu.reset with levels := 0x00000521#32, slotWait := false }
     let n1 := setFlag .framePublished (setFlag .planEnd n)
     let n2 := setCondIn .slotWait true n1
     let n3 := setCondIn .gyroLost true n2
     let n4 := writeLevels 0x00030521#32 { n3 with flags := 0#8 }
     irql n1 = 2 ∧ irql n2 = 5 ∧ n3.flags = n2.flags ∧ n4.flags = 0x10#8 ∧ irql n4 = 3 ∧ liveView n4 = 0x300#32) := by
  decide +kernel

/-- Table 59: Q behind the held Q is refused once; Q ahead within what is held is taken. -/
theorem test_q_reads :
    (let b := setFsu (fun u => { u with p := 57#32, heldQ := 55#32 }) tOpen
     let c := takeQ 54#32 b
     let d := takeQ 57#32 (setFsu (fun u => { u with p := 58#32 }) c)
     c.fsu.heldQ = 55#32 ∧ c.fsu.refusedQ = some 54#32 ∧ c.regs.fault.code = .release ∧
     takeQ 54#32 c = c ∧ d.fsu.heldQ = 57#32 ∧ d.fsu.refusedQ = none) := by decide +kernel

/-! ### The hypotheses of the statements are met -/

/-- A due step and the block left when it is taken. -/
abbrev DueIn (d : DueStep) (b : Block) : Prop := d ∈ (markDue d b).alone.due ∧ dropDue d (markDue d b).alone.toBlock = b

theorem test_met_StepRunsFrontCommand :
    ({ State.reset with pending := [.runSet, .causeRead] } : State).pending = .runSet :: [.causeRead] ∧
    State.reset.pending = [] := ⟨rfl, rfl⟩

theorem test_met_DueStepsTaken :
    (ownDueStep .lookStart = some .lookStart ∧ .lookStart ∉ State.reset.due ∧
      .lookStart ∈ (markDue .lookStart tOpen).alone.due) ∧
    (ownDueStep .runSet = none ∧ Instr.runSet ≠ .powerOnReset ∧ Instr.runSet ≠ .softReset ∧
      (settle (markDue .lookStart Block.reset)).due = [] ∧ (markDue .lookStart Block.reset).due ≠ []) := by
  decide +kernel

theorem test_met_SoftResetState :
    (tAxis .moving .zoomPlan).state ∈ [AxisState.moving, .settling, .referencing] ∧
    (tSearching true).state ∈ [AxisState.moving, .settling, .referencing] ∧
    AxisUnit.reset.state ∈ [AxisState.unreferenced, .idle, .braking] ∧ (tAxis .faulted .zoomPlan).state = .faulted := by
  decide +kernel

/-- A stopped block whose cursor stands on a plan. -/
def tHalted : Block := setPle (fun p => { p with cursor := .atPlan 0x1000 }) { tOpen with regs := { tOpen.regs with run := false } }

theorem test_met_RunSetReadsControlBlock :
    (Still tOpen ∧ tOpen.regs.run = true) ∧
    (Still Block.reset ∧ Block.reset.regs.run = false ∧ Block.reset.ple.cursor = .none) ∧
    (Still tHalted ∧ tHalted.regs.run = false ∧ tHalted.ple.cursor ≠ .none) := by decide +kernel

theorem test_met_RunClearStopsLooks :
    (Still tHalted ∧ tHalted.regs.run = false) ∧ (Still (tLook (.next 0x1000 tRead)) ∧ tOpen.regs.run = true) := by
  decide +kernel

theorem test_met_WindowRegisterWrites :
    (Still tOpen ∧ tOpen.regs.run = true) ∧ (Still tHalted ∧ tHalted.regs.run = false) := by decide +kernel

theorem test_met_WindowAndRunFrame :
    (∃ t, exec .runSet State.reset = .next t ∧ Instr.runSet ≠ .powerOnReset ∧ (∀ v, Instr.runSet ≠ .wbaseWrite v) ∧
      ∀ v, Instr.runSet ≠ .wlimitWrite v) ∧
    (∃ t, exec (.pWriteDone ⟨false, true⟩) tOpen.alone = .next t ∧ mayChangeRun (.pWriteDone ⟨false, true⟩) = false) :=
  ⟨⟨_, rfl, nofun, nofun, nofun⟩, _, rfl, rfl⟩

/-- A notification unit with every level 0 but that of PLAN_END, whose flag is set. -/
def tNtu : Ntu := { Ntu.reset with levels := 0x00000002#32, flags := 1#8 }

theorem test_met_RegisterAndPinReads :
    (irq tNtu = true ∧ flagOf tNtu .planEnd = true ∧ irql tNtu = 2) ∧ irq Ntu.reset = false := by decide +kernel

theorem test_met_EventCauseSetsFlag :
    (levelOf tNtu .planEnd ≠ 0 ∧ Cause.windowFault ≠ .planEnd) ∧ levelOf tNtu .windowFault = 0 ∧
    (∀ x : Cond, x.cause ≠ .windowFault) ∧ flagOf tNtu .windowFault = false :=
  ⟨by decide, by decide, by rintro ⟨⟩ <;> decide, by decide⟩

theorem test_met_ConditionCauseSetsFlag :
    (condOf Ntu.reset .gyroLost = false ∧ levelOf Ntu.reset Cond.gyroLost.cause = 0 ∧
      levelIn 0x00070000#32 Cond.gyroLost.cause = 7) ∧
    (condOf { Ntu.reset with levels := 0x00010000#32 } .gyroLost = false ∧
      levelOf { Ntu.reset with levels := 0x00010000#32 } Cond.gyroLost.cause ≠ 0) ∧
    (condOf { Ntu.reset with gyroLost := true } .gyroLost = true ∧
      levelOf { Ntu.reset with gyroLost := true } Cond.gyroLost.cause = 0) := by decide

theorem test_met_LevelsAndCauseAccess : Still { Block.reset with ntu := { tNtu with slotWait := true } } := by
  decide +kernel

theorem test_met_FaultRegisterHoldsFirst :
    Block.reset.regs.fault.code = .none ∧ (latchFault .link 5 Block.reset).regs.fault.code ≠ .none ∧
    (65535 * 4096 - 1 < 65535 * 4096) ∧ Still (latchFault .link 5 Block.reset) := by decide +kernel

/-- Taken lens plans whose moves run; taken capture plans with and without a slot that is FILLING. -/
def tMoving : Block :=
  tMapped { tWith [tTaken .zoom [.zoom] .running, tTaken .focus [.focus] .running] with
    zoom := tAxis .moving .zoomPlan, focus := tAxis .settling (.focusPlan (.distance 5)) }
def tBurst (filling : Bool) : Block :=
  { tWith [tTaken .capture [.capture] .running] with cap := { Cap.reset with state := .storing, filling := filling } }

/-- A search, and one that has ended but waits for a trace write. -/
def tAf : AfParams :=
  { fromPosition := false, start := 0, near := true, coarse := 100, fine := 10, drop := 12, contrast := 32,
    window := { x0 := 3, x1 := 4, y0 := 3, y1 := 4 }, coring := 8, trace := 0x2000 }
def tSearch (moving : Bool) (e : Option (FinalState × PlanOutcome × PlanOutcome)) : Search :=
  { prm := tAf, phase := .coarse, moving := moving, moveTarget := 50, fineStart := 0, fineEnd := 0, fineIndex := 0,
    finalTarget := 0, offset := 0, recorded := none, ended := e }
def tWaiting : Block :=
  { tWith [tTaken .afSearch [.focus, .zoom] .running] with
    afu := { Afu.reset with search := some (tSearch false (some (.done, .found, .ok))), writes := [(0, tWrite)] } }

theorem test_met_AbortEffects :
    (Still Block.reset ∧ (Instr.abortZoom, PClass.zoom) ∈
      [(Instr.abortZoom, PClass.zoom), (.abortFocus, .focus), (.abortCapture, .capture)] ∧
      holderOf Block.reset .zoom = none) ∧
    (Still (tWith [tTaken .capture [.capture] .cancelling]) ∧
      holderOf (tWith [tTaken .capture [.capture] .cancelling]) .capture = some (tTaken .capture [.capture] .cancelling) ∧
      (tTaken .capture [.capture] .cancelling).ending ≠ .running) ∧
    (Still tWaiting ∧ holderOf tWaiting .focus = some (tTaken .afSearch [.focus, .zoom] .running) ∧
      tWaiting.afu.search = some (tSearch false (some (.done, .found, .ok))) ∧
      abortClass .focus tWaiting = tWaiting) ∧
    (Still tMoving ∧ holderOf tMoving .zoom = some (tTaken .zoom [.zoom] .running) ∧
      takenOf tMoving .zoom = some (tTaken .zoom [.zoom] .running) ∧
      tMoving.zoom.move = (tAxis .moving .zoomPlan).move ∧ tMoving.zoom.move ≠ none ∧
      holderOf tMoving .focus = some (tTaken .focus [.focus] .running) ∧
      takenOf tMoving .focus = some (tTaken .focus [.focus] .running) ∧ tMoving.focus.move ≠ none ∧
      tMoving.focus.state ≠ .idle) ∧
    (Still (tBurst true) ∧ holderOf (tBurst true) .capture = some (tTaken .capture [.capture] .running) ∧
      takenOf (tBurst true) .capture = some (tTaken .capture [.capture] .running) ∧ (tBurst true).cap.filling = true) ∧
    (Still (tBurst false) ∧ holderOf (tBurst false) .capture = some (tTaken .capture [.capture] .running) ∧
      (tBurst false).cap.filling = false ∧ (tBurst false).fsu.cur = none) := by decide +kernel

theorem test_met_WindowCheck :
    (65472 + 64 ≤ tOpen.regs.wlimit.toNat * 4096 ∧ tOpen.regs.wlimit.toNat * 4096 < 65473 + 64) ∧
    Block.reset.regs.wlimit.toNat * 4096 < 0 + 1 := by decide

/-- A block whose RUN start waits for its read. -/
def tStart (first : Bool) (acc : ReadAcc) : Block := setPle (fun p => { p with runStart := some { first := first, acc := acc } }) tOpen

/-- A plan about to be taken. -/
def tRecOf (q : PlanParams) : PlanRec := { offset := 0x1000, detached := true, notify := true, tag := 7#32, params := q }

theorem test_met_ChainFaultStopsChain :
    (Still (tStart true tRead) ∧ (tStart true tRead).ple.runStart = some { first := true, acc := tRead } ∧
      (match tRead.result .error with | .error c => c = .readError | _ => False)) ∧
    (Still (tLook (.next 0x1000 tReadOut)) ∧ (match tReadOut.result (.data []) with | .error c => c = .window | _ => False)) ∧
    (Still (tLook (.plan 0x1000 tRead)) ∧ Still (tLook (.check (tRecOf .sync) tRead))) ∧
    (Still (tLook (.refuseOutcome 0x1000 true tWrite)) ∧ tWrite.fault true = some .writeError) ∧
    (Still (tLook (.refuseState 0x1000 true tWriteOut)) ∧ tWriteOut.fault false = some .window) ∧
    (Still (tLook (.taken (tRecOf .sync) .none tWrite)) ∧ Still (tLook (.taken (tRecOf .sync) .none tWriteOut)) ∧
      tWriteOut.fault true = some .window) ∧
    (tRead.addr ≠ none ∧ u32 [0x01#8, 0x10#8] 0 = 0x1001 ∧ 0x1001 % 64 ≠ 0 ∧
      u32 [0xC0#8, 0x0F#8] 0 = 0xFC0 ∧ 0xFC0 ≠ 0 ∧ 0xFC0 < 0x1000) ∧
    (tOpen.regs.wlimit.toNat * 4096 < u32 [0x00#8, 0x00#8, 0x01#8] 0 + 64) := by
  refine ⟨?_, ?_, ?_, ?_, ?_, ?_, ?_, ?_⟩ <;> first | decide +kernel | exact ⟨by decide +kernel, by decide +kernel, rfl⟩ | exact ⟨by decide +kernel, rfl⟩

theorem test_met_ResponseWithoutAccess :
    Still tOpen ∧ tOpen.ple.runStart = none ∧ tOpen.ple.look = .idle ∧ tOpen.ple.lookTimer = false ∧
    tOpen.ple.mirror = .idle ∧ takenOf tOpen .zoom = none ∧ tOpen.zmap.loading = .idle ∧ tOpen.fsu.qReads = [] ∧
    tOpen.fsu.wbuf.length ≤ 0 ∧ tOpen.fsu.recWrite = none ∧ tOpen.fsu.pWrites = [] := by decide +kernel

theorem test_met_RunStartResponse :
    (let b := tStart true tRead
     let bs := [0x00#8, 0x10#8, 0#8, 0#8, 5#8]
     Still b ∧ tRead.addr ≠ none ∧ b.regs.run = true ∧ lookBusy b = false ∧ u32 bs 0 % 64 = 0 ∧ 0x1000 ≤ u32 bs 0 ∧
     u32 bs 0 + 64 ≤ b.regs.wlimit.toNat * 4096 ∧ u32 [0xC0#8, 0xFF#8] 0 + 64 ≤ b.regs.wlimit.toNat * 4096) ∧
    (Still (tStart false tRead) ∧ lookBusy (tStart false tRead) = false) ∧
    (let b := setLook (.next 0x1000 tRead) (tStart false tRead)
     Still b ∧ lookBusy b = true) ∧
    (∀ acc, tOpen.ple.mirror ≠ .body acc) :=
  ⟨by decide +kernel, by decide +kernel, by decide +kernel, nofun⟩

/-- A block whose look timer runs, and blocks with the cursor on or behind a plan. -/
def tTimed (run : Bool) (l : Look) : Block :=
  let b := setPle (fun p => { p with lookTimer := true, look := l }) tOpen
  { b with regs := { b.regs with run := run } }
def tCursor (c : Cursor) (x : StreamState) (m : Mirror) : Block :=
  setPle (fun p => { p with cursor := c, mirror := m }) (tStream x)

theorem test_met_LooksStart :
    (Still (tTimed false .idle) ∧ Still (tTimed true .idle) ∧ lookBusy (tTimed true .idle) = false ∧
      Still (tTimed true (.next 0x1000 tRead)) ∧ lookBusy (tTimed true (.next 0x1000 tRead)) = true ∧
      (tTimed true .idle).ple.lookTimer = true) ∧
    (DueIn .lookStart (tCursor (.atPlan 0x1000) .running .idle) ∧
      (tCursor (.atPlan 0x1000) .running .idle).ftu.stream ≠ .stopped) ∧
    (DueIn .lookStart (tCursor (.afterPlan 0x1000) .stopped .idle) ∧
      mirrorBusy (tCursor (.afterPlan 0x1000) .stopped .idle) = false) ∧
    (DueIn .lookStart (tCursor (.afterPlan 0x1000) .waitingSync (.tail tWrite)) ∧
      mirrorBusy (tCursor (.afterPlan 0x1000) .waitingSync (.tail tWrite)) = true) := by decide +kernel

theorem test_met_NextFieldMovesCursor :
    (Still (tLook (.next 0x1000 tRead)) ∧ tRead.addr ≠ none ∧ u32 [] 0 = 0 ∧ tOpen.ple.lookPending = false ∧
      tOpen.ple.lookStop = false) ∧
    (let b := setPle (fun p => { p with lookPending := true }) (tLook (.next 0x1000 tRead))
     Still b ∧ b.regs.run = true ∧ .lookStart ∉ b.due) ∧
    (u32 [0x00#8, 0x10#8] 0 % 64 = 0 ∧ 0x1000 ≤ u32 [0x00#8, 0x10#8] 0) ∧
    (let b := setPle (fun p => { p with lookStop := true }) (tLook (.next 0x1000 tRead))
     Still b ∧ b.ple.lookStop = true ∧ b.ple.lookPending = false) := by decide +kernel

/-- Records of plans that are READY: SYNC, STAB ON, CAPTURE, ZOOM; and one of a bad kind. -/
def tSync : List Byte := tRec [1#8, 10#8]
def tCapRec : List Byte := tRec ([1#8, 8#8] ++ List.replicate 15 0#8 ++ [1#8, 0#8, 1#8])
def tCap : CapParams :=
  { count := 0, stride := 1, settledStart := false, maxWait := 1, aeLock := true, caf := false, cafStep := 0, cafHyst := 0,
    flip := false, endPolicy := false, notify := false }
def tStabRec : List Byte :=
  tRec ([1#8, 3#8] ++ List.replicate 14 0#8 ++
    [1#8, 6#8, 0#8, 0#8, 4#8, 1#8, 0#8, 0#8, 1#8, 0#8, 2#8, 0#8, 1#8, 0#8, 64#8])
def tStab : StabParams :=
  { leak := 6, boost := 0, biasOn := false, still := 1, track := 4, panThreshold := 2, panCount := 1, range := 1, centering := 64 }

theorem test_met_PlanReadDecides :
    (Still (tLook (.plan 0x1000 tRead)) ∧ tRead.addr ≠ none ∧ tOpen.ple.lookPending = false ∧ u8 (tRec []) 0 ≠ 1) ∧
    (u8 (tRec [1#8, 99#8]) 0 = 1 ∧ parseParams (tRec [1#8, 99#8]) = none) ∧
    (let b := setLook (.plan 0x1000 tRead) (tWith [tTaken .zoom [.zoom] .running])
     Still b ∧ u8 tSync 0 = 1 ∧ parseParams tSync = some .sync ∧ timeoutField .sync = none ∧
     blocked b (tRecOf .sync) = true ∧ blocked (tLook (.plan 0x1000 tRead)) (tRecOf .sync) = false ∧
     takingCheck (tLook (.plan 0x1000 tRead)) .sync = .pass) ∧
    (parseParams (tRec [1#8, 4#8]) = some (.zoom 0 false) ∧
      takingCheck (tLook (.plan 0x1000 tRead)) (.zoom 0 false) = .refuse .noTables ∧
      takingCheck (tMapped (tLook (.plan 0x1000 tRead))) (.zoom 0 false) = .pass) ∧
    (u8 tStabRec 0 = 1 ∧ parseParams tStabRec = some (.stabOn tStab) ∧ timeoutField (.stabOn tStab) = some 0x013) ∧
    (let b := setLook (.plan 0x1000 tRead) (tMapped (tStream .running))
     Still b ∧ u8 tCapRec 0 = 1 ∧ parseParams tCapRec = some (.capture tCap) ∧ takingCheck b (.capture tCap) = .pass ∧
     blocked b (tRecOf (.capture tCap)) = false) := by decide +kernel

/-- A pool of one slot in the greatest window, and the block that judges a CAPTURE plan. -/
def tPoolBytes : List Byte := [0#8, 0#8, 1#8, 0#8, 0#8, 0x50#8, 0xC3#8, 0#8, 1#8]
def tPool : Pool := { n := 1, base := 0x10000, stride := 12800000 }
def tJudge (held : Option Pool) (z : AxisState) : Block :=
  let b := setLook (.check (tRecOf (.capture tCap)) tRead) (tStream .running)
  { b with
    regs := { b.regs with wlimit := 0xFFFF#16 }
    zoom := { AxisUnit.reset with state := z }, fsu := { Fsu.reset with pool := held, p := 1#32 } }

theorem test_met_TakingCheckAndRefusal :
    (Still (tLook (.check (tRecOf (.stabOn tStab)) tRead)) ∧ u8 [0#8] 0 = 0 ∧ u8 [1#8] 0 ≠ 0 ∧ u8 [255#8] 0 = 255 ∧
      blocked (tLook (.check (tRecOf (.stabOn tStab)) tRead)) (tRecOf (.stabOn tStab)) = false ∧
      takingCheck tOpen (.stabOn tStab) = .pass ∧ tOpen.ple.lookPending = false) ∧
    (u32 tPoolBytes 0 = tPool.base ∧ u32 tPoolBytes 4 = tPool.stride ∧ u8 tPoolBytes 8 = tPool.n) ∧
    (Still (tJudge none .idle) ∧ goodPool (tJudge none .idle) { tPool with n := 21 } = false ∧
      goodPool (tJudge none .idle) { tPool with n := 20 } = true ∧ goodPool (tJudge none .idle) tPool = true) ∧
    (Still (tJudge (some { tPool with n := 2 }) .idle) ∧
      (tJudge (some { tPool with n := 2 }) .idle).fsu.p ≠ (tJudge (some { tPool with n := 2 }) .idle).fsu.heldQ) ∧
    (Still (tJudge (some tPool) .moving) ∧ (tJudge (some tPool) .moving).zoom.state.standing = false ∧
      (tJudge none .idle).zoom.state.standing = true) ∧
    (Still (tLook (.refuseOutcome 0x1000 true tWrite)) ∧ Still (tLook (.refuseState 0x1000 true tWrite)) ∧
      tWrite.addr ≠ none ∧ tOpen.ple.lookStop = false) := by decide +kernel

/-- For every plan some block is about to take it. -/
theorem test_met_TakeHandsOver (q : PlanParams) :
    takenNow (tLook (.taken (tRecOf q) (.timeout 5) tWrite)) = some (tRecOf q, .timeout 5) ∧
    Settles (tLook (.taken (tRecOf q) (.timeout 5) tWrite)).alone (tLook (.taken (tRecOf q) (.timeout 5) tWrite)) ∧
    (tLook (.taken (tRecOf q) (.timeout 5) tWrite)).ple.lookStop = false ∧
    (setPle (fun p => { p with lookStop := true }) tOpen).ple.lookStop = true ∧ tOpen.ple.lookPending = false :=
  ⟨rfl, rfl, rfl, rfl, rfl⟩

theorem test_met_StreamStopHandOver :
    Block.reset.ftu.stream = .stopped ∧
    ((tStream .lost).ftu.stream ≠ .stopped ∧ (tStream .lost).ftu.frame = none ∧ (tStream .lost).cap.state = .none ∧
      (tStream .lost).afu.search = none ∧ (tStream .lost).zmap.loading = .idle ∧
      classBusy (tStream .lost) .capture = false ∧ .streamStop ∉ (tStream .lost).due) ∧
    (let b := setFtu (fun u => { u with stopWaiting := true }) (tStream .stopped)
     DueIn .streamStop b ∧ b.ftu.stopWaiting = true ∧ classBusy b .capture = false) := by decide +kernel

/-- A block with the stabilization unit in a base state, with packet 1 received last. -/
def tSbu (s : SbuBase) : Block :=
  { tMapped tOpen with sbu := { Sbu.reset with base := s, lastSeq := some 1#4, gyroTimer := some 5, gyroTimeout := some 7 } }

theorem test_met_ExposureAndStabHandOver :
    (Block.reset.sbu.base = .off ∧ (tSbu .centering).sbu.base = .centering ∧ (tSbu .gyroLost).sbu.base = .gyroLost) ∧
    ((tSbu .active).sbu.base = .active ∧ (tSbu .active).sbu.pitch.s.natAbs ≤ tStab.range ∧
      (tSbu .active).sbu.yaw.s.natAbs ≤ tStab.range) := by decide +kernel

/-- Blocks whose axes have a reference, with a low supply and without. -/
def tReferenced (m : Msense) : Block :=
  { tMapped tOpen with
    zoom := tAxis .idle .zoomPlan, focus := { tAxis .idle .search with move := none }, ldu := { Ldu.reset with msense := m } }

theorem test_met_MoveStart :
    (axisOf Block.reset .zoom).referenced = false ∧
    ((axisOf (tReferenced 2) .zoom).referenced = true ∧ supplyIsLow (tReferenced 2) .zoom = true) ∧
    ((axisOf (tReferenced 3) .focus).referenced = true ∧ supplyIsLow (tReferenced 3) .focus = false) ∧
    ((startMove .zoom .zoomPlan 5 (tReferenced 3)).2 = none ∧ (startMove .zoom .zoomPlan 5 (tReferenced 2)).2 = some .supplyLow ∧
      (startMove .focus (.focusPlan (.position 5)) 5 (tReferenced 3)).2 = none ∧
      (startMove .focus (.focusPlan (.position 5)) 5 (tReferenced 2)).2 = some .supplyLow ∧
      trackingMove (startMove .focus (.focusPlan (.position 5)) 5 (tReferenced 2)).1 = false ∧
      (startMove .focus (.focusPlan (.distance 1024)) (nearAt (tReferenced 3) 0) (tReferenced 3)).2 = none) := by
  decide +kernel

theorem test_met_SearchAndCaptureHandOver : tCap.caf = false := rfl

theorem test_met_TablesSyncReferenceHandOver :
    supplyIsLow (tReferenced 2) .zoom = true ∧ supplyIsLow (tReferenced 3) .zoom = false ∧ tOpen.zmap.tables = none ∧
    (tReferenced 3).zmap.tables = some tTables ∧ tBlk.ref.direction ≤ 1 ∧ tBlk.ref.edge ≤ 1 ∧ 1 ≤ tBlk.ref.duty ∧
    tBlk.ref.duty ≤ 255 ∧ 1 ≤ tBlk.ref.travel ∧ tBlk.ref.travel ≤ 65535 := by decide +kernel

/-- An ending in its result writes. -/
def tEnd (out : List (ResultWrite × WriteAcc)) (failed : Option FaultCode) (fw : FailWrite) (tails : Nat) : EndingProg :=
  { fin := .done, outstanding := out, failed := failed, failWrite := fw, tails := tails }
def tEnding (out : List (ResultWrite × WriteAcc)) (failed : Option FaultCode) (fw : FailWrite) (tails : Nat) : Block :=
  tWith [tTaken .sync [] (.results (tEnd out failed fw tails))]

theorem test_met_PlanEndingBegins :
    takenOf tOpen .sync = none ∧
    takenOf (tWith [tTaken .sync [] .running]) .sync = some (tTaken .sync [] .running) ∧
    takenOf (tWith [tTaken .tables [] .cancelling]) .tables = some (tTaken .tables [] .cancelling) ∧
    takenOf (tEnding [] none .notIssued 1) .sync = some (tTaken .sync [] (.results (tEnd [] none .notIssued 1))) ∧
    mirrorBusy (setPle (fun p => { p with mirror := .tail tWrite }) tOpen) = true ∧ mirrorBusy tOpen = false := by
  decide +kernel

theorem test_met_EndingResultsWritten :
    (let out := [(ResultWrite.outcome, tWrite), (.word, tWrite)]
     Still (tEnding out none .notIssued 1) ∧ tWrite.addr ≠ none ∧
     takenOf (tEnding out none .notIssued 1) .sync = some (tTaken .sync [] (.results (tEnd out none .notIssued 1))) ∧
     out.find? (fun x => x.1 == .word) = some (.word, tWrite) ∧ out.filter (fun x => x.1 != .word) ≠ []) ∧
    (let out := [(ResultWrite.area, tWrite)]
     Still (tEnding out none .notIssued 1) ∧ Still (tEnding out none .notIssued 0) ∧
     out.find? (fun x => x.1 == .area) = some (.area, tWrite) ∧ out.filter (fun x => x.1 != .area) = []) ∧
    (Still (tEnding [] (some .window) (.outstanding tWrite) 0) ∧ Still (tEnding [] (some .window) (.outstanding tWrite) 1)) :=
  by decide +kernel

theorem test_met_FinalStateFreesClasses :
    let b := tWith [tTaken .exposure [.exposure] (.finalWrite tWrite)]
    Still b ∧ takenOf b .exposure = some (tTaken .exposure [.exposure] (.finalWrite tWrite)) ∧ tWrite.addr ≠ none ∧
    b.regs.run = true := by decide +kernel

theorem test_met_MirrorRewriteSteps :
    DueIn .mirrorStart tOpen ∧
    (∀ m ∈ [Mirror.head [] tWrite, .body tWrite, .tail tWrite], Still (setPle (fun p => { p with mirror := m }) tOpen)) ∧
    tWrite.addr ≠ none ∧
    ((tEnd [] none .notIssued 1).outstanding = [] ∧ (tEnd [] none .notIssued 1).failed = none ∧
      (tEnd [] none .notIssued 1).failWrite = .notIssued ∧ (tEnd [] none .notIssued 1).tails = 1) := by decide +kernel

/-- A frame in progress before line j, with a line of n pixels begun. -/
def tFrame (j : Nat) (px : Option Nat) (ended : Bool) : FrameProg :=
  { k := 3#32, ls := j, done := j - 1, linePx := px, short := false, ended := ended, opened := false }
def tFramed (f : FrameProg) (x : StreamState) : Block := setFtu (fun u => { u with frame := some f }) (tStream x)

theorem test_met_SyncPulsesIgnored :
    (Still Block.reset ∧ Block.reset.ftu.stream = .stopped ∧ Block.reset.ftu.syncTimer = false ∧
      Block.reset.ftu.periodRun = false) ∧
    (Still (tStream .waitingSync) ∧ Still (tStream .lost) ∧ (tStream .lost).ftu.periodRun = true) := by decide +kernel

theorem test_met_FrameSyncStartsMeasuring :
    (Still (tStream .waitingSync) ∧ (tStream .waitingSync).ftu.stream = .waitingSync) ∧
    (Still (tStream .lost) ∧ (tStream .lost).ftu.stream = .lost) := by decide +kernel

/-- A stream with a period of 8000, the line time measured: at most 1000 more or less is no jump. -/
def tPeriod (x : StreamState) (m : Bool) : Block :=
  setFtu (fun u => { u with prevPeriod := some 8000, lineMeasured := m }) (tFramed (tFrame 1650 none true) x)

theorem test_met_FrameSyncCapturesPeriod :
    (Still (tPeriod .running true) ∧ (tPeriod .running true).ftu.fmt = some tFmt ∧
      (tPeriod .running true).ftu.period ≠ 120000000 ∧
      ¬8000 < (max (9000 - 8000) (8000 - 9000)) * 8 ∧ 8000 < (max (9001 - 8000) (8000 - 9001)) * 8) ∧
    (Still (tPeriod .measuring false) ∧ (tPeriod .measuring false).ftu.lineMeasured = false) := by decide +kernel

theorem test_met_LineSyncCountsLines :
    (Still (tFramed (tFrame 1650 none true) .running) ∧ tFmt.lines ≤ (tFrame 1650 none true).ls) ∧
    (Still (tFramed (tFrame 1600 (some 3999) false) .measuring) ∧ (tFrame 1600 (some 3999) false).ls = tFmt.active) ∧
    (Still (tFramed (tFrame 0 none false) .running) ∧ (tFrame 0 none false).ls < tFmt.lines ∧
      (tFrame 1649 none true).ls < tFmt.lines) := by decide +kernel

theorem test_met_SyncTimerExpires :
    (Still (tFramed (tFrame 5 (some 4000) false) .running) ∧ (tStream .running).ftu.syncTimer = true) ∧
    (let b := setPle (fun p => { p with taken := [tTaken .streamStart [.stream] .running] }) (tStream .waitingSync)
     Still b ∧ b.ftu.syncTimer = true ∧ b.ftu.stream = .waitingSync ∧ b.ftu.frame = none ∧
     takenOf b .streamStart = some (tTaken .streamStart [.stream] .running)) := by decide +kernel

/-- An entry for frame k, and a running stream whose pipeline holds entries. -/
def tEntry (k : Word) (s : SendState) : Entry :=
  { k := k, e := 192, g := 20, c := 0, xTarget := 140, xApp := 140, source := .auto, underFlag := false, overFlag := false,
    slewFlag := false, sbu := .off, zoomPos := 0, late := false, role := .pending, send := s, meterReleased := false,
    recordReleased := false }
def tPipe (l : List Entry) (d : Option DueEntry) (ln : Link) : Block :=
  setFtu (fun u => { u with pipeline := l, dueEntry := d, link := ln }) (tFramed (tFrame 0 none false) .running)

theorem test_met_AckCompletesSend :
    (Still (tPipe [] none .idle) ∧ (tPipe [] none .idle).ftu.link = .idle) ∧
    (Still (tPipe [tEntry 4#32 .sending] none (.waiting 192 20)) ∧
      ∀ x ∈ [tEntry 4#32 .sending], x.send ≠ .unsent) ∧
    (Still (setFtu (fun u => { u with stream := .stopped }) (tPipe [tEntry 4#32 .unsent] none (.waiting 192 20)))) ∧
    (let l := [tEntry 4#32 .sending, tEntry 5#32 .unsent]
     Still (tPipe l none (.waiting 192 20)) ∧
     ((l.map fun x => if x.send = .sending then { x with send := .acknowledged } else x).find? fun y => y.send == .unsent) =
       some (tEntry 5#32 .unsent)) := by decide +kernel

theorem test_met_EntryCalls :
    ((tPipe [] none .idle).ftu.fmt = some tFmt ∧
      tFmt.latency < [tEntry 3#32 .unsent, tEntry 4#32 .unsent, tEntry 5#32 .unsent].length ∧
      [tEntry 4#32 .unsent, tEntry 5#32 .unsent].length ≤ tFmt.latency) ∧
    (DueIn .dueEntry (tPipe [] (some (.create 5#32)) .idle) ∧ frameAbove 5#32 (tPipe [] none .idle).ftu.frameNo = true ∧
      frameAbove 0#32 (tPipe [] none .idle).ftu.frameNo = false ∧ (tPipe [] none .idle).ftu.stream ≠ .lost) ∧
    (tStream .running).ftu.frame = none := by decide +kernel

theorem test_met_StepConversions :
    (1 ≤ 1 ∧ 65535 ≤ 65535) ∧ (2 ^ 4 ≤ 16 ∧ 16 < 2 ^ 5 ∧ 2 ^ 4 ≤ 31 ∧ 31 < 2 ^ 5) ∧ 15 ≤ 16 := by decide

theorem test_met_ProgramEntryBounds :
    tFmt.margin < tFmt.lines ∧ tFmt.lines ≤ 16383 ∧ { tFmt with margin := 1649 }.margin < tFmt.lines ∧
    { tFmt with lines := 16383 }.lines ≤ 16383 := by decide

/-- Stats-ready of frame 3, valid or not, in the three lists. -/
def tStats (valid : Bool) : StatsRecord :=
  { k := 3#32, levels := List.replicate 64 118, clipped := 2, focus := 1000, valid := valid, untimed := !valid,
    periodJump := false, lineCount := false, cut := false, old := false }
def tStatsReady (valid : Bool) (l : List Entry) : Block :=
  { tMapped (tPipe l none .idle) with
    exu := { Exu.reset with inbox := [tStats valid] }
    afu := { Afu.reset with inbox := [tStats valid], candidates := [{ k := 3#32, still := true }] }
    fsu := { Fsu.reset with inbox := [tStats valid] } }

theorem test_met_MeteringUpdatesExposure :
    (let b := tStatsReady true [tEntry 3#32 .acknowledged, tEntry 4#32 .unsent]
     Still b ∧ b.exu.inbox = tStats true :: [] ∧ entryOf b 3#32 = some (tEntry 3#32 .acknowledged) ∧
     (tStats true).valid = true ∧ effectiveMode b.exu = .auto ∧
     (∀ x ∈ b.ftu.pipeline, frameAbove x.k 3#32 = true → x.xTarget = 140) ∧
     effectiveMode { b.exu with lock := true } ≠ .auto) ∧
    (let b := tStatsReady true [tEntry 3#32 .acknowledged, { tEntry 4#32 .unsent with xTarget := 141 }]
     Still b ∧ ¬∀ x ∈ b.ftu.pipeline, frameAbove x.k 3#32 = true → x.xTarget = 140) ∧
    (let p := { ExpParams.reset with deadband := 2, guardZones := 1, response := 4 }
     (2 : Int).natAbs ≤ p.deadband ∧ p.deadband < (3 : Int).natAbs ∧ p.guardZones < 2 ∧
     (0 : Int) < max (-(p.stepMax : Int)) (min ((3 * p.response : Int).tdiv 4) p.stepMax) ∧
     max (-(p.stepMax : Int)) (min ((-3 * p.response : Int).tdiv 4) p.stepMax) ≤ 0 ∧ 1 ≤ p.guardZones) ∧
    (Still (tStatsReady false [tEntry 3#32 .acknowledged]) ∧ (tStats false).valid = false ∧
      Still (tStatsReady true []) ∧ entryOf (tStatsReady true []) 3#32 = none) := by decide +kernel

/-- A frame of the frame store. -/
def tStored (slot : Option Nat) (ended stats metered : Bool) : StoreFrame :=
  { candidateFrame Block.reset 3#32 false with
    slot := slot, frameEnded := ended, statsHandled := stats, metered := metered }

theorem test_met_StatsReachConsumers :
    (let b := tStatsReady true []
     Still b ∧ b.fsu.inbox = tStats true :: [] ∧ b.fsu.cur = none ∧ b.afu.inbox = tStats true :: []) ∧
    (let b := { tStatsReady true [] with
       fsu := { (tStatsReady true []).fsu with cur := some (tStored (some 0) false false false) } }
     Still b ∧ b.fsu.cur = some (tStored (some 0) false false false) ∧ (tStored (some 0) false false false).k = 3#32) ∧
    ((tStats true).valid = true ∧ (∃ c ∈ (tStatsReady true []).afu.candidates, c.k = 3#32 ∧ c.still = true)) ∧
    (Still (tStatsReady false []) ∧ ¬(tStats false).valid = true) ∧
    (∀ sr ∈ [none, some (tSearch true none), some (tSearch false none), some (tSearch true (some (.done, .ok, .ok)))],
      ∀ caf ∈ [true, false],
        let b := { tStatsReady true [] with
          afu := { (tStatsReady true []).afu with search := sr, cafActive := caf } }
        Still b ∧ b.afu.cafLast = none) := by decide +kernel

/-- Axes with accepted phases: in a move, in a search, and before the first sample. -/
def tPhases (a : AxisUnit) : Block := { tMapped tOpen with focus := { a with phaseA := some true, phaseB := some false } }

theorem test_met_EncoderInputsCount :
    (let b := tPhases (tAxis .moving .search)
     Still b ∧ (axisOf b .focus).phaseA = some true ∧ (axisOf b .focus).phaseB = some false ∧
     (axisOf b .focus).search = none ∧ (axisOf b .focus).state = .moving ∧ (axisOf b .focus).move ≠ none) ∧
    (let b := { tPhases (tSearching true) with ldu := { refPlan := some (tRef .focus), msense := 8 } }
     Still b ∧ (axisOf b .focus).search ≠ none ∧ b.ldu.refPlan = some (tRef .focus) ∧
     (axisOf b .focus).state = .referencing) ∧
    (Still tOpen ∧ (axisOf tOpen .zoom).phaseA = none ∧ (axisOf tOpen .zoom).phaseB = none) ∧
    (∀ st ∈ [AxisState.idle, .faulted, .unreferenced, .braking],
      let b := tPhases { AxisUnit.reset with state := st }
      Still b ∧ (axisOf b .focus).state = st ∧ (axisOf b .focus).move = none) := by decide +kernel

/-- A focus move at a position with a target and counts; the greatest distance of a band, the edges of the hard limit. -/
def tMove (pos : BitVec 16) (target : Int) (stall low : Nat) : Block :=
  { tReferenced 3 with
    zmap := { (tReferenced 3).zmap with focusLim := { lo := -1000, hi := 1000 } }
    focus := { tAxis .moving .search with
      counter := pos, target := target, stall := stall, supplyLow := low, lastPos := pos.toInt } }

theorem test_met_MoveExpiryBands :
    (∀ x ∈ [(0#16, 3, 0, 0), (0#16, 10, 6, 1), (1020#16, 1000, 0, 0), (0#16, 5, 7, 0), (0#16, 5, 0, 2), (1021#16, 1000, 0, 0)],
      let b := tMove x.1 x.2.1 x.2.2.1 x.2.2.2
      Still b ∧ blockOf b .focus = some tBlk ∧ (axisOf b .focus).move = (tAxis .moving .search).move ∧
      (axisOf b .focus).state = .moving ∧ limitsOf b .focus = { lo := -1000, hi := 1000 }) ∧
    (position (tMove 1020#16 1000 0 0).focus = 1020 ∧ ¬(1000 + tBlk.hardMargin : Int) < 1020 ∧
      (1000 + tBlk.hardMargin : Int) < 1021) ∧
    (tBlk.stallDuty ≤ 200 ∧ 6 + 1 < tBlk.stallPeriods ∧ tBlk.stallPeriods ≤ 7 + 1 ∧ 2 ≤ tBlk.supplyLevel ∧ 1 + 1 < 3 ∧
      3 ≤ 2 + 1) := by decide +kernel

theorem test_met_MoveEnds :
    (let b := { tReferenced 3 with zoom := tAxis .settling .zoomPlan }
     DueIn (.settled .zoom) b ∧ b.zoom.move ≠ none ∧ b.zmap.trackActive = false ∧ DueIn (.stall .zoom) b ∧
     DueIn (.supply .zoom) b ∧ (axisOf b .zoom).search = none ∧ Still b ∧ (axisOf b .zoom).moveTimer ≠ none ∧
     (axisOf b .zoom).state ≠ .idle) ∧
    (∀ g ∈ [Giver.focusPlan (.distance 7), .caf],
      let b := { tReferenced 3 with focus := tAxis .moving g }
      DueIn (.settled .focus) b ∧ b.focus.move = some { giver := g, prevDuty := some 200, expiries := 3 } ∧
      DueIn (.stall .focus) b) ∧
    (let b := { tReferenced 3 with zoom := { tAxis .braking .zoomPlan with move := none, braking := 2 } }
     DueIn (.braking .zoom) b ∧ (axisOf b .zoom).state = .braking ∧ b.ldu.refPlan = none ∧ Still b ∧
     1 < (axisOf b .zoom).braking ∧ position (axisOf b .zoom) = (axisOf b .zoom).lastPos) := by decide +kernel

/-- A block that runs a REFERENCE plan. -/
def tRefs (st : RefStage) (z f : AxisUnit) (iris : Option Nat) : Block :=
  { tMapped tOpen with
    zoom := z, focus := f, iris := { Iris.reset with stage := iris }, ldu := { refPlan := some (tRef st), msense := 8 } }

theorem test_met_ReferenceSearch :
    (let b := tRefs .zoom (tSearching false) AxisUnit.reset none
     Still b ∧ b.ldu.refPlan = some (tRef .zoom) ∧ (axisOf b .zoom).search = (tSearching false).search ∧
     (axisOf b .zoom).refLevel = some !tSet.rising ∧ (axisOf b .zoom).state = .referencing ∧
     DueIn (.noMotion .zoom) b ∧ (axisOf b .zoom).search ≠ none) ∧
    (let b := tRefs .zoom (tSearching true) AxisUnit.reset none
     Still b ∧ travelOf b .zoom ≤ tSet.travel ∧ ((blockOf b .zoom).map (·.supplyLevel)).getD 0 < 3 ∧
     (axisOf b .zoom).counter = 0#16 ∧ 63 ≤ 62 + 1) ∧
    (let a := { tAxis .braking .zoomPlan with move := none }
     DueIn (.braking .zoom) (tRefs .zoom a AxisUnit.reset none) ∧ a.referenced = true ∧ a.stopFaulted = false ∧
     a.state = .braking ∧ (tRef .zoom).stage = .zoom ∧
     DueIn (.braking .focus) (tRefs .focus AxisUnit.reset a none) ∧ (tRef .focus).stage = .focus) := by decide +kernel

/-- An iris of travel 10 at a position with steps left. -/
def tIris (pos : Nat) (steps : Int) : Block :=
  { tOpen with iris := { position := pos, referenced := true, cTravel := 10, steps := steps, stage := none } }

theorem test_met_PwmAndIrisSteps :
    (∀ x ∈ [(9, (1 : Int)), (1, -1), (5, 0), (10, 1), (0, -1)], Still (tIris x.1 x.2) ∧ (tIris x.1 x.2).iris.stage = none) ∧
    (∀ n ∈ [2, 1],
      let b := tRefs .iris AxisUnit.reset AxisUnit.reset (some n)
      Still b ∧ b.iris.stage = some n ∧ b.ldu.refPlan = some (tRef .iris) ∧
      ((blockOf b .focus).map (·.supplyLevel)).getD 0 < 3) := by decide +kernel

/-- A TABLES plan in a stage, and a block with a trace write in flight. -/
def tLoad (l : Loading) (x : StreamState) : Block := setZmap (fun z => { z with loading := l }) (tStream x)
def tTab : TablesParams := { mapOff := 0x1000, zoomOff := 0x2000, focusOff := 0x2040, weightOff := 0x3000, margin := 50 }
def tTrace (ws : List (Nat × WriteAcc)) (sr : Option Search) : Block :=
  { tWith [tTaken .afSearch [.focus] .running] with afu := { Afu.reset with writes := ws, search := sr } }

/-- The bytes of a good map, of good axis blocks, and of good weights. -/
def tMapBytes : List Byte :=
  (List.range 33).flatMap fun j =>
    leInt 2 (100 * (j : Int)) ++ leBytes 2 100 ++ leBytes 2 833 ++ [24#8, 0#8] ++ leBytes 2 3500 ++ leInt 2 0 ++ leInt 2 100 ++
      [0#8, 0#8]
def tBlkBytes : List Byte :=
  [20#8, 3#8, 4#8, 2#8, 8#8, 8#8, 100#8, 2#8, 40#8, 80#8, 120#8, 200#8] ++
    leBytes 2 10 ++ leBytes 2 50 ++ leBytes 2 200 ++ leBytes 2 500 ++ leInt 2 (-1000) ++ leInt 2 1000 ++ leBytes 2 20 ++
    [0#8, 0#8, 60#8, 0#8] ++ leBytes 2 3000 ++ leInt 2 0 ++ leBytes 2 5
def tGood : List (List Byte) := [tMapBytes, tBlkBytes, tBlkBytes]

theorem test_met_TablesAndTraceResponses :
    (Still (tLoad (.reading tTab [] tRead) .running) ∧ tRead.addr ≠ none ∧ ([] : List (List Byte)).length < 3 ∧
      [tMapBytes, tBlkBytes].length < 3) ∧
    (tGood.length = 3 ∧ validateTables (parseTableSet (tGood ++ [List.replicate 256 1#8]) 50) = none ∧
      validateTables (parseTableSet (tGood ++ [List.replicate 256 16#8]) 50) = some (8, 0) ∧
      Still (tLoad (.reading tTab tGood tRead) .stopped) ∧ Still (tLoad (.reading tTab tGood tRead) .waitingSync) ∧
      Still (tLoad (.reading tTab tGood tRead) .lost)) ∧
    (Still (tLoad (.aborted tRead) .running) ∧ Still (tLoad (.reading tTab [] tReadOut) .stopped) ∧ tReadOut.addr = none) ∧
    (∀ sr ∈ [none, some (tSearch false none), some (tSearch false (some (.done, .found, .ok)))],
      ∀ ws ∈ [[(31, tWrite)], [(0, tWrite), (31, tWrite)]],
        Still (tTrace ws sr) ∧ ws.find? (fun w => w.1 == 31) = some (31, tWrite) ∧
        takenOf (tTrace ws sr) .afSearch = some (tTaken .afSearch [.focus] .running)) := by decide +kernel

theorem test_met_GyroPackets :
    (∀ s ∈ [SbuBase.off, .gyroLost, .centering, .active], Still (tSbu s) ∧ (tSbu s).sbu.base = s) ∧
    ((0x2000000000#40).extractLsb' 36 4 - 1#4 - 1#4 = 0#4 ∧ ((0x5000000000#40).extractLsb' 36 4 - 1#4 - 1#4).toNat = 3 ∧
      ((0x6000000000#40).extractLsb' 36 4 - 1#4 - 1#4).toNat = 4) ∧
    (let lost := fun n => { tSbu .gyroLost with sbu := { (tSbu .gyroLost).sbu with inSeq := n } }
     Still (lost 14) ∧ Still (lost 15) ∧ .recovered ∉ (lost 15).due ∧ 14 + 1 < 16 ∧ 16 ≤ 15 + 1) ∧
    (let c := fun n => { tSbu .centering with sbu := { (tSbu .centering).sbu with centering := n } }
     Still (c 254) ∧ Still (c 255) ∧ 254 + 1 < (c 254).sbu.prm.centering ∧ (c 255).sbu.prm.centering ≤ 255 + 1 ∧
     .centering ∉ (c 255).due) := by decide +kernel

/-- A sample in progress, with a pan flag change due for one axis or for both. -/
def tSample : GyroSample := { h := 10, pitch := { d := 5000, sat := false }, yaw := { d := 5000, sat := false } }
def tPan : Block := { tSbu .active with sbu := { (tSbu .active).sbu with sample := some tSample } }

theorem test_met_GyroStatesAndPanFlags :
    (∀ s ∈ [SbuBase.gyroLost, .centering, .active], Still (tSbu s) ∧ (tSbu s).sbu.gyroTimer ≠ none) ∧
    (Still tOpen ∧ tOpen.sbu.gyroTimer = none) ∧
    (DueIn .centering (tSbu .centering) ∧ DueIn .recovered (tSbu .gyroLost) ∧ DueIn (.hold .pitch) (tSbu .active) ∧
      DueIn (.hold .yaw) (tSbu .active)) ∧
    (DueIn (.pan .yaw) tPan ∧ tPan.sbu.sample = some tSample ∧ (∀ q ∈ [Rot.pitch, .yaw], .pan q ∉ tPan.due) ∧
      DueIn (.pan .pitch) { tPan with due := [.pan .yaw] }) := by decide +kernel

theorem test_met_GyroSampleInActive :
    Still (tSbu .active) ∧ (tSbu .active).due = [] ∧ (tSbu .active).sbu.base = .active ∧
    (((0x2000000000#40).extractLsb' 36 4 - 1#4 - 1#4).toNat = 0 ∧ ((0x5000000000#40).extractLsb' 36 4 - 1#4 - 1#4).toNat = 3) ∧
    (tSbu .active).sbu.pitch.run + 1 < (tSbu .active).sbu.prm.panCount ∧
    (let b := { tSbu .active with
       sbu := { (tSbu .active).sbu with yaw := { RotUnit.reset with hold := 1, pan := true } } }
     Still b ∧ b.sbu.yaw.hold = 1) := by decide +kernel

/-- A block that waits for a read of Q: two frames are held. -/
def tQ (q : QRead) (refused : Option Word) (cur : Option StoreFrame) (n : Nat) : Block :=
  { tStream .running with
    cap := { Cap.reset with state := .storing }
    fsu := { Fsu.reset with
      pool := some { tPool with n := n }, p := 57#32, heldQ := 55#32, refusedQ := refused, cur := cur, qReads := [q] } }

theorem test_met_ReleasedCountRead :
    (let q : QRead := { acc := tRead, request := none }
     Still (tQ q none none 3) ∧ q.acc.addr ≠ none ∧ (55#32 - 55#32).toNat = 0 ∧ (57#32 - 55#32).toNat ≠ 0 ∧
     (57#32 - 55#32).toNat ≤ (57#32 - 55#32).toNat ∧ (57#32 - 55#32).toNat < (58#32 - 55#32).toNat ∧
     (57#32 - 55#32).toNat < (54#32 - 55#32).toNat ∧ u32 [58#8] 0 = 58 ∧ Still (tQ q (some 58#32) none 3) ∧
     (tQ q none none 3).fsu.refusedQ ≠ some 58#32) ∧
    (Still (tQ { acc := tReadOut, request := none } none none 3) ∧ tReadOut.addr = none) := by decide +kernel

theorem test_met_SlotRequestDecided :
    (∀ n ∈ [3, 2],
      let q : QRead := { acc := tRead, request := some 3#32 }
      let b := tQ q none (some (tStored none false false false)) n
      Still b ∧ q.acc.addr ≠ none ∧ b.fsu.cur = some (tStored none false false false) ∧
      (tStored none false false false).k = 3#32 ∧ (tStored none false false false).slot = none ∧
      BitVec.ofNat 32 (u32 [55#8] 0) = b.fsu.heldQ ∧ b.cap.prm = none) ∧
    (1 ≤ 3 - (57#32 - 55#32).toNat ∧ 2 - (57#32 - 55#32).toNat = 0) ∧
    (∀ l ∈ [[], [tEntry 0#32 .acknowledged]],
      let b := { tPipe l none .idle with cap := { Cap.reset with state := .armed } }
      DueIn .captureMaxWait b ∧ b.cap.state = .armed ∧ b.cap.filling = false ∧ b.fsu.cur = none) ∧
    (entryOf (tPipe [tEntry 0#32 .acknowledged] none .idle) (tPipe [] none .idle).ftu.frameNo ≠ none ∧
      entryOf (tPipe [] none .idle) (tPipe [] none .idle).ftu.frameNo = none) := by decide +kernel

/-- A frame store with writes in flight. -/
def tStore (w : List WriteAcc) (cur : Option StoreFrame) (r : Option WriteAcc) (p : List PWrite) : Block :=
  { tStream .running with
    cap := { Cap.reset with state := .storing, filling := true }
    fsu := { Fsu.reset with pool := some tPool, wbuf := w, cur := cur, recWrite := r, pWrites := p } }

theorem test_met_FrameWritesAnswered :
    (let b := tStore (List.replicate 8 tWrite) (some (tStored (some 0) false false false)) none []
     Still b ∧ b.fsu.wbuf[7]? = some tWrite ∧ b.fsu.places = [] ∧ (tStored (some 0) false false false).frameEnded = false) ∧
    (let f := tStored (some 0) true true true
     let b := tStore [tWrite] (some f) none []
     Still b ∧ b.fsu.cur = some f ∧ f.frameEnded = true ∧ f.statsHandled = true ∧ f.metered = true ∧ f.slot = some 0 ∧
     b.fsu.recWrite = none) ∧
    (Still (tStore [] (some (tStored (some 0) true true true)) (some tWrite) []) ∧ tWrite.addr ≠ none) ∧
    (∀ p ∈ [none, some { k := 3#32, busError := false, notify := true }],
      let b := tStore [] none none [{ acc := some tWrite, pub := p }]
      Still b ∧ b.fsu.pWrites = [{ acc := some tWrite, pub := p }] ∧ b.cap.state = .storing) ∧
    (Mirror.idle = (tStore [] none none []).ple.mirror) := by decide +kernel

/-! ### Further clauses of the statements -/

/-- Every clause on a response that arrives after a reset speaks of commands that exist. -/
theorem test_met_ResponseWithoutAccess_late :
    (Instr.burstResponse 0 ⟨true, false⟩).isLate = true ∧ (Instr.planReadDone ⟨true, .error⟩).isLate = true ∧
    (Instr.finalStateWriteDone .zoom ⟨true, true⟩).isLate = true ∧
    (Instr.burstResponse 0 ⟨false, false⟩).isLate = false := by decide

/-- Taken plans of the other owners: a search with its move in flight and without, with a trace write and without; a
REFERENCE plan; a TABLES plan that reads and one that waits; a capture whose frame waits for a slot. -/
def tSearchOf (moving : Bool) (ws : List (Nat × WriteAcc)) : Block :=
  { tWith [tTaken .afSearch [.focus, .zoom] .running] with
    focus := if moving then tAxis .moving .search else AxisUnit.reset
    afu := { Afu.reset with search := some (tSearch moving none), writes := ws } }

theorem test_met_AbortEffects_owners :
    (∀ mv ∈ [true, false], ∀ ws ∈ [[], [(0, tWrite)]],
      let b := tSearchOf mv ws
      let t := tTaken .afSearch [.focus, .zoom] .running
      Still b ∧ holderOf b .focus = some t ∧ takenOf b .afSearch = some t ∧ t.ending = .running ∧
      b.afu.search = some (tSearch mv none) ∧ (tSearch mv none).ended = none ∧
      b.focus.move.isSome = mv ∧ ∀ m ∈ b.focus.move, m.giver = .search) ∧
    (let t := tTaken .reference [.zoom, .focus, .exposure] .running
     let b := { tWith [t] with zoom := tSearching true, iris := { Iris.reset with stage := some 3 }, ldu := { refPlan := some (tRef .zoom), msense := 8 } }
     Still b ∧ holderOf b .zoom = some t ∧ takenOf b .reference = some t ∧ b.ldu.refPlan = some (tRef .zoom) ∧
     b.zoom.search.isSome = true ∧ b.focus.search.isSome = false ∧ b.iris.stage.isSome = true) ∧
    (∀ l ∈ [Loading.reading ⟨0x1000, 0x2000, 0x2040, 0x3000, 50⟩ [] tRead, .ready tTables],
      let t := tTaken .tables [.zoom, .focus, .capture] .running
      let b := setZmap (fun z => { z with loading := l }) (tWith [t])
      Still b ∧ holderOf b .capture = some t ∧ takenOf b .tables = some t ∧ b.zmap.loading = l) ∧
    (let f := candidateFrame Block.reset 3#32 false
     let b := { tBurst false with fsu := { Fsu.reset with cur := some f } }
     Still b ∧ b.fsu.cur ≠ none ∧ f.slot = none) := by decide +kernel

/-- A record with a byte at each offset of a list. -/
def tAt (l : List (Nat × Nat)) : List Byte :=
  (List.range 64).map fun i => BitVec.ofNat 8 ((l.find? fun x => x.1 == i).map (·.2) |>.getD 0)

/-- For each kind a record whose fields stand at the ends of their ranges, and one with a field just outside. -/
theorem test_met_PlanReadDecides_fields :
    (∀ k ∈ [0, 11, 255], parseParams (tAt [(0, 1), (1, k)]) = none) ∧ parseParams (tAt [(1, 10)]) = some .sync ∧
    (parseParams (tAt [(1, 1), (16, 1)]) = some .streamStop ∧
      (∀ a ∈ [15, 16], ∀ x ∈ [63, 64],
        (parseParams (tAt [(1, 1), (17, 1), (18, 1), (22, x), (24, a), (26, 0), (27, 1)])).isSome = (a == 16 && x == 64)) ∧
      (parseParams (tAt [(1, 1), (16, 2), (17, 1), (18, 1), (22, 64), (24, 16), (27, 1)])) = none) ∧
    (∀ m ∈ [0, 1, 2, 3], ∀ t ∈ [15, 16, 240, 241], ∀ c ∈ [207, 208, 48, 49],
      (parseParams (tAt [(1, 2), (16, m), (17, t), (18, c), (21, 1), (22, 1), (24, 192), (26, 1), (34, 1)])).isSome =
        (decide (m ≤ 2) && decide (16 ≤ t) && decide (t ≤ 240) && (c == 208 || c == 48))) ∧
    (parseParams (tAt [(1, 3)]) = some .stabOff ∧
      ∀ l ∈ [5, 6, 14, 15],
        (parseParams (tAt [(1, 3), (16, 1), (17, l), (24, 1), (20, 4), (26, 2), (21, 1), (28, 1), (30, 64)])).isSome =
          (decide (6 ≤ l) && decide (l ≤ 14))) ∧
    (parseParams (tAt [(1, 4), (16, 0xFF), (17, 0x7F), (18, 1)]) = some (.zoom 32767 true) ∧
      parseParams (tAt [(1, 4), (18, 2)]) = none ∧
      parseParams (tAt [(1, 5), (18, 0), (19, 0x80)]) = some (.focus (.position (-32768))) ∧
      parseParams (tAt [(1, 5), (16, 1), (21, 4)]) = some (.focus (.distance 1024)) ∧
      parseParams (tAt [(1, 5), (16, 1), (20, 1), (21, 4)]) = none ∧ parseParams (tAt [(1, 5), (16, 2)]) = none) ∧
    (∀ f ∈ [0, 1, 2], ∀ t ∈ [0, 0x0F, 0x10],
      (parseParams (tAt [(1, 6), (20, 2), (22, f), (18, 8), (19, 17), (27, 7), (29, 7), (33, t)])).isSome =
        (f == 1 && (t == 0 || t == 0x10))) ∧
    (parseParams (tAt [(1, 7), (32, 95)]) = none ∧ (parseParams (tAt [(1, 7), (32, 96)])).isSome = true) ∧
    (∀ s ∈ [0, 1, 8, 9],
      (parseParams (tAt [(1, 8), (17, s), (19, 1)])).isSome = (decide (1 ≤ s) && decide (s ≤ 8))) ∧
    (∀ h ∈ [0x0F, 0x10],
      (parseParams (tAt [(1, 9), (17, 0x10), (21, 0x10), (25, 0x10), (29, h), (32, 0xFF), (33, 0x0F)])).isSome =
        (h == 0x10)) := by decide +kernel

/-- The states in which the taking checks differ. -/
theorem test_met_PlanReadDecides_checks :
    (tStream .stopped).ftu.stream = .stopped ∧ (tStream .lost).ftu.stream ≠ .stopped ∧ tOpen.zmap.tables = none ∧
    (tMapped (tStream .lost)).zmap.tables ≠ none ∧ (tMapped (tStream .lost)).ftu.stream ≠ .running ∧
    (tMapped (tStream .running)).ftu.stream = .running ∧
    (let set : RawRefSet := { direction := 1, edge := 1, duty := 255, travel := 65535, offset := 0 }
     takingCheck tOpen (.reference { zoom := set, focus := set, cTravel := 96 }) = .pass ∧
     takingCheck tOpen (.reference { zoom := set, focus := { set with duty := 0 }, cTravel := 96 }) = .refuse .badPlan) ∧
    (∃ t ∈ (tWith [tTaken .sync [] .running]).ple.taken, t.detached = true ∧ t.kind = .sync) := by decide +kernel

theorem test_met_TakingCheckAndRefusal_timed :
    (let p := tRecOf (.stabOn tStab)
     let b := setLook (.check p tRead) (tWith [tTaken .stab [.stab] .running])
     Still b ∧ u8 [255#8] 0 ≠ 0 ∧ blocked b p = true) ∧
    (let p := tRecOf (.streamStart tFmt)
     let b := setLook (.check p tRead) (tStream .lost)
     Still b ∧ blocked b p = false ∧ takingCheck b p.params = .refuse .badPlan) := by decide +kernel

/-- Streams that a stop ends with a frame to cut, with a search, a swap and a capture in progress. -/
def tStopped (f : FrameProg) (ws : List (Nat × WriteAcc)) (cap : CapState) (filling : Bool) : Block :=
  { tFramed f .running with
    stu := { Stu.reset with
      geom := some { width := 4000, zw := 500, zh := 200 }
      latched := some { black := 0, clip := 255, window := tAf.window, coring := 0 }
      frame := some { k := 3#32, periodJump := false, untimed := false } }
    afu := { Afu.reset with search := some (tSearch false none), writes := ws }
    cap := { Cap.reset with state := cap, filling := filling }
    zmap := { Zmap.reset with loading := .ready tTables } }

theorem test_met_StreamStopHandOver_running :
    ∀ ended ∈ [false, true], ∀ ws ∈ [[], [(0, tWrite)]], ∀ cap ∈ [CapState.armed, .storing], ∀ filling ∈ [false, true],
      let b := tStopped (tFrame 5 (some 3999) ended) ws cap filling
      b.ftu.stream ≠ .stopped ∧ b.ftu.frame = some (tFrame 5 (some 3999) ended) ∧ b.stu.frame ≠ none ∧
      b.stu.geom ≠ none ∧ b.stu.latched ≠ none ∧ b.zmap.loading = .ready tTables ∧
      b.afu.search = some (tSearch false none) ∧ b.cap.endCause = none := by decide +kernel

theorem test_met_ExposureAndStabHandOver_cut :
    let b := { tSbu .active with sbu := { (tSbu .active).sbu with yaw := { RotUnit.reset with s := 2 } } }
    b.sbu.base = .active ∧ tStab.range < b.sbu.yaw.s.natAbs := by decide +kernel

/-- A block that tracks, its zoom axis at a position, its focus axis in a tracking move or still. -/
def tTracking (z : BitVec 16) (zl : Int) (moving : Bool) (m : Msense) : Block :=
  let b := tReferenced m
  { b with
    zoom := { b.zoom with counter := z }
    focus := if moving then tAxis .moving .tracking else b.focus
    zmap := { b.zmap with
      trackEnabled := true, trackActive := true, zLast := zl, u := 512, focusLim := { lo := -1000, hi := 1000 } } }

theorem test_met_MoveStart_tracking :
    (let b := tTracking 0#16 0 true 2
     (startMove .focus (.focusPlan (.distance 1024)) 100 b).2 = some .supplyLow ∧ trackingMove b = true ∧
     b.focus.state ≠ .idle ∧ trackWanted b = true ∧ b.zmap.trackActive = true) ∧
    (let b := { tTracking 0#16 0 true 3 with zmap := { (tTracking 0#16 0 true 3).zmap with trackEnabled := false } }
     trackWanted b = false ∧ b.zmap.trackActive = true ∧ trackingMove b = true ∧
     trackWanted { b with zmap := { b.zmap with trackActive := false } } = false) ∧
    (trackWanted { tTracking 0#16 0 false 3 with zmap := { (tTracking 0#16 0 false 3).zmap with trackActive := false } } =
      true) ∧
    (((blockOf (tTracking 4#16 0 false 3) .focus).map (·.trackStep)).getD 0 = 5 ∧
      position (tTracking 4#16 0 false 3).zoom = 4 ∧ position (tTracking 5#16 0 false 3).zoom = 5) ∧
    (let b := tTracking 5#16 0 false 3
     infAt b 5 + roundHalfAway ((nearAt b 5 - infAt b 5) * 512) 1024 = 55 ∧ 55 ≠ b.focus.target ∧
     (startMove .focus .tracking 55 { b with zmap := { b.zmap with zLast := 5 } }).2 = none ∧
     (startMove .focus .tracking 55 { b with ldu := { b.ldu with msense := 2 } }).2 = some .supplyLow) := by
  decide +kernel

theorem test_met_SearchAndCaptureHandOver_caf : { tCap with caf := true, cafStep := 1, cafHyst := 1 }.caf = true := rfl

/-- Endings whose result writes fail, or are answered before the mirror's tails. -/
theorem test_met_EndingResultsWritten_failures :
    (∀ err ∈ [false, true], tWriteOut.fault err = some .window) ∧ tWrite.fault true = some .writeError ∧
    (let out := [(ResultWrite.outcome, tWriteOut), (.area, tWrite)]
     let e := tEnd out none .notIssued 2
     Still (tEnding out none .notIssued 2) ∧ e.outstanding.find? (fun x => x.1 == .outcome) = some (.outcome, tWriteOut) ∧
     e.failWrite = .notIssued ∧ e.outstanding.filter (fun x => x.1 != .outcome) ≠ [] ∧ e.tails ≠ 0) ∧
    (let e := tEnd [(.area, tWrite)] (some .writeError) .notIssued 0
     Still (tEnding [(.area, tWrite)] (some .writeError) .notIssued 0) ∧
     e.outstanding.filter (fun x => x.1 != .area) = [] ∧ e.failed = some .writeError) ∧
    (let e := tEnd [] (some .window) (.outstanding tWriteOut) 1
     e.outstanding = [] ∧ e.failed ≠ none ∧ e.failWrite = .outstanding tWriteOut ∧ e.tails ≠ 0) := by decide +kernel

/-- The initial entry, the late re-key, the releases and window-open. -/
def tClosing : Entry := { tEntry 3#32 .acknowledged with role := .closing }

theorem test_met_EntryCalls_moves :
    (let b := setFtu (fun u => { u with stream := .measuring, lineMeasured := false, first := some (tEntry 0#32 .acknowledged) })
       (tPipe [] none .idle)
     b.ftu.stream = .measuring ∧ b.ftu.lineMeasured = false ∧ b.ftu.first ≠ none) ∧
    (entryOf (tPipe [tEntry 5#32 .unsent] none .idle) (5#32 + BitVec.ofNat 32 tFmt.latency - 2) ≠ none ∧
      entryOf (tPipe [tEntry 5#32 .unsent] none .idle) (6#32 + BitVec.ofNat 32 tFmt.latency - 2) = none) ∧
    (let b := tPipe [{ tClosing with recordReleased := true }, tEntry 4#32 .unsent] (some (.create 5#32)) .idle
     b.ftu.dueEntry ≠ none ∧ b.ftu.stream ≠ .lost ∧ b.ftu.pipeline.length ≤ tFmt.latency + 1 ∧
     (meterRelease 3#32 b).ftu.pipeline.length < b.ftu.pipeline.length ∧ .dueEntry ∉ b.due ∧
     (recordRelease 3#32 b).ftu.pipeline.length = b.ftu.pipeline.length) ∧
    (let b := tPipe [tEntry 4#32 .acknowledged] none .idle
     ∀ j ∈ [1458, 1459],
       let f := tFrame j none false
       let c := setFtu (fun u => { u with frame := some f }) b
       c.ftu.frame = some f ∧ entryOf c (f.k + 1) = some (tEntry 4#32 .acknowledged) ∧ f.opened = false ∧
       tFmt.lines - (tEntry 4#32 .acknowledged).e = 1458) ∧
    (let l := [tEntry 3#32 .acknowledged, tEntry 5#32 .unsent]
     let e := tEntry 4#32 .unsent
     (∀ x ∈ e :: l, (x.k - 3#32).toNat < 2147483648) ∧ (∀ x ∈ l, x.k ≠ e.k) ∧
     l.Pairwise (fun x y => frameAbove y.k x.k = true) ∧ insertEntry e l = [tEntry 3#32 .acknowledged, e, tEntry 5#32 .unsent]) :=
  by decide +kernel

theorem test_met_StepConversions_map :
    (tTables.nodes.Pairwise fun x y => x.p < y.p) ∧ tTables.nodes[31]? = some (tNode 1500) ∧
    tTables.nodes[32]? = some (tNode 1600) ∧ tTables.nodes[33]? = none ∧ lastPos tTables.nodes = 1600 ∧
    (tNode 1500).p ≤ 1600 ∧ tTables.nodes ≠ [] ∧ tOpen.zmap.tables = none ∧ (tMapped tOpen).zmap.tables = some tTables ∧
    (tMapped tOpen).zoom.referenced = false ∧ (tReferenced 3).zoom.referenced = true ∧
    (let b := tReferenced 3
     nearAt b (position b.zoom) ≠ infAt b (position b.zoom)) := by decide +kernel

theorem test_met_ProgramEntryBounds_hand :
    handLimit (tReferenced 3) = some 833 ∧ effectiveMode (tReferenced 3).exu ≠ .manual := by decide +kernel

theorem test_met_MeteringUpdatesExposure_closing :
    (let b := tStatsReady true [tClosing, tEntry 4#32 .unsent]
     Still b ∧ entryOf b 3#32 = some tClosing ∧ tClosing.role = .closing ∧ (tStats true).old = false) ∧
    (let r := { tStats true with old := true }
     let b := { tStatsReady true [] with exu := { Exu.reset with inbox := [r] } }
     Still b ∧ b.exu.inbox = [r] ∧ r.old = true) ∧
    (let b := tStatsReady true [tEntry 3#32 .acknowledged]
     Still b ∧ entryOf b 3#32 = some (tEntry 3#32 .acknowledged) ∧ (tEntry 3#32 .acknowledged).role ≠ .closing) := by
  decide +kernel

theorem test_met_StatsReachConsumers_sums :
    (let b := tStopped (tFrame 5 (some 3999) false) [] .none false
     b.stu.geom = some { width := 4000, zw := 500, zh := 200 } ∧ 500 * 8 ≤ 4000 ∧ tAf.window.x1 ≤ 7 ∧
     b.stu.latched ≠ none ∧ b.stu.frame ≠ none ∧ 1599 / 200 < 8 ∧ 8 ≤ 1600 / 200 ∧ tAf.window.y0 ≤ 600 / 200 ∧
     999 / 200 ≤ tAf.window.y1 ∧ 599 / 200 < tAf.window.y0 ∧ tAf.window.y1 < 1000 / 200) ∧
    (Stu.reset.line = none ∧
      { Stu.reset with line := some { row := 7, sums := List.replicate 8 1, focus := 4294967295 } }.line ≠ none) := by
  decide +kernel

/-- Moves of every giver of the focus axis that end, and a zoom move that ends while tracking is active. -/
theorem test_met_MoveEnds_givers :
    (∀ g ∈ [Giver.focusPlan (.position 7), .search, .caf, .tracking],
      let b := { tReferenced 3 with focus := tAxis .settling g }
      DueIn (.settled .focus) b ∧ b.focus.move ≠ none ∧ (∀ m ∈ b.focus.move, m.giver = g) ∧ DueIn (.stall .focus) b ∧
      DueIn (.supply .focus) b ∧ b.focus.search = none ∧ b.focus.state ≠ .idle) ∧
    (let b := { tTracking 0#16 0 true 3 with zoom := tAxis .settling .zoomPlan }
     DueIn (.settled .zoom) b ∧ b.zoom.move ≠ none ∧ b.zmap.trackActive = true ∧ b.focus.state ≠ .idle) := by
  decide +kernel

/-- A search that has used one count more than its travel, and one with two low supply samples. -/
theorem test_met_ReferenceSearch_stops :
    (let b := { tRefs .zoom (tSearching true) AxisUnit.reset none with
       ldu := { refPlan := some { tRef .zoom with zoomTravel := 3001 }, msense := 8 } }
     Still b ∧ tSet.travel < travelOf b .zoom ∧ (b.zoom.counter = 0#16) ∧ (axisOf b .zoom).state = .referencing) ∧
    (let b := tRefs .focus AxisUnit.reset { tSearching false with supplyLow := 2, search := some { leaving := false, set := tSet, lastCounter := 1#16, still := 62 } } none
     Still b ∧ travelOf b .focus ≤ tSet.travel ∧ ((blockOf b .focus).map (·.supplyLevel)).getD 0 = 2 ∧
     (axisOf b .focus).counter ≠ 1#16 ∧ (axisOf b .focus).supplyLow + 1 = 3) ∧
    (DueIn (.supply .focus) (tRefs .focus AxisUnit.reset (tSearching false) none)) := by decide +kernel

/-- A frame-start that carries a swap, and a set that fails each check in turn. -/
theorem test_met_TablesAndTraceResponses_swap :
    (let t := tTaken .tables [.zoom, .focus, .capture] .running
     let b := setPle (fun p => { p with taken := [t] }) (tLoad (.ready tTables) .lost)
     Still b ∧ b.ftu.stream ≠ .stopped ∧ b.zmap.loading = .ready tTables ∧ takenOf b .tables = some t) ∧
    (let check := fun (m : Tables → Tables) => validateTables (m (parseTableSet (tGood ++ [List.replicate 256 1#8]) 50))
     check id = none ∧ check (fun t => { t with nodes := t.nodes.reverse }) = some (1, 1) ∧
     check (fun t => { t with zoomBlk := { t.zoomBlk with hardMargin := 32768 } }) = some (3, 12) ∧
     check (fun t => { t with zoomBlk := { t.zoomBlk with hi := -1000 } }) = some (4, 4) ∧
     check (fun t => { t with focusBlk := { t.focusBlk with trackStep := 0 } }) = some (5, 19) ∧
     check (fun t => { t with focusBlk := { t.focusBlk with tolerance := 5 } }) = some (6, 3) ∧
     check (fun t => { t with zoomBlk := { t.zoomBlk with lo := 3201, hi := 3202 } }) = some (7, 0) ∧
     check (fun t => { t with weights := t.weights.take 3 ++ [List.replicate 64 0] }) = some (9, 3)) ∧
    (Still (tLoad (.aborted tReadOut) .running) ∧ tReadOut.addr = none) := by decide +kernel

/-- Searches in each phase: below at 2 and not, the next sample past the limit and not, a fine range with neighbours. -/
def tTraced (ps : List (Int × Nat)) (ph : AfPhase) (best below : Nat) : Block :=
  { tReferenced 3 with
    zmap := { (tReferenced 3).zmap with focusLim := { lo := -1000, hi := 1000 } }
    afu := { Afu.reset with
      trace := ps.map fun p => { position := p.1, value := p.2, frame := 0#32, phase := ph }
      best := some best, below := below } }

theorem test_met_SearchSampleRecorded_decisions :
    (∀ n ∈ [30, 31], (List.replicate n ((0 : Int), 1)).length = n) ∧
    (tTraced [] .coarse 0 0).afu.dir = 1 ∧
    (let b := tTraced [(0, 9), (100, 5)] .coarse 0 2
     b.afu.below = 2) ∧
    (let b := tTraced [(800, 5), (901, 9)] .coarse 1 0
     b.afu.below ≠ 2 ∧ b.zmap.focusLim.hi < 901 + tAf.coarse * b.afu.dir ∧ b.afu.best = some (b.afu.trace.length - 1)) ∧
    (let b := tTraced [(800, 9), (901, 5)] .coarse 0 1
     b.afu.below ≠ 2 ∧ b.afu.best ≠ some (b.afu.trace.length - 1)) ∧
    (let b := tTraced [(800, 9), (900, 5)] .coarse 0 1
     ¬b.zmap.focusLim.hi < 900 + tAf.coarse * b.afu.dir ∧ 0 < (max (-1000) (min (900 + (tAf.coarse : Int)) 1000) - 900) * b.afu.dir) ∧
    (let b := tTraced [(0, 5), (10, 9), (20, 6)] .fine 1 0
     let l := b.afu.trace.filter fun x => decide (x.phase = .fine)
     (l.map (·.position)).Nodup ∧ (∀ m ∈ l[1]?, (∀ x ∈ l, x.value ≤ m.value) ∧ m.position = 10) ∧
     (∀ x ∈ l.take 1, x.value < 9) ∧ (l.map (·.position)) = [0, 10, 20]) ∧
    (let b := tTraced [(0, 5), (10, 9)] .fine 1 0
     ∀ x ∈ b.afu.trace, x.position ≠ 10 + 10) ∧
    ((startMove .focus .search 5 (tReferenced 3)).2 = none ∧ (startMove .focus .search 5 (tReferenced 2)).2 = some .supplyLow ∧
      (∀ m ∈ (startMove .focus .search 5 (tReferenced 2)).1.focus.move, m.giver ≠ .tracking)) ∧
    (∀ ph ∈ [AfPhase.start, .coarse, .fine, .final], ∀ o ∈ [none, some PlanOutcome.edge],
      { tSearch true none with phase := ph, recorded := o }.phase = ph) := by decide +kernel

theorem test_met_SearchSampleRecorded_caf :
    (let b := { tTraced [] .start 0 0 with
       afu := { Afu.reset with cafActive := true, cafLast := some 16, cafStep := 10, cafHyst := 4 } }
     b.afu.cafLast = some 16 ∧ ¬16 * b.afu.cafHyst < ((16 : Int) - 12) * 16 ∧ 16 * b.afu.cafHyst < ((16 : Int) - 11) * 16 ∧
     position b.focus = 0 ∧ (startMove .focus .caf 10 b).2 = none ∧
     (startMove .focus .caf 10 { b with ldu := { b.ldu with msense := 2 } }).2 = some .supplyLow) ∧
    (let b := { tTraced [] .start 0 0 with focus := { (tReferenced 3).focus with counter := 1000#16 } }
     max (-1000) (min (position b.focus + 10) 1000) = position b.focus) := by decide +kernel

/-- A run that reaches the pan count with this packet; gaps of one to three packets before it. -/
theorem test_met_GyroStatesAndPanFlags_count :
    let b := { tSbu .active with
      sbu := { (tSbu .active).sbu with
        yaw := { RotUnit.reset with run := 2 }, prm := { tStab with panThreshold := 2, panCount := 3 } } }
    Still b ∧ b.sbu.base = .active ∧ ((0x2000000300#40).extractLsb' 36 4 - 1#4 - 1#4).toNat = 0 ∧
    ((0x2000000300#40).extractLsb' 0 8 ++ (0x2000000300#40).extractLsb' 8 8 : BitVec 16).toInt - b.sbu.yaw.b32 / 256 = 3 ∧
    b.sbu.prm.panThreshold < 3 ∧ b.sbu.prm.panCount ≤ b.sbu.yaw.run + 1 := by decide +kernel

theorem test_met_GyroSampleInActive_gaps :
    ∀ x ∈ [(0x3000000000#40, 1), (0x4000000000#40, 2), (0x5000000000#40, 3)],
      (x.1.extractLsb' 36 4 - 1#4 - 1#4).toNat = x.2 ∧ x.2 < 4 := by decide

/-- Two reads of Q; a read that meets a window fault while a value stands refused. -/
theorem test_met_ReleasedCountRead_failed :
    (let q : QRead := { acc := tRead, request := none }
     let b := { tQ q (some 54#32) none 3 with fsu := { (tQ q (some 54#32) none 3).fsu with qReads := [q, q] } }
     Still b ∧ b.fsu.qReads = q :: [q] ∧ (match tRead.result .error with | .error c => c = .readError | _ => False)) ∧
    (match tReadOut.result (.data []) with | .error c => c = .window | _ => False) := by
  refine ⟨⟨?_, rfl, rfl⟩, rfl⟩
  decide +kernel

/-- A request with parameters: policy WAIT and END, a count that is reached and not; every answer of Q. -/
theorem test_met_SlotRequestDecided_policies :
    (∀ n ∈ [3, 2], ∀ endp ∈ [false, true], ∀ count ∈ [0, 1, 2],
      let q : QRead := { acc := tRead, request := some 3#32 }
      let p := { tCap with endPolicy := endp, count := count }
      let b := { tQ q none (some (tStored none false false false)) n with cap := { Cap.reset with state := .storing, prm := some p } }
      Still b ∧ b.fsu.qReads = [q] ∧ b.cap.prm = some p ∧ b.cap.filling = false ∧ b.cap.endCause = none ∧ b.cap.reserved + 1 = 1) ∧
    (∀ st ∈ [true, false], ∀ w ∈ [0, 1],
      let p := { tCap with settledStart := st, maxWait := 2, stride := 8 }
      let b := { tOpen with cap := { Cap.reset with state := .armed, prm := some p, wait := w } }
      b.cap.state = .armed ∧ b.cap.prm = some p ∧ .captureMaxWait ∉ b.due ∧ p.settledStart = st) ∧
    (let p := { tCap with stride := 8 }
     let q : QRead := { acc := tRead, request := none }
     let b := { tPipe [tEntry 8#32 .acknowledged] none .idle with
       cap := { Cap.reset with state := .storing, prm := some p }, fsu := { Fsu.reset with qReads := [q] } }
     b.cap.state = .storing ∧ (8#32 - b.cap.kFirst).toNat % p.stride = 0 ∧ (7#32 - b.cap.kFirst).toNat % p.stride ≠ 0 ∧
     entryOf b 8#32 ≠ none ∧ b.cap.filling = false ∧ b.fsu.cur = none ∧ b.fsu.qReads = [] ++ [q]) := by decide +kernel

/-- Frame writes that fail, publications that end a plan, and the line buffer at its bounds. -/
theorem test_met_FrameWritesAnswered_ends :
    (∀ e ∈ [some (tEntry 3#32 .acknowledged), none],
      let f := { tStored (some 0) true true false with entry := e }
      let b := tStore [tWrite] (some f) none []
      Still b ∧ f.metered = false ∧ (e = none → entryOf (tPipe [tEntry 3#32 .acknowledged] none .idle) f.k ≠ none)) ∧
    (∀ c ∈ [none, some PlanOutcome.ok, some .busError, some .syncLost], ∀ n ∈ [0, 1],
      let p : Publication := { k := 3#32, busError := true, notify := false }
      let w : PWrite := { acc := some tWriteOut, pub := some p }
      let b := { tStore [] none none [w] with
        cap := { Cap.reset with state := if c = none then .storing else .draining, endCause := c, busErrs := n } }
      Still b ∧ b.fsu.pWrites = [w] ∧ b.fsu.cur = none ∧ b.cap.endCause = c ∧
      (b.cap.state = if c = none then .storing else .draining) ∧ (b.cap.busErrs + 1 = 1 ∨ 2 ≤ b.cap.busErrs + 1)) ∧
    (∀ slot ∈ [none, some 0], ∀ n ∈ [0, 1, 2], ∀ w ∈ [7, 8],
      let l : LineBuf := { row := 0, bytes := List.replicate 65 0#8, issued := 0 }
      let b := tStore (List.replicate w tWrite) (some (tStored slot false false false)) none []
      let c := { b with fsu := { b.fsu with line := some [5#12], places := List.replicate n l } }
      c.fsu.line = some [5#12] ∧ c.fsu.cur = some (tStored slot false false false) ∧ c.fsu.places.length = n ∧
      c.fsu.wbuf.length = w ∧ c.fsu.pool = some tPool ∧ c.ftu.fmt = some tFmt) ∧
    (let f := tStored (some 0) true false false
     (f.statsHandled && f.metered && f.answered) = false ∧ f.slot ≠ none) := by decide +kernel

/-- A capture that holds the lens classes too, for each bit that reaches it. -/
theorem test_met_AbortEffects_classes :
    ∀ filling ∈ [true, false], ∀ x ∈ [(Instr.abortZoom, PClass.zoom), (.abortFocus, .focus), (.abortCapture, .capture)],
      let t := tTaken .capture [.capture, .zoom, .focus] .running
      let b := setPle (fun p => { p with taken := [t] }) (tBurst filling)
      Still b ∧ holderOf b x.2 = some t ∧ takenOf b .capture = some t ∧ t.ending = .running ∧ t.kind = .capture ∧
      b.cap.filling = filling ∧ b.fsu.cur = none := by decide +kernel

/-- A waiting swap whose plan runs, and a capture that no abort has reached. -/
theorem test_met_StreamStopHandOver_plans :
    let t := tTaken .tables [.zoom, .focus, .capture] .running
    let c := tTaken .capture [.capture] .running
    let b := setPle (fun p => { p with taken := [t] }) (tStopped (tFrame 5 none true) [] .none false)
    let d := setPle (fun p => { p with taken := [c] }) (tStopped (tFrame 5 none true) [] .storing true)
    b.zmap.loading = .ready tTables ∧ takenOf b .tables = some t ∧ t.ending = .running ∧ b.ftu.stream ≠ .stopped ∧
    planCancelling d .capture = false ∧ d.cap.endCause = none ∧ d.cap.state = .storing := by decide +kernel

/-- The sync timer expires in MEASURING, with the STREAM start plan TAKEN and after it has ended, with a frame to cut. -/
theorem test_met_SyncTimerExpires_measuring :
    ∀ ts ∈ [[], [tTaken .streamStart [.stream] .running]],
      let f := tFrame 5 (some 3999) false
      let b := setPle (fun p => { p with taken := ts })
        (setFtu (fun u => { u with stream := .measuring }) (tStopped f [] .none false))
      Still b ∧ b.ftu.syncTimer = true ∧ b.ftu.stream = .measuring ∧ planRunning b .streamStart = !ts.isEmpty ∧
      takenOf b .streamStart = ts.head? ∧ b.ftu.frame = some f ∧ f.ended = false ∧ b.stu.frame ≠ none ∧
      b.stu.geom ≠ none ∧ b.stu.latched ≠ none := by decide +kernel

/-- A cut in an active line of fewer than W pixels gives LINE_COUNT beside CUT; one in a line with all of them CUT alone. -/
theorem test_cut_short_line :
    ∀ n ∈ [3999, 4000],
      let f := tFrame 5 (some n) false
      let b := tStopped f [] .none false
      let c := cutFrame b
      b.ftu.frame = some f ∧ shortLine b f = decide (n < 4000) ∧ c.ftu.frame = none ∧ c.exu.inbox.length = 1 ∧
      ∀ r ∈ c.exu.inbox, r.cut = true ∧ r.lineCount = decide (n < 4000) ∧ r.valid = false := by decide +kernel

/-- The pipeline work of frame 3: every entry acknowledged, or one late; with an entry for frame 4 and without. -/
theorem test_met_FrameSyncStartsMeasuring_work :
    (∀ l ∈ [[tEntry 3#32 .acknowledged, tEntry 4#32 .acknowledged], [tEntry 3#32 .acknowledged]],
      let b := tPipe l none .idle
      (∀ e ∈ b.ftu.pipeline, e.send = .acknowledged) ∧
      (entryOf (callEntry (.create 5#32) b) 4#32 = none ↔ l.length = 1)) ∧
    (∀ l ∈ [[tEntry 3#32 .acknowledged, tEntry 4#32 .unsent], [tEntry 4#32 .unsent]],
      let b := tPipe l none .idle
      (¬∀ e ∈ b.ftu.pipeline, e.send = .acknowledged) ∧ (entryOf (rekeyLate 3#32 b) 4#32 = none ↔ l.length = 1)) := by
  decide +kernel

/-- A frame between two lines that has ended or not, its window-open raised or not, with an entry for the next and without. -/
theorem test_met_FrameSyncCapturesPeriod_finish :
    ∀ ended ∈ [true, false], ∀ opened ∈ [true, false], ∀ l ∈ [[], [tEntry 4#32 .acknowledged]],
      let f := { tFrame 1650 none ended with opened := opened }
      let b := setFtu (fun u => { u with frame := some f }) (tPipe l none .idle)
      b.ftu.frame = some f ∧ f.linePx = none ∧ f.ended = ended ∧ f.opened = opened ∧
      (entryOf b (f.k + 1) = none ↔ l = []) := by decide +kernel

theorem test_met_MeteringUpdatesExposure_weights :
    tOpen.zmap.tables = none ∧ (tMapped tOpen).zmap.tables = some tTables ∧
    tTables.weights[(tMapped tOpen).exu.prm.table]? = some (List.replicate 64 1) := by decide +kernel

/-- A clean frame that continuous AF compares with its last value. -/
theorem test_met_StatsReachConsumers_caf :
    let b := { tStatsReady true [] with
      afu := { (tStatsReady true []).afu with cafActive := true, cafLast := some 900, cafStep := 10, cafHyst := 4 } }
    Still b ∧ b.afu.inbox = tStats true :: [] ∧ b.afu.search = none ∧ b.afu.cafActive = true ∧ b.afu.cafLast = some 900 ∧
    (tStats true).old = false ∧ (tStats true).valid = true ∧ { k := 3#32, still := true } ∈ b.afu.candidates := by
  decide +kernel

/-- The focus axis IDLE while a candidate bears a still mark: at an illegal transition, and at a move that starts. -/
theorem test_met_EncoderInputsCount_candidates :
    let b := { tPhases { tAxis .idle .search with move := none } with
      afu := { Afu.reset with candidates := [{ k := 3#32, still := true }] } }
    Still b ∧ (axisOf b .focus).state = .idle ∧ (axisOf b .focus).move = none ∧
    (axisOf b .focus).phaseA = some true ∧ (axisOf b .focus).phaseB = some false ∧
    (axisOf b .focus).referenced = true ∧ supplyIsLow { b with ldu := { b.ldu with msense := 3 } } .focus = false := by
  decide +kernel

/-- The zoom axis moves or stands, its position changed since the last expiry or not. -/
theorem test_met_MoveExpiryBands_zoom :
    (∀ last ∈ [(7 : Int), 0], ∀ x ∈ [(0#16, (50 : Int)), (0#16, 3)],
      let b := { tReferenced 3 with
        zoom := { tAxis .moving .zoomPlan with counter := x.1, target := x.2, lastPos := last } }
      Still b ∧ blockOf b .zoom = some tBlk ∧ (axisOf b .zoom).move = (tAxis .moving .zoomPlan).move ∧
      (axisOf b .zoom).state = .moving ∧ limitsOf b .zoom = { lo := -1000, hi := 1000 } ∧ position b.zoom = 0 ∧
      b.zoom.stall + 1 < tBlk.stallPeriods ∧ b.zoom.supplyLow + 1 < 3 ∧ b.zoom.settle - 1 ≠ 0 ∧ tBlk.settleTime ≠ 0) ∧
    (∀ last ∈ [(7 : Int), 0], ∀ st ∈ [AxisState.unreferenced, .idle, .faulted],
      let b := { tReferenced 3 with zoom := { AxisUnit.reset with state := st, lastPos := last } }
      Still b ∧ b.zoom.state = st ∧ (position b.zoom = b.zoom.lastPos ↔ last = 0)) := by decide +kernel

/-- Moves of every giver past the hard limit, or with both phases known, their plans TAKEN. -/
theorem test_met_MoveEnds_limit :
    (let b := { tMoving with
       zoom := { tAxis .moving .zoomPlan with counter := 1021#16 }
       zmap := { tMoving.zmap with zoomLim := { lo := -1000, hi := 1000 } } }
     Still b ∧ b.zoom.move ≠ none ∧ b.zoom.state = .moving ∧ blockOf b .zoom = some tBlk ∧
     (limitsOf b .zoom).hi + tBlk.hardMargin < position b.zoom ∧ b.zoom.phaseA = some false ∧ b.zoom.phaseB = some false ∧
     takenOf b .zoom = some (tTaken .zoom [.zoom] .running)) ∧
    (∀ g ∈ [Giver.focusPlan (.distance 5), .focusPlan (.position 5), .search, .caf, .tracking],
      ∀ ws ∈ [[], [(0, tWrite)]],
        let b := { tMapped (tWith [tTaken .focus [.focus] .running, tTaken .afSearch [.focus] .running]) with
          focus := { tAxis .settling g with counter := 1021#16 }
          afu := { Afu.reset with search := some (tSearch true none), writes := ws } }
        let c := { b with zmap := { b.zmap with focusLim := { lo := -1000, hi := 1000 } } }
        Still c ∧ (∀ m ∈ c.focus.move, m.giver = g) ∧ c.focus.move ≠ none ∧ c.focus.state = .settling ∧
        (limitsOf c .focus).hi + tBlk.hardMargin < position c.focus ∧ blockOf c .focus = some tBlk ∧
        c.focus.phaseA ≠ none ∧ c.focus.phaseB ≠ none ∧
        takenOf c .focus = some (tTaken .focus [.focus] .running) ∧
        takenOf c .afSearch = some (tTaken .afSearch [.focus] .running) ∧
        c.afu.search = some (tSearch true none) ∧ c.afu.writes = ws) := by decide +kernel

/-- The zoom search ends while the focus axis stands IDLE under a still candidate. -/
theorem test_met_ReferenceSearch_candidates :
    let b := { tRefs .zoom { tAxis .braking .zoomPlan with move := none } { tAxis .idle .search with move := none } none with
      afu := { Afu.reset with candidates := [{ k := 3#32, still := true }] } }
    DueIn (.braking .zoom) b ∧ b.focus.state = .idle ∧ b.afu.candidates ≠ [] ∧ b.zoom.stopFaulted = false := by decide +kernel

/-- A sample in ACTIVE with a window whose peak it may raise. -/
theorem test_met_GyroSampleInActive_windows :
    let b := { tSbu .active with sbu := { (tSbu .active).sbu with windows := [{ k := 3#32, peak := 0 }] } }
    Still b ∧ b.due = [] ∧ b.sbu.base = .active ∧ b.sbu.windows ≠ [] ∧ b.sbu.gyroTimeout = some 7 := by decide +kernel

/-- Bursts that wait for room and ones that can go out, and the publication of a capture that an abort has reached. -/
theorem test_met_FrameWritesAnswered_places :
    (∀ w ∈ [7, 8],
      let l : LineBuf := { row := 0, bytes := List.replicate 65 0#8, issued := 0 }
      let b := tStore (List.replicate w tWrite) (some (tStored (some 0) false false false)) none []
      let c := { b with fsu := { b.fsu with places := [l, l] } }
      Still c ∧ c.fsu.wbuf[6]? = some tWrite ∧ (∀ x ∈ c.fsu.places, x.bytes ≠ []) ∧ c.fsu.places ≠ [] ∧
      (tStored (some 0) false false false).frameEnded = false ∧ (tStored (some 0) false false false).slot ≠ none ∧
      (issueBurst c).isNone = decide (w = 8)) ∧
    (let t := tTaken .capture [.capture] .cancelling
     let w : PWrite := { acc := some tWrite, pub := some { k := 3#32, busError := false, notify := true } }
     let b := setPle (fun p => { p with taken := [t] }) (tStore [] none none [w])
     let c := { b with cap := { b.cap with state := .draining } }
     Still c ∧ c.fsu.pWrites = [w] ∧ c.cap.state = .draining ∧ planCancelling c .capture = true ∧
     takenOf c .capture = some t) := by decide +kernel

/-- The mirror's tail finds endings that wait for writes, that failed, and that wait for two tails, one or none. -/
theorem test_met_MirrorRewriteSteps_endings :
    (∀ n ∈ [0, 1, 2],
      (∃ a, (tEnd [] (some .window) (.outstanding tWriteOut) n).failWrite = .outstanding a) ∧
      (tEnd [(.area, tWrite)] none .notIssued n).outstanding ≠ [] ∧
      (∀ c ∈ [FaultCode.window, .writeError],
        let e := tEnd [] (some c) .notIssued n
        e.outstanding = [] ∧ e.failed = some c ∧ e.failWrite = .notIssued) ∧
      ∀ f ∈ [(none, FailWrite.notIssued), (some FaultCode.window, .answered)],
        let e := tEnd [] f.1 f.2 n
        e.outstanding = [] ∧ (e.failed = none ∧ e.failWrite = .notIssued ∨ e.failWrite = .answered) ∧ e.tails = n) ∧
    (∀ e, (tTaken .sync [] .running).ending ≠ .results e) :=
  ⟨by
    intro n hn
    exact ⟨⟨tWriteOut, rfl⟩, by simp [tEnd], by decide +revert, by decide +revert⟩, nofun⟩

/-- A frame store whose candidate 3 waits for its slot, with notes of the given frames. -/
def tNoted (ks : List Word) : Block :=
  let b := tQ { acc := tRead, request := some 3#32 } none (some (tStored none false false false)) 3
  { b with fsu := { b.fsu with notes := ks.map fun k => { k := k, focus := 40 + k.toNat } } }

/-- R169: a frame that passes removes no note while a candidate waits, and its own and those below otherwise. -/
theorem test_notes_wait_for_the_decision :
    ((capFrameStart 4#32 false { tNoted [3#32, 4#32, 5#32] with cap := Cap.reset }).fsu.notes.map (·.k) =
      [3#32, 4#32, 5#32]) ∧
    (let b := setFsu (fun u => { u with cur := none }) { tNoted [3#32, 4#32, 5#32] with cap := Cap.reset }
     (capFrameStart 4#32 false b).fsu.notes.map (·.k) = [5#32]) := by decide +kernel

/-- R169: a slot decided late takes the note of its frame if it still stands, else the position at frame-start. -/
theorem test_late_decision_moves_the_note :
    (let b := decideSlot 3#32 (tNoted [2#32, 3#32, 4#32])
     b.fsu.cur.map (·.focusOpen) = some 43 ∧ b.fsu.notes.map (·.k) = [4#32]) ∧
    (let b := decideSlot 3#32 (addNote 7#32 (tNoted [3#32, 4#32, 5#32, 6#32]))
     b.fsu.cur.map (·.focusOpen) = some 0 ∧ b.fsu.notes.map (·.k) = [4#32, 5#32, 6#32, 7#32]) := by decide +kernel

/-- A request with the note of its frame and without it; frames that pass while a candidate waits, in each state. -/
theorem test_met_SlotRequestDecided_notes :
    (Still (tNoted [3#32]) ∧ (tNoted [3#32]).fsu.notes.find? (fun x => x.k == 3#32) = some { k := 3#32, focus := 43 } ∧
      Still (tNoted [4#32]) ∧ (∀ n ∈ (tNoted [4#32]).fsu.notes, n.k ≠ 3#32) ∧
      (tNoted [3#32]).fsu.cur = some (tStored none false false false) ∧ (tStored none false false false).slot = none) ∧
    (∀ st ∈ [CapState.none, .armed, .storing], ∀ n ∈ [1, 8],
      let p := { tCap with stride := n, settledStart := true, maxWait := 2 }
      let b := { tNoted [3#32, 4#32] with cap := { Cap.reset with state := st, prm := some p } }
      b.cap.prm = some p ∧ b.fsu.cur = some (tStored none false false false) ∧ b.exu.settled = false ∧
      b.cap.wait + 1 < p.maxWait ∧ ((4#32 - b.cap.kFirst).toNat % p.stride = 0 ↔ n = 1)) := by decide +kernel

/-- A final state write that meets a window fault. -/
theorem test_met_FinalStateFreesClasses_fault :
    let b := tWith [tTaken .capture [.capture] (.finalWrite tWriteOut)]
    Still b ∧ takenOf b .capture = some (tTaken .capture [.capture] (.finalWrite tWriteOut)) ∧
    tWriteOut.fault false = some .window := by decide +kernel

/-- The last trace write of a search that has ended, answered with an error, or met by a window fault; its plan runs or is
aborted. -/
theorem test_met_TablesAndTraceResponses_last :
    ∀ w ∈ [tWrite, tWriteOut], ∀ g ∈ [Ending.running, .cancelling],
      let t := tTaken .afSearch [.focus] g
      let b := setPle (fun p => { p with taken := [t] }) (tTrace [(31, w)] (some (tSearch false (some (.done, .found, .ok)))))
      Still b ∧ b.afu.writes.find? (fun x => x.1 == 31) = some (31, w) ∧ takenOf b .afSearch = some t ∧
      b.afu.writes.filter (fun x => x.1 != 31) = [] ∧ (tWrite.fault true = some .writeError) := by decide +kernel

/-- An FS in the middle of a line, with all its pixels and short of them. -/
theorem test_met_FrameSyncCapturesPeriod_line :
    ∀ n ∈ [3999, 4000],
      let f := tFrame 5 (some n) false
      let b := setFtu (fun u => { u with frame := some f }) (tPipe [tEntry 4#32 .acknowledged] none .idle)
      b.ftu.frame = some f ∧ f.linePx = some n ∧ (b.ftu.fmt.map (·.width)).getD 0 = 4000 := by decide +kernel

/-- An illegal transition at the sample of the edge that the approach looks for. -/
theorem test_met_EncoderInputsCount_edge :
    let b := { tPhases (tSearching false) with ldu := { refPlan := some (tRef .focus), msense := 8 } }
    Still b ∧ (axisOf b .focus).search ≠ none ∧ (axisOf b .focus).state = .referencing ∧
    edgeFound b.focus (some true) = some tSet := by decide +kernel

/-- The last step of the iris reference stage at a low supply and at a good one. -/
theorem test_met_PwmAndIrisSteps_last :
    let b := tRefs .iris AxisUnit.reset AxisUnit.reset (some 1)
    Still b ∧ b.iris.stage = some 1 ∧ b.ldu.refPlan = some (tRef .iris) ∧
    ((blockOf b .focus).map (·.supplyLevel)).getD 0 = 2 ∧ (2 : Msense).val ≤ 2 ∧ 2 < (3 : Msense).val := by decide +kernel

/-- The plans of the two timeout fields, and one of another kind. -/
theorem test_met_PlanReadDecides_timeout :
    timeoutField (.streamStart tFmt) = some 0x012 ∧ timeoutField (.stabOn tStab) = some 0x013 ∧
    ((∀ q, PlanParams.capture tCap ≠ .streamStart q) ∧ ∀ q, PlanParams.capture tCap ≠ .stabOn q) := ⟨rfl, rfl, nofun, nofun⟩

/-- An LS at the last active line and at the one after it, with a short line, a full one and none in progress, in a frame that
has ended and one that has not; windows with the frame and without; a line the store takes and three it does not. -/
theorem test_met_LineSyncCountsLines_parts :
    (∀ j ∈ [1599, 1600], ∀ e ∈ [false, true], ∀ n ∈ [none, some 3999, some 4000],
      let f := tFrame j n e
      let b := tStopped f [] .none false
      Still b ∧ b.ftu.stream = .running ∧ b.ftu.fmt = some tFmt ∧ b.ftu.frame = some f ∧ f.ls < tFmt.lines ∧
      b.stu.frame ≠ none ∧ b.stu.geom ≠ none ∧ b.stu.latched ≠ none ∧ (entryOf b (f.k + 1)) = none ∧
      (j < tFmt.active ∨ j = tFmt.active)) ∧
    (let w : ExpWindow := { k := 3#32, peak := 7 }
     let b := { tOpen with sbu := { Sbu.reset with windows := [w] } }
     b.sbu.windows.find? (fun x => x.k == 3#32) = some w ∧ (∀ x ∈ b.sbu.windows, x.k ≠ 4#32)) ∧
    (let b := tStore [] (some (tStored none false false false)) none []
     b.fsu.cur = some (tStored none false false false) ∧ (tStored none false false false).k = 3#32 ∧
     (tStored none false false false).frameEnded = false ∧ b.fsu.overrun = false ∧ (3#32 : Word) ≠ 4#32) ∧
    (∀ f, (tStore [] (some (tStored none true false false)) none []).fsu.cur = some f → f.frameEnded = true) ∧
    (setFsu (fun u => { u with overrun := true }) (tStore [] (some (tStored none false false false)) none [])).fsu.overrun = true := by
  refine ⟨by decide +kernel, by decide +kernel, by decide +kernel, fun f h => ?_, rfl⟩
  cases h
  rfl

/-- An expiry in RUNNING in every state of a capture plan, which runs or is aborted, with a slot FILLING and with none, with a
BUS_ERROR as its cause and with no cause. -/
theorem test_met_SyncTimerExpires_capture :
    ∀ st ∈ [CapState.none, .armed, .storing, .draining, .ended], ∀ g ∈ [true, false],
      ∀ c ∈ [none, some PlanOutcome.busError], ∀ p ∈ [Ending.running, .cancelling],
      let t := tTaken .capture [.capture] p
      let b0 := setPle (fun x => { x with taken := [t] }) (tStopped (tFrame 5 none false) [] st g)
      let b := { b0 with cap := { b0.cap with endCause := c } }
      Still b ∧ b.ftu.syncTimer = true ∧ b.ftu.stream = .running ∧ b.cap.state = st ∧ b.cap.filling = g ∧
      b.cap.endCause = c ∧ takenOf b .capture = some t ∧ t.ending = p := by decide +kernel

/-- The metering of a frame of which the other marks are set, or one is not: with a slot and without, valid and not. -/
theorem test_met_MeteringUpdatesExposure_last :
    ∀ v ∈ [true, false], ∀ st ∈ [true, false], ∀ sl ∈ [none, some 0],
      let f := { tStored sl true st false with answered := true }
      let b0 := tStatsReady v [tClosing, tEntry 4#32 .unsent]
      let b := { b0 with fsu := { b0.fsu with cur := some f } }
      Still b ∧ b.exu.inbox = tStats v :: [] ∧ entryOf b (tStats v).k = some tClosing ∧ tClosing.role = .closing ∧
      (tStats v).old = false ∧ (tStats v).valid = v ∧ b.fsu.cur = some f ∧ f.k = (tStats v).k ∧ f.slot = sl ∧
      f.frameEnded = true ∧ f.statsHandled = st ∧ f.answered = true ∧ b.fsu.recWrite = none ∧
      tClosing.recordReleased = false := by decide +kernel

/-- The statistics of a frame of which the other marks are set, or one is not: with a slot and without. -/
theorem test_met_StatsReachConsumers_last :
    ∀ m ∈ [true, false], ∀ sl ∈ [none, some 0],
      let f := { tStored sl true false m with answered := true }
      let b0 := tStatsReady true [tClosing]
      let b := { b0 with fsu := { b0.fsu with cur := some f } }
      Still b ∧ b.fsu.inbox = tStats true :: [] ∧ (tStats true).old = false ∧ b.fsu.cur = some f ∧ f.k = (tStats true).k ∧
      f.slot = sl ∧ f.frameEnded = true ∧ f.metered = m ∧ f.answered = true ∧ b.fsu.recWrite = none := by decide +kernel

/-- A count of either phase at the sample of the edge; an illegal transition in the search, in BRAKING of the axis of the
stage, and in BRAKING of the axis of another stage, with the REFERENCE plan TAKEN. -/
theorem test_met_ReferenceSearch_illegal :
    (let b := tRefs .zoom (tSearching false) AxisUnit.reset none
     Still b ∧ (axisOf b .zoom).phaseA = some false ∧ (axisOf b .zoom).phaseB = some false ∧
     (axisOf b .zoom).search = (tSearching false).search ∧ (axisOf b .zoom).refLevel = some !tSet.rising ∧
     b.ldu.refPlan = some (tRef .zoom)) ∧
    (∀ a ∈ [tSearching false, { tSearching false with state := .braking, search := none }], ∀ st ∈ [RefStage.zoom, .focus],
      let t := tTaken .reference [.zoom, .focus] .running
      let b := setPle (fun p => { p with taken := [t] })
        { tRefs st a AxisUnit.reset none with ntu := { Ntu.reset with levels := 0x00001000#32 } }
      Still b ∧ (axisOf b .zoom).phaseA = some false ∧ (axisOf b .zoom).phaseB = some false ∧
      ((axisOf b .zoom).state = .referencing ∧ (axisOf b .zoom).search ≠ none ∨
        (axisOf b .zoom).state = .braking ∧ (axisOf b .zoom).search = none) ∧
      levelOf b.ntu .lensFault ≠ 0 ∧ b.ldu.refPlan = some (tRef st) ∧
      (tRef st).stage = st ∧ takenOf b .reference = some t ∧ t.ending = .running) := by decide +kernel

/-- A burst that stores, one that drains with a frame in its slot, and the three that do not report STORING. -/
theorem test_met_GyroSampleInActive_storing :
    (tStore [] none none []).cap.state = .storing ∧
    (∀ sl ∈ [none, some 0], ∀ e ∈ [false, true],
      let f := tStored sl e false false
      let b0 := tStore [] (some f) none []
      let b := { b0 with cap := { b0.cap with state := .draining } }
      b.cap.state = .draining ∧ b.fsu.cur = some f ∧
      (capReportsStoring b = true ↔ f.slot ≠ none ∧ f.frameEnded = false)) ∧
    capReportsStoring tOpen = false := by decide +kernel

/-- A frame-end of the frame that fills with every burst answered, with the other marks set and without. -/
theorem test_met_FrameWritesAnswered_frameEnd :
    ∀ m ∈ [true, false],
      let f := tStored (some 0) false m m
      let b := tStore [] (some f) none []
      b.fsu.cur = some f ∧ f.k = 3#32 ∧ f.slot = some 0 ∧ b.fsu.places = [] ∧ b.fsu.wbuf = [] ∧ f.statsHandled = m ∧
      f.metered = m ∧ b.fsu.recWrite = none := by decide +kernel

theorem test_met_StepKeepsInv : State.reset.toBlock.Inv ∧ ∃ t, step State.reset = .next t := ⟨by decide +kernel, _, rfl⟩

end Sys2Proof.Machine
end

section
/-!
The notification unit's operations (R175, R176), one rule each: what setting a flag, changing a condition and a write of LEVELS
leave in the flags, the levels and the conditions. The statements of the chapter on events, conditions and FAULT follow them.
-/

namespace Sys2Proof.Machine

/-! ### Flags -/

/-- The flag bits of two causes stand apart. -/
theorem causeMask_getLsbD_of_ne {c d : Cause} (h : d ≠ c) : (causeMask c).getLsbD d.bit = false := by
  revert h
  cases c <;> cases d <;> decide

theorem flagOf_setFlag_of_ne {c d : Cause} (h : d ≠ c) (n : Ntu) : flagOf (setFlag c n) d = flagOf n d := by
  by_cases hl : levelOf n c = 0
  · rw [setFlag_level_zero hl]
  · simp [setFlag_level_pos hl, flagOf, causeMask_getLsbD_of_ne h]

/-- A flag that is set is not set twice. -/
theorem setFlag_setFlag (c : Cause) (n : Ntu) : setFlag c (setFlag c n) = setFlag c n := by
  by_cases hl : levelOf n c = 0
  · rw [setFlag_level_zero hl, setFlag_level_zero hl]
  · rw [setFlag_level_pos (by rwa [levelOf_setFlag]), setFlag_level_pos hl, BitVec.or_assoc, BitVec.or_self]

/-- A level has three bits (Table 74). -/
theorem levelOf_le (n : Ntu) (c : Cause) : levelOf n c ≤ 7 :=
  Nat.le_of_lt_succ (n.levels.extractLsb' (4 * c.bit) 3).isLt

/-! ### Conditions -/

@[simp] theorem condOf_putCond (c : Cond) (v : Bool) (n : Ntu) : condOf (putCond c v n) c = v := by
  cases c <;> rfl

@[simp] theorem levelOf_putCond (c : Cond) (v : Bool) (n : Ntu) (d : Cause) :
    levelOf (putCond c v n) d = levelOf n d := by
  cases c <;> rfl

@[simp] theorem putCond_flags (c : Cond) (v : Bool) (n : Ntu) : (putCond c v n).flags = n.flags := by
  cases c <;> rfl

/-- A condition that becomes true sets its flag, if its level lets it (R176). -/
theorem setCondIn_rising {c : Cond} {n : Ntu} (h : condOf n c = false) :
    setCondIn c true n = setFlag c.cause (putCond c true n) := by
  simp [setCondIn, h]

/-- A condition that becomes false, or stays true, is only stored. -/
theorem setCondIn_not_rising {c : Cond} {v : Bool} {n : Ntu} (h : v = true → condOf n c = true) :
    setCondIn c v n = putCond c v n := by
  unfold setCondIn
  rw [if_neg]
  cases v with
  | false => simp
  | true => simp [h rfl]

theorem condOf_setCondIn (c : Cond) (v : Bool) (n : Ntu) : condOf (setCondIn c v n) c = v := by
  unfold setCondIn
  split
  · rw [condOf_setFlag, condOf_putCond]
  · rw [condOf_putCond]

theorem levelOf_setCondIn (c : Cond) (v : Bool) (n : Ntu) (d : Cause) : levelOf (setCondIn c v n) d = levelOf n d := by
  unfold setCondIn
  split
  · rw [levelOf_setFlag, levelOf_putCond]
  · rw [levelOf_putCond]

/-- A condition that becomes true at level 0 sets no flag. -/
theorem setCondIn_flags_of_level_zero {c : Cond} {n : Ntu} (v : Bool) (h : levelOf n c.cause = 0) :
    (setCondIn c v n).flags = n.flags := by
  unfold setCondIn
  split
  · rw [setFlag_level_zero (by rwa [levelOf_putCond]), putCond_flags]
  · rw [putCond_flags]

/-- A condition that becomes true at another level sets its flag. -/
theorem flagOf_setCondIn_rising {c : Cond} {n : Ntu} (h : condOf n c = false) (hl : levelOf n c.cause ≠ 0) :
    flagOf (setCondIn c true n) c.cause = true := by
  rw [setCondIn_rising h]
  exact flagOf_setFlag (by rwa [levelOf_putCond])

/-! ### Writes of LEVELS -/

@[simp] theorem condOf_writeLevels (v : Word) (n : Ntu) (c : Cond) : condOf (writeLevels v n) c = condOf n c := by
  cases c <;> rfl

/-- The levels are taken as they are written (Table 74). -/
@[simp] theorem levelOf_writeLevels (v : Word) (n : Ntu) (c : Cause) : levelOf (writeLevels v n) c = levelIn v c :=
  levelIn_mask v c

theorem flagOf_writeLevels (v : Word) (n : Ntu) (c : Cause) : flagOf (writeLevels v n) c = flagAfterLevels n v c :=
  flags_getLsbD (flagAfterLevels n v) c

theorem Cond.exists_iff {p : Cond → Prop} : (∃ c, p c) ↔ p .slotWait ∨ p .gyroLost ∨ p .syncLost := by
  constructor
  · rintro ⟨⟨⟩, h⟩ <;> simp [h]
  · rintro (h | h | h) <;> exact ⟨_, h⟩

/-- After a write of LEVELS a flag is set if its new level is not 0, and it was set, or its level was 0 with its condition true
(R176, R177). -/
theorem flagOf_writeLevels_iff (v : Word) (n : Ntu) (c : Cause) :
    flagOf (writeLevels v n) c = true ↔
      levelIn v c ≠ 0 ∧ (flagOf n c = true ∨ (levelOf n c = 0 ∧ ∃ x : Cond, x.cause = c ∧ condOf n x = true)) := by
  rw [flagOf_writeLevels, Cond.exists_iff]
  unfold flagAfterLevels
  by_cases hv : levelIn v c = 0
  · simp [hv]
  · cases c <;> simp [hv, Cond.cause, condOf]

/-! ### FAULT -/

/-- Every offset inside the greatest window fits the offset field (Table 74). -/
theorem fault_offset_toNat {o : Nat} (h : o < 65535 * 4096) : (BitVec.ofNat 28 o).toNat = o := by
  rw [BitVec.toNat_ofNat, Nat.mod_eq_of_lt (by omega)]

theorem runs_powerOnReset (s : State) : Runs .powerOnReset s Block.reset := rfl

theorem runs_softReset (s : State) : Runs .softReset s (softReset s.toBlock) := rfl

/-! ### The statements -/

/-- Settles O11: a raise is `setFlag`, whose two rules give the levels apart; the flag of an event cause has no condition that
a write of LEVELS could bring it back from. -/
theorem eventCauseSetsFlag : Obligations.EventCauseSetsFlag := by
  intro b c
  refine ⟨levelOf_le _ _, fun hl => ⟨flagOf_setFlag hl, ?_, fun d hd => flagOf_setFlag_of_ne hd _⟩, fun hl => ?_,
    fun hc hf v => ?_, fun _ _ => rfl⟩
  · simp only [raise, setFlag_setFlag]
  · rw [raise, setFlag_level_zero hl]
  · rw [Bool.eq_false_iff, Ne, flagOf_writeLevels_iff]
    rintro ⟨-, hset | ⟨-, x, hx, -⟩⟩
    · exact absurd hset (by simp [hf])
    · exact hc x hx

/-- Settles O12: a condition that rises sets its flag, one that does not is only stored, and a write of LEVELS adds the flags of
the true conditions whose level leaves 0. -/
theorem conditionCauseSetsFlag : Obligations.ConditionCauseSetsFlag := by
  intro b c
  refine ⟨fun v => condOf_setCondIn c v _, flagOf_setCondIn_rising, fun _ => setCondIn_flags_of_level_zero true, ?falls,
    fun h => ?stays, fun v hv hl h => ?raised, fun v hv hl => ?kept, fun v hv hl h => ⟨?levelFirst, ?condFirst⟩⟩
  case falls => rw [setCond_ntu, setCondIn_not_rising (by simp), putCond_flags]
  case stays => rw [setCond_ntu, setCondIn_not_rising (fun _ => h), putCond_flags]
  case raised => exact (flagOf_writeLevels_iff _ _ _).mpr ⟨hv, .inr ⟨hl, c, rfl, h⟩⟩
  case kept =>
    rw [Bool.eq_iff_iff, flagOf_writeLevels_iff]
    simp [hv, hl]
  case levelFirst => exact flagOf_setCondIn_rising (by simpa using h) (by simpa using hv)
  case condFirst =>
    refine (flagOf_writeLevels_iff _ _ _).mpr ⟨hv, .inr ⟨?_, c, rfl, condOf_setCondIn c true _⟩⟩
    rw [setCond_ntu, levelOf_setCondIn, hl]

/-- Settles O14: FAULT changes by `latchIn`, which keeps a code that it holds, and every clear leaves no code. -/
theorem faultRegisterHoldsFirst : Obligations.FaultRegisterHoldsFirst := by
  refine ⟨fun b c o => ⟨fun h => ?_, fun h => ?_, rfl⟩, fun o => fault_offset_toNat, fun s b v hs => runs_faultWrite v hs,
    fun b c o => ⟨rfl, rfl, latchIn_clear (f := FaultReg.clear) rfl c o⟩,
    fun s => ⟨⟨_, runs_powerOnReset s, rfl⟩, ⟨_, runs_softReset s, rfl⟩⟩⟩
  · rw [latchFault_regs, latchIn_clear h]
  · rw [latchFault_regs, latchIn_held h]

end Sys2Proof.Machine
end

section
/-!
What every command keeps: the window bounds, RUN and a good block, from what each operation keeps; and the shape of `exec`:
every command is an `act`, the command of a due step, or a reset.
-/

namespace Sys2Proof.Machine

/-! ### The shape of a command -/

/-- A command that is no due step and no reset acts on the settled block. -/
theorem exec_eq_act (i : Instr) (hd : ownDueStep i = none) (hp : i ≠ .powerOnReset) (hs : i ≠ .softReset) :
    ∃ f : Block → Block, ∀ s, exec i s = act f s := by
  cases i
  case powerOnReset => exact absurd rfl hp
  case softReset => exact absurd rfl hs
  all_goals
    solve
    | cases hd
    | dsimp only [exec, execLevelsWrite, execRegisterWriteIgnored, execTakeStreamStart, execTakeStreamStop, execTakeExposure,
        execTakeStabOn, execTakeStabOff, execTakeZoom, execTakeFocus, execTakeAfSearch, execTakeReference, execTakeCapture,
        execTakeTables, execTakeSync, execAfuStatsReady, execControlPeriodExpiry, execIrisStep]
      exact ⟨_, fun _ => rfl⟩

/-- The command of a due step does what the due step does. -/
theorem exec_eq_actDue {i : Instr} {d : DueStep} (h : ownDueStep i = some d) (s : State) :
    exec i s = actDue d (fire d) s := by
  cases i
  all_goals solve | cases h | (cases Option.some.inj h; rfl)

/-! ### What the commands keep -/

/-- What f keeps of every block, an ordinary command of f keeps. -/
theorem act_kept {f : Block → Block} (hf : ∀ b, Kept b (f b)) {s t : State} (h : act f s = .next t) :
    Kept s.toBlock t.toBlock := by
  cases h
  exact (settle_kept _).trans (hf _)

theorem act_port {f : Block → Block} (hf : ∀ b, KeptPort b (f b)) {s t : State} (h : act f s = .next t) :
    KeptPort s.toBlock t.toBlock := by
  cases h
  exact (settle_kept _).port.trans (hf _)

/-- A due step keeps what it keeps, taken or not. -/
theorem actDue_fire_kept {d : DueStep} {s t : State} (h : actDue d (fire d) s = .next t) :
    Kept s.toBlock t.toBlock := by
  by_cases hd : d ∈ s.due
  · rw [actDue_due hd] at h
    cases h
    exact fire_kept d (dropDue_kept (Kept.refl _) d)
  · rw [actDue_not_due hd] at h
    cases h
    exact Kept.refl _

/-- An answer, discarded or not. -/
theorem answered_kept {f : Block → Block} (hf : ∀ b, Kept b (f b)) (late : Bool) (b : Block) :
    Kept b (answered late f b) := by
  unfold answered
  split
  · exact Kept.refl _
  · exact hf b

theorem answered_port {f : Block → Block} (hf : ∀ b, KeptPort b (f b)) (late : Bool) (b : Block) :
    KeptPort b (answered late f b) := by
  unfold answered
  split
  · exact KeptPort.refl _
  · exact hf b

/-- The take of a plan by the block that a TAKEN write finds, with the MSENSE level of its move start. -/
theorem take_msense_kept {b : Block} {p : PlanRec} {v : CheckVal} (f : Block → Block) (m : Msense)
    (ht : takenNow b = some (p, v)) (hf : ∀ c, Kept c (f c)) : Kept b (take p f (setMsense m b)) :=
  take_kept f ht (fun c hc => hc.trans (hf c)) (setMsense_kept (Kept.refl b) m)

theorem take_self_kept {b : Block} {p : PlanRec} {v : CheckVal} (f : Block → Block)
    (ht : takenNow b = some (p, v)) (hf : ∀ c, Kept c (f c)) : Kept b (take p f b) :=
  take_kept f ht (fun c hc => hc.trans (hf c)) (Kept.refl b)

/-- The commands of plans that are taken. -/
def isTake : Instr → Bool
  | .takeStreamStart | .takeStreamStop | .takeExposure | .takeStabOn | .takeStabOff | .takeZoom _ | .takeFocus _
  | .takeAfSearch _ | .takeReference _ | .takeCapture | .takeTables | .takeSync => true
  | _ => false

theorem exec_take_kept {i : Instr} (hi : isTake i = true) {s t : State} (h : exec i s = .next t) :
    Kept s.toBlock t.toBlock := by
  cases i
  case takeStreamStart =>
    cases h
    refine (settle_kept _).trans ?_
    dsimp only
    split
    · split
      · exact take_self_kept _ ‹_› fun c => streamStartHandOver_kept _ _ (Kept.refl c)
      · exact Kept.refl _
    · exact Kept.refl _
  case takeStreamStop =>
    cases h
    refine (settle_kept _).trans ?_
    dsimp only
    split
    · split
      · exact take_self_kept _ ‹_› fun c => streamStopHandOver_kept (Kept.refl c)
      · exact Kept.refl _
    · exact Kept.refl _
  case takeExposure =>
    cases h
    refine (settle_kept _).trans ?_
    dsimp only
    split
    · split
      · exact take_self_kept _ ‹_› fun c => exposureTaken_kept _ (Kept.refl c)
      · exact Kept.refl _
    · exact Kept.refl _
  case takeStabOn =>
    cases h
    refine (settle_kept _).trans ?_
    dsimp only
    split
    · split
      · exact take_self_kept _ ‹_› fun c => stabOnHandOver_kept _ _ (Kept.refl c)
      · exact Kept.refl _
    · exact Kept.refl _
  case takeStabOff =>
    cases h
    refine (settle_kept _).trans ?_
    dsimp only
    split
    · split
      · exact take_self_kept _ ‹_› fun c => stabOffHandOver_kept (Kept.refl c)
      · exact Kept.refl _
    · exact Kept.refl _
  case takeZoom m =>
    cases h
    refine (settle_kept _).trans ?_
    dsimp only
    split
    · split
      · exact take_msense_kept _ m ‹_› fun c => zoomHandOver_kept _ _ (Kept.refl c)
      · exact Kept.refl _
    · exact Kept.refl _
  case takeFocus m =>
    cases h
    refine (settle_kept _).trans ?_
    dsimp only
    split
    · split
      · exact take_msense_kept _ m ‹_› fun c => focusHandOver_kept _ (Kept.refl c)
      · exact Kept.refl _
    · exact Kept.refl _
  case takeAfSearch m =>
    cases h
    refine (settle_kept _).trans ?_
    dsimp only
    split
    · split
      · exact take_msense_kept _ m ‹_› fun c => searchHandOver_kept _ (Kept.refl c)
      · exact Kept.refl _
    · exact Kept.refl _
  case takeReference m =>
    cases h
    refine (settle_kept _).trans ?_
    dsimp only
    split
    · split
      · exact take_msense_kept _ m ‹_› fun c => referenceHandOver_kept _ (Kept.refl c)
      · exact Kept.refl _
    · exact Kept.refl _
  case takeCapture =>
    cases h
    refine (settle_kept _).trans ?_
    dsimp only
    split
    · split
      · exact take_self_kept _ ‹_› fun c => captureHandOver_kept _ _ _ (Kept.refl c)
      · exact Kept.refl _
    · exact Kept.refl _
  case takeTables =>
    cases h
    refine (settle_kept _).trans ?_
    dsimp only
    split
    · split
      · exact take_self_kept _ ‹_› fun c => tablesHandOver_kept _ (Kept.refl c)
      · exact Kept.refl _
    · exact Kept.refl _
  case takeSync =>
    cases h
    refine (settle_kept _).trans ?_
    dsimp only
    split
    · split
      · exact take_self_kept _ ‹_› fun c => syncHandOver_kept (Kept.refl c)
      · exact Kept.refl _
    · exact Kept.refl _
  all_goals cases hi

/-- A command that cannot change RUN, other than a write of a window bound, keeps the window bounds and RUN. -/
theorem exec_kept {i : Instr} (hr : mayChangeRun i = false) (hb : ∀ v, i ≠ .wbaseWrite v) (hl : ∀ v, i ≠ .wlimitWrite v)
    {s t : State} (h : exec i s = .next t) : Kept s.toBlock t.toBlock := by
  by_cases hd : ∃ d, ownDueStep i = some d
  · obtain ⟨d, hd⟩ := hd
    rw [exec_eq_actDue hd] at h
    exact actDue_fire_kept h
  by_cases ht : isTake i = true
  · exact exec_take_kept ht h
  cases i
  case wbaseWrite v => exact absurd rfl (hb v)
  case wlimitWrite v => exact absurd rfl (hl v)
  case levelsWrite v => exact act_kept (fun b => execLevels_kept v (Kept.refl b)) h
  case causeRead => exact act_kept (fun b => readCause_kept (Kept.refl b)) h
  case faultWrite v => exact act_kept (fun b => clearFault_kept (Kept.refl b)) h
  case abortZoom => exact act_kept (fun b => abortClass_kept _ (Kept.refl b)) h
  case abortFocus => exact act_kept (fun b => abortClass_kept _ (Kept.refl b)) h
  case abortCapture => exact act_kept (fun b => abortClass_kept _ (Kept.refl b)) h
  case registerWriteIgnored r v => exact act_kept (fun b => Kept.refl b) h
  case lookTimerExpiry => exact act_kept (fun b => lookTimerExpiry_kept (Kept.refl b)) h
  case endingResultsWriteDone k w a =>
    exact act_kept (answered_kept (fun b => resultWritten_kept _ _ _ (Kept.refl b)) _) h
  case endingFailureOutcomeWriteDone k a =>
    exact act_kept (answered_kept (fun b => failOutcomeWritten_kept _ _ (Kept.refl b)) _) h
  case finalStateWriteDone k a => exact act_kept (answered_kept (fun b => finalWritten_kept _ _ (Kept.refl b)) _) h
  case mirrorHeadWriteDone a => exact act_kept (answered_kept (fun b => mirrorHeadWritten_kept _ (Kept.refl b)) _) h
  case mirrorBodyWriteDone a => exact act_kept (answered_kept (fun b => mirrorBodyWritten_kept _ (Kept.refl b)) _) h
  case mirrorTailWriteDone a => exact act_kept (answered_kept (fun b => mirrorTailWritten_kept _ (Kept.refl b)) _) h
  case frameSync n sw => exact act_kept (fun b => frameSync_kept _ _ (Kept.refl b)) h
  case lineSync px => exact act_kept (fun b => lineSync_kept _ (Kept.refl b)) h
  case syncTimerExpiry => exact act_kept (fun b => syncTimeout_kept (Kept.refl b)) h
  case periodCounterLimit => exact act_kept (fun b => periodLimit_kept (Kept.refl b)) h
  case settingsAck => exact act_kept (fun b => acknowledge_kept (Kept.refl b)) h
  case metering => exact act_kept (fun b => metering_kept (Kept.refl b)) h
  case afuStatsReady m => exact act_kept (fun b => afuHandle_kept (setMsense_kept (Kept.refl b) m)) h
  case fsuStatsReady => exact act_kept (fun b => storeStats_kept (Kept.refl b)) h
  case inputFilterAccept ax pa pb ref => exact act_kept (fun b => filterAccept_kept _ _ _ _ (Kept.refl b)) h
  case controlPeriodExpiry ax m c => exact act_kept (fun b => controlExpiry_kept _ _ (setMsense_kept (Kept.refl b) m)) h
  case moveTimerExpiry ax => exact act_kept (fun b => moveTimeout_kept _ (Kept.refl b)) h
  case pwmPeriodStart ax => exact act_kept (fun b => pwmStart_kept _ (Kept.refl b)) h
  case irisStep m => exact act_kept (fun b => irisStep_kept (setMsense_kept (Kept.refl b) m)) h
  case tablesReadDone a => exact act_kept (answered_kept (fun b => tablesResponse_kept _ (Kept.refl b)) _) h
  case traceWriteDone n a => exact act_kept (answered_kept (fun b => traceResponse_kept _ _ (Kept.refl b)) _) h
  case gyroPacket p => exact act_kept (fun b => gyroPacket_kept _ (Kept.refl b)) h
  case gyroPacketDiscard r => exact act_kept (fun b => gyroDiscard_kept _ (Kept.refl b)) h
  case gyroTimerExpiry => exact act_kept (fun b => gyroTimeout_kept (Kept.refl b)) h
  case qReadDone a => exact act_kept (answered_kept (fun b => qResponse_kept _ (Kept.refl b)) _) h
  case burstResponse n a => exact act_kept (answered_kept (fun b => burstResponse_kept _ _ (Kept.refl b)) _) h
  case recordWriteDone a => exact act_kept (answered_kept (fun b => recordResponse_kept _ (Kept.refl b)) _) h
  case pWriteDone a => exact act_kept (answered_kept (fun b => pResponse_kept _ (Kept.refl b)) _) h
  all_goals solve | cases hr | exact absurd ⟨_, rfl⟩ hd | exact absurd rfl ht

/-- A write of RUN and the response to an access of the chain keep the window bounds and a good block. -/
theorem exec_port {i : Instr} (hr : mayChangeRun i = true) (hp : i ≠ .powerOnReset) (hs : i ≠ .softReset)
    {s t : State} (h : exec i s = .next t) : KeptPort s.toBlock t.toBlock := by
  cases i
  case powerOnReset => exact absurd rfl hp
  case softReset => exact absurd rfl hs
  case runSet => exact act_port (fun b => startRun_port (KeptPort.refl b)) h
  case runClear => exact act_port (fun b => clearRun_port (KeptPort.refl b)) h
  case controlBlockReadDone a => exact act_port (answered_port (fun b => runStartResponse_port _ (KeptPort.refl b)) _) h
  case nextFieldReadDone a => exact act_port (answered_port (fun b => nextResponse_port _ (KeptPort.refl b)) _) h
  case planReadDone a => exact act_port (answered_port (fun b => planResponse_port _ (KeptPort.refl b)) _) h
  case takingCheckReadDone a => exact act_port (answered_port (fun b => checkResponse_port _ (KeptPort.refl b)) _) h
  case refusalOutcomeWriteDone a =>
    exact act_port (answered_port (fun b => refusalOutcomeResponse_port _ (KeptPort.refl b)) _) h
  case refusalStateWriteDone a =>
    exact act_port (answered_port (fun b => refusalStateResponse_port _ (KeptPort.refl b)) _) h
  case takenWriteError => exact act_port (fun b => takenWriteError_port (KeptPort.refl b)) h
  all_goals cases hr

/-! ### Writes of the window bounds -/

theorem writeWbase_running {b : Block} (h : b.regs.run = true) (v : Word) : writeWbase v b = b := by
  unfold writeWbase
  rw [if_pos h]

theorem writeWlimit_running {b : Block} (h : b.regs.run = true) (v : Word) : writeWlimit v b = b := by
  unfold writeWlimit
  rw [if_pos h]

theorem writeWbase_stopped {b : Block} (h : b.regs.run = false) (v : Word) :
    writeWbase v b = { b with regs := { b.regs with wbase := v.extractLsb' 12 20 } } := by
  unfold writeWbase
  rw [h]
  rfl

theorem writeWlimit_stopped {b : Block} (h : b.regs.run = false) (v : Word) :
    writeWlimit v b = { b with regs := { b.regs with wlimit := v.extractLsb' 0 16 } } := by
  unfold writeWlimit
  rw [h]
  rfl

/-- A write of a window bound leaves RUN, and no part of a good block depends on the bounds. -/
theorem writeWbase_run_inv (v : Word) (b : Block) :
    (writeWbase v b).regs.run = b.regs.run ∧ (b.Inv → (writeWbase v b).Inv) := by
  unfold writeWbase
  split
  · exact ⟨rfl, id⟩
  · exact ⟨rfl, id⟩

theorem writeWlimit_run_inv (v : Word) (b : Block) :
    (writeWlimit v b).regs.run = b.regs.run ∧ (b.Inv → (writeWlimit v b).Inv) := by
  unfold writeWlimit
  split
  · exact ⟨rfl, id⟩
  · exact ⟨rfl, id⟩

/-! ### The invariants -/

/-- Every command keeps a good block. -/
theorem exec_inv {i : Instr} {s t : State} (h : exec i s = .next t) (hI : s.toBlock.Inv) : t.toBlock.Inv := by
  cases hr : mayChangeRun i
  · by_cases hb : ∃ v, i = .wbaseWrite v
    · obtain ⟨v, rfl⟩ := hb
      cases h
      exact (writeWbase_run_inv v _).2 ((settle_kept _).inv hI)
    by_cases hl : ∃ v, i = .wlimitWrite v
    · obtain ⟨v, rfl⟩ := hl
      cases h
      exact (writeWlimit_run_inv v _).2 ((settle_kept _).inv hI)
    exact (exec_kept hr (fun v hv => hb ⟨v, hv⟩) (fun v hv => hl ⟨v, hv⟩) h).inv hI
  · by_cases hp : i = .powerOnReset
    · subst hp
      cases h
      exact reset_inv
    by_cases hs : i = .softReset
    · subst hs
      cases h
      exact softReset_inv hI
    exact (exec_port hr hp hs h).inv hI

/-- Settles O59: each command keeps a good block, and an empty queue changes nothing. -/
theorem stepKeepsInv : Obligations.StepKeepsInv := by
  intro s t hI h
  cases hp : s.pending with
  | nil =>
    rw [step_nil hp] at h
    cases h
    exact hI
  | cons c rest =>
    rw [step_cons hp] at h
    exact exec_inv h hI

/-- Settles O60. -/
theorem resetInv : Obligations.ResetInv := reset_inv

/-- Settles O9: the window bounds by what the commands keep; RUN also past the writes of the bounds. -/
theorem windowAndRunFrame : Obligations.WindowAndRunFrame := by
  refine ⟨fun i s t hp hb hl h => ?_, fun i s t hr h => ?_⟩
  · by_cases hs : i = .softReset
    · subst hs
      cases h
      exact ⟨rfl, rfl⟩
    cases hr : mayChangeRun i
    · have k := exec_kept hr hb hl h
      exact ⟨k.wbase, k.wlimit⟩
    · have k := exec_port hr hp hs h
      exact ⟨k.wbase, k.wlimit⟩
  · by_cases hb : ∃ v, i = .wbaseWrite v
    · obtain ⟨v, rfl⟩ := hb
      cases h
      exact (writeWbase_run_inv v _).1.trans (settle_kept _).run
    by_cases hl : ∃ v, i = .wlimitWrite v
    · obtain ⟨v, rfl⟩ := hl
      cases h
      exact (writeWlimit_run_inv v _).1.trans (settle_kept _).run
    exact (exec_kept hr (fun v hv => hb ⟨v, hv⟩) (fun v hv => hl ⟨v, hv⟩) h).run

/-! ### The queue -/

/-- Settles O1. -/
theorem stepRunsFrontCommand : Obligations.StepRunsFrontCommand :=
  ⟨fun _ _ _ h => step_cons h, fun _ h => step_nil h⟩

/-- Settles O2: a command is a reset, the command of a due step, or acts on the settled block; each leaves the queue. -/
theorem everyCommandCompletes : Obligations.EveryCommandCompletes := by
  intro i s
  by_cases hp : i = .powerOnReset
  · subst hp
    exact ⟨_, rfl⟩
  by_cases hs : i = .softReset
  · subst hs
    exact ⟨_, rfl⟩
  cases hd : ownDueStep i with
  | none =>
    obtain ⟨f, hf⟩ := exec_eq_act i hd hp hs
    exact ⟨_, hf s⟩
  | some d => exact ⟨_, exec_eq_actDue hd s⟩

/-- Settles O3: the command of a due step through `exec_eq_actDue`; a command that settles the block finds the settled block
settled. -/
theorem dueStepsTaken : Obligations.DueStepsTaken := by
  refine ⟨fun i d s hi => ⟨fun hd => ?_, fun hd => ?_⟩, fun i s b hi hp hs hb hq => ?_⟩
  · exact (exec_eq_actDue hi s).trans (actDue_not_due hd)
  · exact (exec_eq_actDue hi s).trans (actDue_due hd)
  · obtain ⟨f, hf⟩ := exec_eq_act i hi hp hs
    have hsettled : settle b = b := settle_of_quiet hq
    refine ⟨f b, ?_, ?_⟩
    · unfold Runs
      rw [hf, act_eq, hb]
    · unfold Runs
      rw [hf, act_eq, hsettled]

/-! ### RUN and the window registers -/

/-- Settles O8. -/
theorem windowRegisterWrites : Obligations.WindowRegisterWrites := by
  intro s b v hs
  have base := runs_wbaseWrite v hs
  have limit := runs_wlimitWrite v hs
  refine ⟨fun hr => ?_, fun hr => ?_⟩
  · rw [writeWbase_running hr] at base
    rw [writeWlimit_running hr] at limit
    exact ⟨base, limit⟩
  · rw [writeWbase_stopped hr] at base
    rw [writeWlimit_stopped hr] at limit
    exact ⟨base, limit⟩

/-- Settles O16: the accesses by whether they lie inside the window. -/
theorem windowCheck : Obligations.WindowCheck := by
  intro b o n bytes
  refine ⟨fun h => ?_, fun h => ?_, fun h => ?_, fun h => ?_⟩
  · have ha : (readAt b o n).addr = some (b.regs.wbase.toNat * 4096 + o) := accessAddr_inside h
    exact ⟨ha, ReadAcc.result_error ha, ReadAcc.result_data ha⟩
  · have ha : (readAt b o n).addr = none := accessAddr_outside h
    exact ⟨ha, ReadAcc.result_none ha⟩
  · have ha : (writeAt b o bytes).addr = some (b.regs.wbase.toNat * 4096 + o) := accessAddr_inside h
    exact ⟨ha, WriteAcc.fault_some ha false, WriteAcc.fault_some ha true⟩
  · have ha : (writeAt b o bytes).addr = none := accessAddr_outside h
    exact ⟨ha, WriteAcc.fault_none ha⟩

end Sys2Proof.Machine
end

section
/-!
The register port, RUN and the resets: what each write of a register does, what a register reads, and the responses that
nothing waits for.
-/

namespace Sys2Proof.Machine

/-- What a command runs to, written another way. -/
theorem Runs.of_eq {i : Instr} {s : State} {b c : Block} (h : Runs i s b) (e : b = c) : Runs i s c := e ▸ h

theorem bne_eq_decide_ne {α : Type} [DecidableEq α] (x y : α) : (x != y) = decide (x ≠ y) := by
  by_cases h : x = y <;> simp [h]

theorem readAt_addr (b : Block) (o n : Nat) : (readAt b o n).addr = accessAddr b o n := rfl

/-! ### RUN -/

/-- A step is no longer due, as the statements write it. -/
theorem dropDue_eq (d : DueStep) (b : Block) : dropDue d b = { b with due := b.due.filter (· ≠ d) } := by
  unfold dropDue
  simp only [bne_eq_decide_ne]

/-- RUN goes to 0: the look timer stops, no look waits, and a look in progress ends after its step. -/
theorem stopRun_eq (b : Block) :
    stopRun b = { b with
      regs := { b.regs with run := false }
      ple := { b.ple with lookTimer := false, lookPending := false, lookStop := decide (b.ple.look ≠ .idle) }
      due := b.due.filter (· ≠ .lookStart) } := by
  unfold stopRun
  rw [dropDue_eq, bne_eq_decide_ne]

theorem clearRun_stopped {b : Block} (h : b.regs.run = false) : clearRun b = b := by
  unfold clearRun
  rw [h]
  rfl

theorem clearRun_running {b : Block} (h : b.regs.run = true) : clearRun b = stopRun b := by
  unfold clearRun
  rw [if_pos h]

theorem startRun_running {b : Block} (h : b.regs.run = true) : startRun b = b := by
  unfold startRun
  rw [if_pos h]

/-- The first RUN start after a reset reads the host area. -/
theorem startRun_first {b : Block} (h : b.regs.run = false) (hc : b.ple.cursor = .none) :
    startRun b = { b with
      regs := { b.regs with run := true }
      ple := { b.ple with runStart := some { first := true, acc := readAt b 0 64 } } } := by
  simp [startRun, h, hc]

/-- A later RUN start reads the look period. -/
theorem startRun_later {b : Block} (h : b.regs.run = false) (hc : b.ple.cursor ≠ .none) :
    startRun b = { b with
      regs := { b.regs with run := true }
      ple := { b.ple with runStart := some { first := false, acc := readAt b 0x011 1 } } } := by
  have hb : (b.ple.cursor == Cursor.none) = false := beq_eq_false_iff_ne.2 hc
  simp [startRun, h, hb, offLookPeriod]

/-- Settles O6. -/
theorem runSetReadsControlBlock : Obligations.RunSetReadsControlBlock := fun _ _ hs =>
  ⟨fun hr => (runs_runSet hs).of_eq (startRun_running hr), fun hr hc => (runs_runSet hs).of_eq (startRun_first hr hc),
    fun hr hc => (runs_runSet hs).of_eq (startRun_later hr hc)⟩

/-- Settles O7. -/
theorem runClearStopsLooks : Obligations.RunClearStopsLooks := fun _ b hs =>
  ⟨fun hr => (runs_runClear hs).of_eq (clearRun_stopped hr),
    fun hr => (runs_runClear hs).of_eq ((clearRun_running hr).trans (stopRun_eq b))⟩

/-! ### The faults of a RUN start and of the chain -/

theorem runStartFault_eq {c : FaultCode} {o : Nat} {b d : Block}
    (h : b = { d with ple := { d.ple with runStart := none } }) : runStartFault c o b = stoppedRun c o d := by
  subst h
  exact stopRun_eq _

theorem chainFault_eq (c : FaultCode) (o : Nat) (b : Block) : chainFault c o b = stoppedChain c o b := by
  unfold chainFault
  rw [stopRun_eq]
  rfl

/-! ### Resets -/

/-- A read of an empty window comes back as a window fault. -/
theorem runStartResponse_window {b : Block} {rs : RunStart} (h : b.ple.runStart = some rs) (ha : rs.acc.addr = none)
    (r : ReadResp) : runStartResponse r b = stoppedRun .window rs.acc.offset b := by
  unfold runStartResponse
  rw [h]
  dsimp only
  rw [ReadAcc.result_none ha]
  exact runStartFault_eq rfl

/-- A RUN set while the window is empty: the read of the control block faults, and RUN is clear again (R16). -/
theorem runSet_emptyWindow {b : Block} (hq : b.due = []) (hr : b.regs.run = false) (hc : b.ple.cursor = .none)
    (hw : b.regs.wlimit = 0#16) (hf : b.regs.fault.code = .none) (s : State) (r : ReadResp) :
    ∃ b1 b2 : Block,
      Runs .runSet { s with toBlock := b } b1 ∧ b1.regs.run = true ∧
      Runs (.controlBlockReadDone ⟨false, r⟩) { s with toBlock := b1 } b2 ∧ b2.regs.run = false ∧
      b2.regs.fault = { code := .window, offset := 0#28, more := false } := by
  have hread : (readAt b 0 64).addr = none := (readAt_addr ..).trans (accessAddr_outside (by simp [hw]))
  have hquiet : Settles { s with toBlock := b } b := settle_of_quiet hq
  have hset := (runs_runSet hquiet).of_eq (startRun_first hr hc)
  refine ⟨_, _, hset, rfl, (runs_controlBlockReadDone r (settle_of_quiet ?_)).of_eq
    (runStartResponse_window (rs := { first := true, acc := readAt b 0 64 }) rfl hread r), rfl,
    latchIn_clear hf .window 0⟩
  exact hq

/-- Settles O4: the fields by the definition of the reset, the RUN set by its empty window. -/
theorem powerOnResetRegisters : Obligations.PowerOnResetRegisters := fun s =>
  ⟨runs_powerOnReset s, rfl, rfl, rfl, rfl, rfl, rfl, rfl, rfl, rfl, fun c => by cases c <;> rfl,
    runSet_emptyWindow rfl rfl rfl rfl rfl s⟩

/-- An axis that is to end unfaulted does not come to rest in FAULTED. -/
theorem afterBraking_ne_faulted {a : AxisUnit} (h : a.stopFaulted = false) : afterBraking a ≠ .faulted := by
  unfold afterBraking
  rw [h]
  split <;> decide

/-- What a soft reset makes of an axis (R94). -/
structure SoftResetOf (a x : AxisUnit) : Prop where
  kept : x.counter = a.counter ∧ x.refCount = a.refCount ∧ x.refOffset = a.refOffset ∧
    x.referenced = a.referenced ∧ x.target = a.target ∧ x.phaseA = a.phaseA ∧ x.phaseB = a.phaseB ∧
    x.refLevel = a.refLevel ∧ x.lastPos = a.lastPos ∧ x.inForce = a.inForce
  cleared : x.move = none ∧ x.moveTimer = none ∧ x.search = none ∧ x.settle = 0 ∧ x.stall = 0 ∧ x.supplyLow = 0 ∧
    x.stopFaulted = false ∧ x.period = 20 ∧ x.filter = { now := 4, a := none, b := none, ref := none }
  braked : a.state ∈ [.moving, .settling, .referencing] → x.state = .braking ∧ x.output = .brake ∧ x.braking = 8
  resting : a.state ∈ [.unreferenced, .idle, .braking] →
    x.state = a.state ∧ x.output = a.output ∧ x.braking = a.braking
  faulted : a.state = .faulted → x.state = .idle ∧ x.output = a.output ∧ x.braking = a.braking

theorem softResetAxis_of (a : AxisUnit) : SoftResetOf a (softResetAxis a) := by
  constructor
  case kept =>
    unfold softResetAxis
    dsimp only
    split <;> exact ⟨rfl, rfl, rfl, rfl, rfl, rfl, rfl, rfl, rfl, rfl⟩
  case cleared =>
    unfold softResetAxis
    dsimp only
    split <;> exact ⟨rfl, rfl, rfl, rfl, rfl, rfl, rfl, rfl, rfl⟩
  all_goals
    intro h
    cases hst : a.state <;> simp [hst] at h <;> simp [softResetAxis, hst, Config.defaultSettleTime]

/-- Settles O5: the soft reset by its definition, an axis by `softResetAxis_of`. -/
theorem softResetState : Obligations.SoftResetState := by
  intro s
  refine ⟨softResetAxis s.zoom, softResetAxis s.focus, softResetIris s.iris, { refPlan := none, msense := s.ldu.msense },
    runs_softReset s, rfl, rfl, rfl, rfl, by simp [softResetIris], rfl, fun p hp => ?_⟩
  have hx : SoftResetOf p.1 p.2 := by
    simp only [List.mem_cons, List.not_mem_nil, or_false] at hp
    rcases hp with rfl | rfl
    · exact softResetAxis_of _
    · exact softResetAxis_of _
  obtain ⟨counter, refCount, refOffset, referenced, target, phaseA, phaseB, refLevel, lastPos, inForce⟩ := hx.kept
  obtain ⟨move, moveTimer, search, settle, stall, supplyLow, stopFaulted, period, filter⟩ := hx.cleared
  exact ⟨counter, refCount, refOffset, referenced, target, phaseA, phaseB, refLevel, move, moveTimer, search, settle, stall,
    supplyLow, stopFaulted, period, filter, lastPos, inForce, hx.braked, hx.resting, hx.faulted,
    afterBraking_ne_faulted stopFaulted⟩

/-! ### What the registers and the pins read -/

/-- The greatest value of f among the entries of a list that meet p, at least a. -/
theorem le_foldl_max {α : Type} (p : α → Bool) (f : α → Nat) (l : List α) (a : Nat) :
    a ≤ l.foldl (fun m x => if p x then max m (f x) else m) a ∧
    ∀ x ∈ l, p x = true → f x ≤ l.foldl (fun m x => if p x then max m (f x) else m) a := by
  induction l generalizing a with
  | nil => exact ⟨le_rfl, nofun⟩
  | cons y l ih =>
    rw [List.foldl_cons]
    obtain ⟨ha, hl⟩ := ih (if p y then max a (f y) else a)
    refine ⟨le_trans ?_ ha, fun x hx hp => ?_⟩
    · split <;> omega
    · rcases List.mem_cons.1 hx with rfl | hx
      · rw [if_pos hp] at ha ⊢
        exact le_trans (le_max_right _ _) ha
      · exact hl x hx hp

theorem foldl_max_eq {α : Type} (p : α → Bool) (f : α → Nat) (l : List α) (a : Nat) :
    l.foldl (fun m x => if p x then max m (f x) else m) a = a ∨
    ∃ x ∈ l, p x = true ∧ l.foldl (fun m x => if p x then max m (f x) else m) a = f x := by
  induction l generalizing a with
  | nil => exact .inl rfl
  | cons y l ih =>
    rw [List.foldl_cons]
    rcases ih (if p y then max a (f y) else a) with h | ⟨x, hx, hp, h⟩
    · rw [h]
      by_cases hy : p y = true
      · rw [if_pos hy]
        rcases max_choice a (f y) with hm | hm
        · exact .inl hm
        · exact .inr ⟨y, List.mem_cons_self, hy, hm⟩
      · rw [if_neg hy]
        exact .inl rfl
    · exact .inr ⟨x, List.mem_cons_of_mem y hx, hp, h⟩

theorem mem_allCauses (c : Cause) : c ∈ allCauses := by cases c <;> decide

/-- Each of the eight bits is the bit of a cause. -/
theorem exists_cause_of_bit {i : Nat} (h : i < 8) : ∃ c : Cause, c.bit = i := by
  have hb : ∀ i : Fin 8, ∃ c ∈ allCauses, c.bit = i.val := by decide
  obtain ⟨c, _, hc⟩ := hb ⟨i, h⟩
  exact ⟨c, hc⟩

/-- IRQ is asserted while a flag is set (R177). -/
theorem irq_iff (n : Ntu) : irq n = true ↔ ∃ c : Cause, flagOf n c = true := by
  unfold irq flagOf
  rw [bne_iff_ne]
  constructor
  · intro h
    by_contra hc
    refine h (BitVec.eq_of_getLsbD_eq fun i hi => ?_)
    obtain ⟨c, rfl⟩ := exists_cause_of_bit hi
    simpa using fun hf => hc ⟨c, hf⟩
  · rintro ⟨c, hc⟩ h
    simp [h] at hc

theorem levelOf_le_irql {n : Ntu} {c : Cause} (h : flagOf n c = true) : levelOf n c ≤ irql n :=
  (le_foldl_max (flagOf n) (levelOf n) allCauses 0).2 c (mem_allCauses c) h

/-- IRQL is 0, or the level of a cause whose flag is set. -/
theorem irql_eq (n : Ntu) : irql n = 0 ∨ ∃ c : Cause, flagOf n c = true ∧ irql n = levelOf n c := by
  rcases foldl_max_eq (flagOf n) (levelOf n) allCauses 0 with h | ⟨c, _, hc, h⟩
  · exact .inl h
  · exact .inr ⟨c, hc, h⟩

theorem FaultCode.code_lt (c : FaultCode) : c.code < 8 := by cases c <;> decide

theorem extractLsb'_append_middle {w v u : Nat} (x : BitVec w) (y : BitVec v) (z : BitVec u) :
    (x ++ y ++ z).extractLsb' u v = y := by
  apply BitVec.eq_of_getLsbD_eq
  intro i hi
  simp [BitVec.getLsbD_append, hi]

theorem getLsbD_append_add {w v : Nat} (x : BitVec w) (y : BitVec v) (i : Nat) :
    (x ++ y).getLsbD (v + i) = x.getLsbD i := by
  simp [BitVec.getLsbD_append]

theorem faultValue_code (f : FaultReg) : ((faultValue f).extractLsb' 28 3).toNat = f.code.code := by
  have h : (faultValue f).extractLsb' 28 3 = BitVec.ofNat 3 f.code.code := extractLsb'_append_middle ..
  rw [h, BitVec.toNat_ofNat, Nat.mod_eq_of_lt (FaultCode.code_lt _)]

theorem faultValue_more (f : FaultReg) : (faultValue f).getLsbD 31 = f.more :=
  calc (faultValue f).getLsbD 31
    _ = (BitVec.ofBool f.more ++ BitVec.ofNat 3 f.code.code).getLsbD 3 := getLsbD_append_add _ f.offset 3
    _ = (BitVec.ofBool f.more).getLsbD 0 := getLsbD_append_add _ (BitVec.ofNat 3 f.code.code) 0
    _ = f.more := by simp

/-- Settles O10: the registers field by field, the pins by `irq_iff`, `levelOf_le_irql` and `irql_eq`. -/
theorem registerAndPinReads : Obligations.RegisterAndPinReads := by
  refine ⟨fun b => ⟨rfl, rfl, ?wbaseHigh, ?wbaseLow, ?wlimit, rfl, rfl, rfl, ?offset, ?code, ?more⟩,
    fun n => ⟨irq_iff n, fun c => levelOf_le_irql, fun h => ?_, fun h => ?_⟩⟩
  case wbaseHigh => exact BitVec.extractLsb'_append_eq_left
  case wbaseLow => exact BitVec.extractLsb'_append_eq_right
  case wlimit => exact BitVec.toNat_setWidth_of_le (by decide)
  case offset => exact BitVec.extractLsb'_append_eq_right
  case code => exact faultValue_code _
  case more => exact faultValue_more _
  · rcases irql_eq n with h0 | hc
    · obtain ⟨c, hc⟩ := (irq_iff n).1 h
      have := levelOf_le_irql hc
      exact ⟨c, hc, by omega⟩
    · exact hc
  · rcases irql_eq n with h0 | ⟨c, hc, _⟩
    · exact h0
    · rw [(irq_iff n).2 ⟨c, hc⟩] at h
      cases h

/-! ### LEVELS and CAUSE -/

/-- Settles O13. -/
theorem levelsAndCauseAccess : Obligations.LevelsAndCauseAccess := by
  refine ⟨fun s b v hs => ⟨(writeLevels v b.ntu).flags, runs_levelsWrite v hs, flagOf_writeLevels_iff v b.ntu⟩,
    fun s b hs => ⟨(runs_causeRead hs).of_eq ?_, fun r v => runs_registerWriteIgnored r v hs⟩⟩
  simp only [readCause, causeValue, liveView, BitVec.or_assoc]

/-! ### Responses that nothing waits for -/

/-- Settles O18: each answer meets no access of its own; an answer to an access of before the last reset by `runs_late`. -/
theorem responseWithoutAccess : Obligations.ResponseWithoutAccess := by
  intro s b r err hs
  refine ⟨fun h => ?_, fun h => ⟨?_, ?_, ?_, ?_, ?_, ?_⟩, fun h => ?_, fun h => ⟨?_, ?_, ?_⟩,
    fun k w h => ⟨?_, ?_, ?_⟩, fun h => ?_, fun h => ?_, fun i h => ?_, fun h => ?_, fun h => ?_, fun i hi => runs_late hi hs⟩
  · exact (runs_controlBlockReadDone r hs).of_eq (by simp [runStartResponse, h])
  · exact (runs_nextFieldReadDone r hs).of_eq (by simp [nextResponse, h])
  · exact (runs_planReadDone r hs).of_eq (by simp [planResponse, h])
  · exact (runs_takingCheckReadDone r hs).of_eq (by simp [checkResponse, h])
  · exact (runs_refusalOutcomeWriteDone err hs).of_eq (by simp [refusalOutcomeResponse, h])
  · exact (runs_refusalStateWriteDone err hs).of_eq (by simp [refusalStateResponse, h])
  · exact (runs_takenWriteError hs).of_eq (by simp [takenWriteError, h])
  · exact (runs_lookTimerExpiry hs).of_eq (by simp [lookTimerExpiry, h])
  · exact (runs_mirrorHeadWriteDone err hs).of_eq (by simp [mirrorHeadWritten, h])
  · exact (runs_mirrorBodyWriteDone err hs).of_eq (by simp [mirrorBodyWritten, h])
  · exact (runs_mirrorTailWriteDone err hs).of_eq (by simp [mirrorTailWritten, h])
  · exact (runs_endingResultsWriteDone k w err hs).of_eq (by simp [resultWritten, h])
  · exact (runs_endingFailureOutcomeWriteDone k err hs).of_eq (by simp [failOutcomeWritten, h])
  · exact (runs_finalStateWriteDone k err hs).of_eq (by simp [finalWritten, h])
  · exact (runs_tablesReadDone r hs).of_eq (by simp [tablesResponse, h])
  · exact (runs_qReadDone r hs).of_eq (by simp [qResponse, h])
  · exact (runs_burstResponse i err hs).of_eq (by simp [burstResponse, h])
  · exact (runs_recordWriteDone err hs).of_eq (by simp [recordResponse, h])
  · exact (runs_pWriteDone err hs).of_eq (by simp [pResponse, h])

end Sys2Proof.Machine
end

section
/-!
The chain: what a look does at each of its steps, and the statements about looks, refusals and RUN starts.
-/

namespace Sys2Proof.Machine

/-! ### The steps of a look -/

theorem ReadAcc.result_ok {a : ReadAcc} (h : a.addr ≠ none) (bs : List Byte) : a.result (.data bs) = .ok bs := by
  obtain ⟨x, hx⟩ := Option.ne_none_iff_exists'.1 h
  exact ReadAcc.result_data hx bs

theorem WriteAcc.fault_ok {a : WriteAcc} (h : a.addr ≠ none) : a.fault false = none := by
  obtain ⟨x, hx⟩ := Option.ne_none_iff_exists'.1 h
  exact WriteAcc.fault_some hx false

theorem markDue_new {d : DueStep} {b : Block} (h : d ∉ b.due) : markDue d b = { b with due := b.due ++ [d] } := by
  unfold markDue
  rw [if_neg h]

theorem lookBusy_eq_false {b : Block} (h : lookBusy b = false) : b.ple.look = .idle ∧ .lookStart ∉ b.due := by
  simpa [lookBusy] using h

theorem mirrorBusy_eq_false {b : Block} (h : mirrorBusy b = false) : b.ple.mirror = .idle ∧ .mirrorStart ∉ b.due := by
  simpa [mirrorBusy] using h

/-- A look that ends with none waiting, or with RUN clear. -/
theorem endLook_idle {b : Block} (h : b.ple.lookPending = false ∨ b.regs.run = false) :
    endLook b = { b with ple := { b.ple with look := .idle, lookStop := false, lookPending := false } } := by
  have hc : (b.ple.lookPending && b.regs.run) = false := by
    rcases h with h | h <;> simp [h]
  unfold endLook
  rw [hc]
  rfl

/-- With no look waiting, the mark of one need not be said to stay clear. -/
theorem endLook_quiet {b : Block} (h : b.ple.lookPending = false) :
    endLook b = { b with ple := { b.ple with look := .idle, lookStop := false } } := by
  rw [endLook_idle (.inl h), ← h]

/-- A look that ends with another one waiting. -/
theorem endLook_again {b : Block} (h : b.ple.lookPending = true) (hr : b.regs.run = true) (hd : .lookStart ∉ b.due) :
    endLook b = { b with
      ple := { b.ple with look := .idle, lookStop := false, lookPending := false }, due := b.due ++ [.lookStart] } := by
  unfold endLook
  rw [h, hr]
  exact markDue_new hd

/-- The cursor moves and the look goes on. -/
theorem moveCursor_goes {b : Block} (h : b.ple.lookStop = false) (c : Cursor) :
    moveCursor c b = lookStep { b with ple := { b.ple with cursor := c } } := by
  simp [moveCursor, goOn, setPle, h]

theorem moveCursor_atPlan {b : Block} (h : b.ple.lookStop = false) (x : Nat) :
    moveCursor (.atPlan x) b =
      { b with ple := { b.ple with cursor := .atPlan x, look := .plan x (readAt b x 64) } } :=
  (moveCursor_goes h _).trans rfl

theorem moveCursor_afterPlan {b : Block} (h : b.ple.lookStop = false) (x : Nat) :
    moveCursor (.afterPlan x) b =
      { b with ple := { b.ple with cursor := .afterPlan x, look := .next x (readAt b (x + 8) 4) } } :=
  (moveCursor_goes h _).trans rfl

/-- The cursor moves, and the look ends as RUN was cleared meanwhile. -/
theorem moveCursor_stops {b : Block} (h : b.ple.lookStop = true) (hp : b.ple.lookPending = false) (c : Cursor) :
    moveCursor c b = { b with ple := { b.ple with cursor := c, look := .idle, lookStop := false } } := by
  have he : moveCursor c b = endLook { b with ple := { b.ple with cursor := c } } := by
    simp [moveCursor, goOn, setPle, h]
  refine he.trans ((endLook_quiet ?_).trans rfl)
  exact hp

/-! ### The response to a RUN start -/

section RunStart
variable {b : Block} {rs : RunStart} (h : b.ple.runStart = some rs)
include h

theorem runStartResponse_error {r : ReadResp} {c : FaultCode} (he : rs.acc.result r = .error c) :
    runStartResponse r b = stoppedRun c rs.acc.offset b := by
  unfold runStartResponse
  rw [h]
  dsimp only
  rw [he]
  exact runStartFault_eq rfl

theorem runStartResponse_later (hf : rs.first = false) (ha : rs.acc.addr ≠ none) (bs : List Byte) :
    runStartResponse (.data bs) b = startLooking (u8 bs 0) { b with ple := { b.ple with runStart := none } } := by
  unfold runStartResponse
  rw [h]
  dsimp only
  rw [ReadAcc.result_ok ha, hf]
  rfl

theorem runStartResponse_first (hf : rs.first = true) (ha : rs.acc.addr ≠ none) (bs : List Byte) :
    runStartResponse (.data bs) b =
      if badChainStart b (u32 bs 0) then
        runStartFault .link (u32 bs 0)
          (firstQ (BitVec.ofNat 32 (u32 bs 4)) { b with ple := { b.ple with runStart := none } })
      else
        startLooking (u8 bs 0x11)
          (setPle (fun p => { p with cursor := .atPlan (u32 bs 0) })
            (firstQ (BitVec.ofNat 32 (u32 bs 4)) { b with ple := { b.ple with runStart := none } })) := by
  unfold runStartResponse
  rw [h]
  dsimp only
  rw [ReadAcc.result_ok ha, hf]
  rfl

end RunStart

theorem badChainStart_iff (b : Block) (x : Nat) :
    badChainStart b x = true ↔ x % 64 ≠ 0 ∨ x < 0x1000 ∨ b.regs.wlimit.toNat * 4096 < x + 64 := by
  show (decide (x % 64 ≠ 0) || decide (x < 0x1000) || !decide (x + 64 ≤ b.regs.wlimit.toNat * 4096)) = true ↔ _
  simp [or_assoc]

/-- The P write that the first RUN makes: held while a mirror body is being written. -/
def firstPWrite (q : Word) (b : Block) : PWrite :=
  { acc := match b.ple.mirror with
      | .body _ => none
      | _ => some (writeAt b 0x044 (leWord q))
    pub := none }

theorem firstPWrite_issued {b : Block} (h : ∀ acc, b.ple.mirror ≠ .body acc) (q : Word) :
    (firstPWrite q b).acc = some (writeAt b 0x044 (leWord q)) := by
  unfold firstPWrite
  split
  · rename_i acc hm
    exact absurd hm (h acc)
  · rfl

theorem firstPWrite_held {b : Block} {acc : WriteAcc} (h : b.ple.mirror = .body acc) (q : Word) :
    (firstPWrite q b).acc = none := by
  simp [firstPWrite, h]

theorem firstQ_eq (q : Word) (b : Block) :
    firstQ q b = { b with fsu := { b.fsu with
      heldQ := q, p := q, refusedQ := none, pWrites := b.fsu.pWrites ++ [firstPWrite q b] } } := by
  unfold firstQ queuePWrite firstPWrite
  cases hm : b.ple.mirror <;> simp [hm, setFsu] <;> rfl

/-- Looking starts: the look period is loaded, the timer runs, and a look is due or waits. -/
theorem startLooking_free {b : Block} (hr : b.regs.run = true) (hb : lookBusy b = false) (period : Nat) :
    startLooking period b = { b with
      ple := { b.ple with lookPeriod := some (max 1 period), lookTimer := true }, due := b.due ++ [.lookStart] } := by
  unfold startLooking
  have hr' : (setPle (fun p => { p with lookPeriod := some (max 1 period) }) b).regs.run = true := hr
  rw [if_pos hr']
  refine (requestLook_free ?_ ?_).trans ((markDue_new ?_).trans rfl)
  · exact hr
  · exact hb
  · exact (lookBusy_eq_false hb).2

theorem startLooking_busy {b : Block} (hr : b.regs.run = true) (hb : lookBusy b = true) (period : Nat) :
    startLooking period b = { b with
      ple := { b.ple with lookPeriod := some (max 1 period), lookTimer := true, lookPending := true } } := by
  unfold startLooking
  have hr' : (setPle (fun p => { p with lookPeriod := some (max 1 period) }) b).regs.run = true := hr
  rw [if_pos hr']
  refine (requestLook_busy ?_ ?_).trans rfl
  · exact hr
  · exact hb

/-- Settles O19: the first start takes Q, P and the cursor from the host area, a later one the look period alone. -/
theorem runStartResponse_holds : Obligations.RunStartResponse := by
  refine ⟨fun s b rs bs hs h hf ha hr hb h64 hlo hhi => ?_, fun s b rs bs hs h hf ha hr => ⟨fun hb => ?_, fun hb => ?_⟩⟩
  · refine ⟨firstPWrite (BitVec.ofNat 32 (u32 bs 4)) b, (runs_controlBlockReadDone _ hs).of_eq ?_, rfl,
      fun hm => firstPWrite_issued hm _, fun acc hm => firstPWrite_held hm _⟩
    have hgood : ¬badChainStart b (u32 bs 0) = true := by
      rw [badChainStart_iff]
      omega
    rw [runStartResponse_first h hf ha, if_neg hgood, firstQ_eq]
    refine (startLooking_free ?_ ?_ _).trans rfl
    · exact hr
    · exact hb
  · refine (runs_controlBlockReadDone _ hs).of_eq ?_
    rw [runStartResponse_later h hf ha]
    refine (startLooking_free ?_ ?_ _).trans rfl
    · exact hr
    · exact hb
  · refine (runs_controlBlockReadDone _ hs).of_eq ?_
    rw [runStartResponse_later h hf ha]
    refine (startLooking_busy ?_ ?_ _).trans rfl
    · exact hr
    · exact hb

/-! ### The responses of a look -/

theorem nextResponse_error {b : Block} {x : Nat} {acc : ReadAcc} (h : b.ple.look = .next x acc) {r : ReadResp}
    {c : FaultCode} (he : acc.result r = .error c) : nextResponse r b = chainFault c acc.offset b := by
  simp [nextResponse, h, he]

theorem nextResponse_data {b : Block} {x : Nat} {acc : ReadAcc} (h : b.ple.look = .next x acc) (ha : acc.addr ≠ none)
    (bs : List Byte) :
    nextResponse (.data bs) b =
      if u32 bs 0 = 0 then endLook b
      else if badLink (u32 bs 0) then chainFault .link (u32 bs 0) b else moveCursor (.atPlan (u32 bs 0)) b := by
  simp [nextResponse, h, ReadAcc.result_ok ha]

theorem badLink_iff (x : Nat) : badLink x = true ↔ x % 64 ≠ 0 ∨ x < 0x1000 := by
  show (decide (x % 64 ≠ 0) || decide (x < 0x1000)) = true ↔ _
  simp

theorem planResponse_error {b : Block} {x : Nat} {acc : ReadAcc} (h : b.ple.look = .plan x acc) {r : ReadResp}
    {c : FaultCode} (he : acc.result r = .error c) : planResponse r b = chainFault c acc.offset b := by
  simp [planResponse, h, he]

theorem checkResponse_error {b : Block} {p : PlanRec} {acc : ReadAcc} (h : b.ple.look = .check p acc) {r : ReadResp}
    {c : FaultCode} (he : acc.result r = .error c) : checkResponse r b = chainFault c acc.offset b := by
  simp [checkResponse, h, he]

section Refusals
variable {b : Block} {x : Nat} {n : Bool} {acc : WriteAcc} {err : Bool}

theorem refusalOutcomeResponse_fault (h : b.ple.look = .refuseOutcome x n acc) {c : FaultCode}
    (he : acc.fault err = some c) : refusalOutcomeResponse err b = chainFault c acc.offset b := by
  simp [refusalOutcomeResponse, h, he]

theorem refusalOutcomeResponse_ok (h : b.ple.look = .refuseOutcome x n acc) (he : acc.fault err = none) :
    refusalOutcomeResponse err b = setLook (.refuseState x n (writeAt b x [4#8])) b := by
  simp [refusalOutcomeResponse, h, he, leBytes, FinalState.code]

theorem refusalStateResponse_fault (h : b.ple.look = .refuseState x n acc) {c : FaultCode}
    (he : acc.fault err = some c) : refusalStateResponse err b = chainFault c acc.offset b := by
  simp [refusalStateResponse, h, he]

theorem refusalStateResponse_ok (h : b.ple.look = .refuseState x n acc) (he : acc.fault err = none) :
    refusalStateResponse err b = moveCursor (.afterPlan x) (if n then raise .planEnd b else b) := by
  simp [refusalStateResponse, h, he]

end Refusals

theorem takenWriteError_fault {b : Block} {p : PlanRec} {v : CheckVal} {acc : WriteAcc} (h : b.ple.look = .taken p v acc)
    {c : FaultCode} (he : acc.fault true = some c) : takenWriteError b = chainFault c acc.offset b := by
  cases ha : acc.addr with
  | none =>
    rw [WriteAcc.fault_none ha] at he
    cases he
    simp [takenWriteError, h, ha]
  | some y =>
    rw [WriteAcc.fault_some ha] at he
    cases he
    simp [takenWriteError, h, ha]

/-- Settles O17: each response with a fault, then the bad link and the bad chain start. -/
theorem chainFaultStopsChain : Obligations.ChainFaultStopsChain := by
  intro s b c hs
  refine ⟨fun r rs h he => ?_, fun r x acc h he => ?_, fun r x acc h he => ?_, fun r p acc h he => ?_,
    fun err x n acc h he => ?_, fun err x n acc h he => ?_, fun p v acc h he => ?_, fun x acc bs h ha h0 hbad => ?_,
    fun rs bs h hf ha hbad => ?_⟩
  · exact (runs_controlBlockReadDone r hs).of_eq (runStartResponse_error h he)
  · exact (runs_nextFieldReadDone r hs).of_eq ((nextResponse_error h he).trans (chainFault_eq ..))
  · exact (runs_planReadDone r hs).of_eq ((planResponse_error h he).trans (chainFault_eq ..))
  · exact (runs_takingCheckReadDone r hs).of_eq ((checkResponse_error h he).trans (chainFault_eq ..))
  · exact (runs_refusalOutcomeWriteDone err hs).of_eq ((refusalOutcomeResponse_fault h he).trans (chainFault_eq ..))
  · exact (runs_refusalStateWriteDone err hs).of_eq ((refusalStateResponse_fault h he).trans (chainFault_eq ..))
  · exact (runs_takenWriteError hs).of_eq ((takenWriteError_fault h he).trans (chainFault_eq ..))
  · refine (runs_nextFieldReadDone _ hs).of_eq ?_
    rw [nextResponse_data h ha, if_neg h0, if_pos ((badLink_iff _).2 hbad), chainFault_eq]
  · refine ⟨firstPWrite (BitVec.ofNat 32 (u32 bs 4)) b, (runs_controlBlockReadDone _ hs).of_eq ?_, rfl,
      fun hm => firstPWrite_issued hm _, fun acc hm => firstPWrite_held hm _⟩
    rw [runStartResponse_first h hf ha, if_pos ((badChainStart_iff _ _).2 hbad), firstQ_eq]
    exact runStartFault_eq rfl

/-- Settles O21: by the value of the next field. -/
theorem nextFieldMovesCursor : Obligations.NextFieldMovesCursor := by
  intro s b x acc bs hs h ha
  have hgo : u32 bs 0 % 64 = 0 → 0x1000 ≤ u32 bs 0 →
      Runs (.nextFieldReadDone ⟨false, .data bs⟩) s (moveCursor (.atPlan (u32 bs 0)) b) := by
    intro h64 hlo
    refine (runs_nextFieldReadDone _ hs).of_eq ?_
    rw [nextResponse_data h ha, if_neg (by omega), if_neg (by rw [badLink_iff]; omega)]
  have hend : u32 bs 0 = 0 → Runs (.nextFieldReadDone ⟨false, .data bs⟩) s (endLook b) := by
    intro h0
    refine (runs_nextFieldReadDone _ hs).of_eq ?_
    rw [nextResponse_data h ha, if_pos h0]
  exact ⟨fun h0 hp => (hend h0).of_eq (endLook_idle hp), fun h0 hp hr hd => (hend h0).of_eq (endLook_again hp hr hd),
    fun h64 hlo hst => (hgo h64 hlo).of_eq (moveCursor_atPlan hst _),
    fun h64 hlo hst hp => (hgo h64 hlo).of_eq (moveCursor_stops hst hp _)⟩

/-! ### Looks start -/

theorem noStream_iff (b : Block) : noStream b = true ↔ b.ftu.stream = .stopped ∨ b.ftu.stream = .waitingSync := by
  unfold noStream
  cases b.ftu.stream <;> simp

/-- The read that a look makes at the cursor. -/
def cursorRead (b : Block) : Cursor → Look
  | .none => .idle
  | .atPlan x => .plan x (readAt b x 64)
  | .afterPlan x => .next x (readAt b (x + 8) 4)

theorem lookStep_eq {b : Block} (h : b.ple.cursor ≠ .none) :
    lookStep b = { b with ple := { b.ple with look := cursorRead b b.ple.cursor } } := by
  unfold lookStep
  split
  · exact absurd ‹_› h
  all_goals
    rename_i hc
    rw [hc]
    rfl

/-- Settles O20: an expiry requests a look; a look that starts reads at the cursor, with a rewrite requested while no stream
runs. -/
theorem looksStart : Obligations.LooksStart := by
  refine ⟨fun s b hs ht => ?_, fun s b x hd hb l hl => ?_⟩
  · have hrun : Runs .lookTimerExpiry s (requestLook b) :=
      (runs_lookTimerExpiry hs).of_eq (by simp [lookTimerExpiry, ht])
    refine ⟨fun hr => hrun.of_eq (requestLook_stopped hr), fun hr hb => hrun.of_eq ?_,
      fun hr hb => hrun.of_eq (requestLook_busy hr hb)⟩
    rw [requestLook_free hr hb]
    exact markDue_new (lookBusy_eq_false hb).2
  · have hrun := runs_lookStart hd hb
    have hc : b.ple.cursor ≠ .none := by
      rcases hl with ⟨hc, _⟩ | ⟨hc, _⟩ <;> rw [hc] <;> simp
    have hread : cursorRead b b.ple.cursor = l := by
      rcases hl with ⟨hc, rfl⟩ | ⟨hc, rfl⟩ <;> rw [hc] <;> rfl
    subst hread
    refine ⟨fun h1 h2 => hrun.of_eq ?_, fun hst hm => hrun.of_eq ?_, fun hst hm => hrun.of_eq ?_⟩
    · have hno : ¬noStream b = true := by
        rw [noStream_iff]
        exact not_or.2 ⟨h1, h2⟩
      unfold lookStart
      rw [if_neg hno]
      exact lookStep_eq hc
    · unfold lookStart
      rw [if_pos ((noStream_iff b).2 hst), requestMirror_free hm, markDue_new (mirrorBusy_eq_false hm).2]
      refine (lookStep_eq ?_).trans rfl
      exact hc
    · unfold lookStart
      rw [if_pos ((noStream_iff b).2 hst), requestMirror_busy hm]
      refine (lookStep_eq ?_).trans rfl
      exact hc

end Sys2Proof.Machine
end

section
/-!
The decision on a plan: what its bytes say, whether it is blocked, its taking checks, its refusal, and its take.
-/

namespace Sys2Proof.Machine

/-! ### The bytes of a plan (R11, R183) -/

theorem inRange_iff {lo hi v : Nat} : inRange lo hi v = true ↔ lo ≤ v ∧ v ≤ hi := by
  simp [inRange]

theorem isFlag_iff {v : Nat} : isFlag v = true ↔ v ≤ 1 := by
  simp [isFlag]

theorem goodOffset_iff {v : Nat} : goodOffset v = true ↔ v % 64 = 0 ∧ 0x1000 ≤ v := by
  show (v % 64 == 0 && decide (0x1000 ≤ v)) = true ↔ _
  simp

/-- A record that meets its condition gives its parameters, one that does not gives none. -/
theorem parsed_iff {c : Bool} {ok : Prop} (h : c = true ↔ ok) (p : PlanParams) :
    (ok → (if c then some p else none) = some p) ∧ (¬ok → (if c then some p else none) = none) :=
  ⟨fun hok => if_pos (h.2 hok), fun hok => if_neg (h.not.2 hok)⟩

section Parse
variable (bs : List Byte)

theorem parseStream_stop (h : u8 bs 16 = 1) : parseStream bs = some .streamStop := by
  unfold parseStream
  rw [if_pos h]

theorem parseStream_start (h : u8 bs 16 ≠ 1) :
    let ok := u8 bs 16 = 0 ∧ 64 ≤ u16 bs 22 ∧ u16 bs 22 ≤ 16383 ∧ 16 ≤ u16 bs 24 ∧ u16 bs 24 ≤ u16 bs 22 - 1 ∧
      256 ≤ u16 bs 26 ∧ u16 bs 26 ≤ 8192 ∧ u16 bs 26 % 16 = 0 ∧ 1 ≤ u8 bs 17 ∧ u8 bs 17 ≤ 63 ∧ 1 ≤ u8 bs 18 ∧
      u8 bs 18 ≤ 3 ∧ u8 bs 20 ≤ 192 ∧ u8 bs 21 ≤ 96
    (ok → parseStream bs = some (.streamStart
      { lines := u16 bs 22, active := u16 bs 24, width := u16 bs 26, margin := u8 bs 17, latency := u8 bs 18,
        s0 := u8 bs 19, g0 := u8 bs 20, c0 := u8 bs 21 })) ∧
    (¬ok → parseStream bs = none) := by
  intro ok
  unfold parseStream
  rw [if_neg h]
  refine parsed_iff ?_ _
  simp only [Bool.and_eq_true, inRange_iff, decide_eq_true_eq, beq_iff_eq, and_assoc, Nat.zero_le, true_and, ok]

theorem expMode?_some {v : Nat} {mode : ExpMode}
    (h : (v, mode) ∈ [(0, ExpMode.auto), (1, .lock), (2, .manual)]) : expMode? v = some mode := by
  simp only [List.mem_cons, List.not_mem_nil, or_false, Prod.mk.injEq] at h
  rcases h with ⟨rfl, rfl⟩ | ⟨rfl, rfl⟩ | ⟨rfl, rfl⟩ <;> rfl

theorem expMode?_none {v : Nat} (h : 2 < v) : expMode? v = none := by
  obtain ⟨n, rfl⟩ := Nat.exists_eq_add_of_le' h
  rfl

/-- The ranges of Table 26. -/
def ExposureInRange : Prop :=
  16 ≤ u8 bs 17 ∧ u8 bs 17 ≤ 240 ∧ -48 ≤ s8 bs 18 ∧ s8 bs 18 ≤ 48 ∧ u8 bs 19 ≤ 3 ∧ u8 bs 20 ≤ 16 ∧ 1 ≤ u8 bs 21 ∧
  u8 bs 21 ≤ 4 ∧ 1 ≤ u8 bs 22 ∧ u8 bs 22 ≤ 128 ∧ u8 bs 23 ≤ 64 ∧ 192 ≤ u8 bs 24 ∧ u8 bs 24 ≤ 255 ∧ u8 bs 25 ≤ 192 ∧
  1 ≤ u8 bs 26 ∧ u8 bs 26 ≤ 32 ∧ u8 bs 27 ≤ 4 ∧ u8 bs 29 ≤ 192 ∧ u8 bs 30 ≤ 96 ∧ u16 bs 32 ≤ 1023 ∧ 1 ≤ u16 bs 34 ∧
  u16 bs 34 ≤ 65535

theorem parseExposure_of_mode {mode : ExpMode} (h : expMode? (u8 bs 16) = some mode) :
    (ExposureInRange bs → parseExposure bs = some (.exposure
      { mode := mode, target := u8 bs 17, comp := s8 bs 18, table := u8 bs 19, deadband := u8 bs 20,
        response := u8 bs 21, stepMax := u8 bs 22, guardZones := u8 bs 23, clip := u8 bs 24, black := u16 bs 32,
        floor := u16 bs 34, gMax := u8 bs 25, slew := u8 bs 26, bonus := u8 bs 27, sm := u8 bs 28, gm := u8 bs 29,
        cm := u8 bs 30 })) ∧
    (¬ExposureInRange bs → parseExposure bs = none) := by
  unfold parseExposure
  rw [h]
  refine parsed_iff ?_ _
  simp only [Bool.and_eq_true, inRange_iff, decide_eq_true_eq, and_assoc, Nat.zero_le, true_and, ExposureInRange]

theorem parseExposure_malformed (h : ¬(u8 bs 16 ≤ 2 ∧ ExposureInRange bs)) : parseExposure bs = none := by
  cases hm : expMode? (u8 bs 16) with
  | none =>
    unfold parseExposure
    rw [hm]
  | some mode =>
    refine (parseExposure_of_mode bs hm).2 fun hr => h ⟨?_, hr⟩
    by_contra hlt
    rw [expMode?_none (by omega)] at hm
    cases hm

theorem parseStab_off (h : u8 bs 16 = 0) : parseStab bs = some .stabOff := by
  unfold parseStab
  rw [if_pos h]

theorem parseStab_on (h : u8 bs 16 ≠ 0) :
    let ok := u8 bs 16 = 1 ∧ 6 ≤ u8 bs 17 ∧ u8 bs 17 ≤ 14 ∧ u8 bs 18 ≤ 4 ∧ u8 bs 19 ≤ 1 ∧ 1 ≤ u16 bs 24 ∧
      u16 bs 24 ≤ 4095 ∧ 4 ≤ u8 bs 20 ∧ u8 bs 20 ≤ 16 ∧ 2 ≤ u16 bs 26 ∧ u16 bs 26 ≤ 32767 ∧ 1 ≤ u8 bs 21 ∧
      u8 bs 21 ≤ 255 ∧ 1 ≤ u16 bs 28 ∧ u16 bs 28 ≤ 2047 ∧ 64 ≤ u16 bs 30 ∧ u16 bs 30 ≤ 4096
    (ok → parseStab bs = some (.stabOn
      { leak := u8 bs 17, boost := u8 bs 18, biasOn := u8 bs 19 == 1, still := u16 bs 24, track := u8 bs 20,
        panThreshold := u16 bs 26, panCount := u8 bs 21, range := u16 bs 28, centering := u16 bs 30 })) ∧
    (¬ok → parseStab bs = none) := by
  intro ok
  unfold parseStab
  rw [if_neg h]
  refine parsed_iff ?_ _
  simp only [Bool.and_eq_true, inRange_iff, isFlag_iff, decide_eq_true_eq, and_assoc, Nat.zero_le, true_and, ok]

theorem parseZoom_cases :
    (u8 bs 18 ≤ 1 → parseZoom bs = some (.zoom (s16 bs 16) (u8 bs 18 == 1))) ∧ (1 < u8 bs 18 → parseZoom bs = none) := by
  have h := parsed_iff (isFlag_iff (v := u8 bs 18)) (.zoom (s16 bs 16) (u8 bs 18 == 1))
  exact ⟨h.1, fun hlt => h.2 (by omega)⟩

theorem parseFocus_cases :
    (u8 bs 16 = 0 → parseFocus bs = some (.focus (.position (s16 bs 18)))) ∧
    (u8 bs 16 = 1 → u16 bs 20 ≤ 1024 → parseFocus bs = some (.focus (.distance (u16 bs 20)))) ∧
    (u8 bs 16 = 1 → 1024 < u16 bs 20 → parseFocus bs = none) ∧ (1 < u8 bs 16 → parseFocus bs = none) := by
  unfold parseFocus
  refine ⟨fun h => if_pos h, fun h hu => ?_, fun h hu => ?_, fun h => ?_⟩
  · rw [if_neg (by omega), if_pos]
    simp [h, inRange_iff, hu]
  · rw [if_neg (by omega), if_neg]
    simp only [Bool.and_eq_true, inRange_iff]
    omega
  · rw [if_neg (by omega), if_neg]
    simp only [Bool.and_eq_true, decide_eq_true_eq]
    omega

theorem parseAfSearch_cases :
    let ok := u8 bs 16 ≤ 1 ∧ u8 bs 17 ≤ 1 ∧ 2 ≤ u16 bs 20 ∧ u16 bs 20 ≤ 4095 ∧ 1 ≤ u16 bs 22 ∧ u16 bs 22 ≤ u16 bs 20 / 2 ∧
      8 ≤ u8 bs 18 ∧ u8 bs 18 ≤ 15 ∧ 17 ≤ u8 bs 19 ∧ u8 bs 19 ≤ 255 ∧ u8 bs 26 ≤ u8 bs 27 ∧ u8 bs 27 ≤ 7 ∧
      u8 bs 28 ≤ u8 bs 29 ∧ u8 bs 29 ≤ 7 ∧ (u32 bs 32 = 0 ∨ u32 bs 32 % 64 = 0 ∧ 0x1000 ≤ u32 bs 32)
    (ok → parseAfSearch bs = some (.afSearch
      { fromPosition := u8 bs 16 == 1, start := s16 bs 24, near := u8 bs 17 == 0, coarse := u16 bs 20,
        fine := u16 bs 22, drop := u8 bs 18, contrast := u8 bs 19,
        window := { x0 := u8 bs 26, x1 := u8 bs 27, y0 := u8 bs 28, y1 := u8 bs 29 },
        coring := u8 bs 30, trace := u32 bs 32 })) ∧
    (¬ok → parseAfSearch bs = none) := by
  intro ok
  unfold parseAfSearch
  refine parsed_iff ?_ _
  simp only [Bool.and_eq_true, Bool.or_eq_true, inRange_iff, isFlag_iff, goodOffset_iff, beq_iff_eq, decide_eq_true_eq,
    and_assoc, Nat.zero_le, true_and, ok]

theorem parseReference_cases :
    (96 ≤ u8 bs 32 → u8 bs 32 ≤ 255 →
      parseReference bs =
        some (.reference { zoom := refSetAt bs 16, focus := refSetAt bs 24, cTravel := u8 bs 32 })) ∧
    (u8 bs 32 < 96 → parseReference bs = none) := by
  have h := parsed_iff (inRange_iff (lo := 96) (hi := 255) (v := u8 bs 32))
    (.reference { zoom := refSetAt bs 16, focus := refSetAt bs 24, cTravel := u8 bs 32 })
  exact ⟨fun h1 h2 => h.1 ⟨h1, h2⟩, fun hlt => h.2 (by omega)⟩

theorem parseCapture_cases :
    let ok := 1 ≤ u8 bs 17 ∧ u8 bs 17 ≤ 8 ∧ u8 bs 18 ≤ 1 ∧ 1 ≤ u8 bs 19 ∧ u8 bs 19 ≤ 255 ∧ u8 bs 20 ≤ 1 ∧
      u8 bs 21 ≤ 1 ∧ u8 bs 24 ≤ 1 ∧ u8 bs 25 ≤ 1 ∧ u8 bs 26 ≤ 1 ∧
      (u8 bs 21 = 0 ∨ 1 ≤ u8 bs 22 ∧ u8 bs 22 ≤ 255 ∧ 1 ≤ u8 bs 23 ∧ u8 bs 23 ≤ 255)
    (ok → parseCapture bs = some (.capture
      { count := u8 bs 16, stride := u8 bs 17, settledStart := u8 bs 18 == 1, maxWait := u8 bs 19,
        aeLock := u8 bs 20 == 0, caf := u8 bs 21 == 1, cafStep := u8 bs 22, cafHyst := u8 bs 23,
        flip := u8 bs 24 == 1, endPolicy := u8 bs 25 == 1, notify := u8 bs 26 == 1 })) ∧
    (¬ok → parseCapture bs = none) := by
  intro ok
  unfold parseCapture
  refine parsed_iff ?_ _
  simp only [Bool.and_eq_true, Bool.or_eq_true, inRange_iff, isFlag_iff, beq_iff_eq, and_assoc, ok]

theorem parseTables_cases :
    let at64 := fun v : Nat => v % 64 = 0 ∧ 0x1000 ≤ v
    let ok := at64 (u32 bs 16) ∧ at64 (u32 bs 20) ∧ at64 (u32 bs 24) ∧ at64 (u32 bs 28) ∧ u16 bs 32 ≤ 4095
    (ok → parseTables bs = some (.tables
      { mapOff := u32 bs 16, zoomOff := u32 bs 20, focusOff := u32 bs 24, weightOff := u32 bs 28,
        margin := u16 bs 32 })) ∧
    (¬ok → parseTables bs = none) := by
  intro at64 ok
  unfold parseTables
  refine parsed_iff ?_ _
  simp only [Bool.and_eq_true, inRange_iff, goodOffset_iff, and_assoc, Nat.zero_le, true_and, ok, at64]

end Parse

/-- The parser that a kind byte chooses. -/
def parserOf (kind : Nat) (bs : List Byte) : Option PlanParams :=
  match kind with
  | 1 => parseStream bs
  | 2 => parseExposure bs
  | 3 => parseStab bs
  | 4 => parseZoom bs
  | 5 => parseFocus bs
  | 6 => parseAfSearch bs
  | 7 => parseReference bs
  | 8 => parseCapture bs
  | 9 => parseTables bs
  | 10 => some .sync
  | _ => none

theorem parseParams_eq {bs : List Byte} {kind : Nat} (h : u8 bs 1 = kind) : parseParams bs = parserOf kind bs := by
  subst h
  rfl

theorem parseParams_malformed {bs : List Byte} (h : u8 bs 1 = 0 ∨ 10 < u8 bs 1) : parseParams bs = none := by
  rcases h with h | h
  · exact parseParams_eq h
  · obtain ⟨n, hn⟩ := Nat.exists_eq_add_of_le' h
    exact parseParams_eq hn

/-! ### Blocking and the taking checks (R12, R13) -/

theorem blocked_iff (b : Block) (p : PlanRec) :
    blocked b p = true ↔
      (∃ t ∈ b.ple.taken, t.detached = false ∨ t.kind = .sync) ∨
      (∃ t ∈ b.ple.taken, ∃ c ∈ p.params.classes, c ∈ t.classes) ∨
      (p.params.kind = .sync ∧ b.ple.taken ≠ []) := by
  have hclass : (∃ c ∈ p.params.classes, ∃ t ∈ b.ple.taken, c ∈ t.classes) ↔
      ∃ t ∈ b.ple.taken, ∃ c ∈ p.params.classes, c ∈ t.classes :=
    ⟨fun ⟨c, hc, t, ht, h⟩ => ⟨t, ht, c, hc, h⟩, fun ⟨t, ht, c, hc, h⟩ => ⟨c, hc, t, ht, h⟩⟩
  simp only [blocked, Taken.blocks, classBusy, Bool.or_eq_true, List.any_eq_true, Bool.and_eq_true, Bool.not_eq_true',
    beq_iff_eq, List.contains_iff_mem, List.isEmpty_eq_false_iff, hclass, or_assoc]

theorem tablesLoaded_iff (b : Block) : tablesLoaded b = true ↔ b.zmap.tables ≠ none := by
  simp [tablesLoaded, Option.isSome_iff_ne_none]

theorem require_true {c : Bool} (h : c = true) (o : PlanOutcome) (rest : Check) : require c o rest = rest := if_pos h

theorem require_false {c : Bool} (h : ¬c = true) (o : PlanOutcome) (rest : Check) : require c o rest = .refuse o := if_neg h

theorem takingCheck_streamStart (b : Block) (q : StreamParams) :
    (b.ftu.stream = .stopped → takingCheck b (.streamStart q) = .pass) ∧
    (b.ftu.stream ≠ .stopped → takingCheck b (.streamStart q) = .refuse .badPlan) :=
  ⟨fun h => require_true (beq_iff_eq.2 h) _ _, fun h => require_false (beq_iff_eq.not.2 h) _ _⟩

/-- The check of a lens plan alone. -/
theorem require_tables (b : Block) :
    (b.zmap.tables = none → require (tablesLoaded b) .noTables .pass = .refuse .noTables) ∧
    (b.zmap.tables ≠ none → require (tablesLoaded b) .noTables .pass = .pass) :=
  ⟨fun h => require_false (fun ht => (tablesLoaded_iff b).1 ht h) _ _,
    fun h => require_true ((tablesLoaded_iff b).2 h) _ _⟩

/-- The check of a plan that also needs a stream. -/
theorem require_tables_stream (b : Block) :
    let check := require (tablesLoaded b) .noTables (require (b.ftu.stream == .running) .notStreaming .pass)
    (b.zmap.tables = none → check = .refuse .noTables) ∧
    (b.zmap.tables ≠ none → b.ftu.stream ≠ .running → check = .refuse .notStreaming) ∧
    (b.zmap.tables ≠ none → b.ftu.stream = .running → check = .pass) := by
  refine ⟨fun h => require_false (fun ht => (tablesLoaded_iff b).1 ht h) _ _, fun h hr => ?_, fun h hr => ?_⟩
  · exact (require_true ((tablesLoaded_iff b).2 h) _ _).trans (require_false (beq_iff_eq.not.2 hr) _ _)
  · exact (require_true ((tablesLoaded_iff b).2 h) _ _).trans (require_true (beq_iff_eq.2 hr) _ _)

theorem RawRefSet.check_isSome (r : RawRefSet) :
    r.check.isSome = true ↔
      r.direction ≤ 1 ∧ r.edge ≤ 1 ∧ 1 ≤ r.duty ∧ r.duty ≤ 255 ∧ 1 ≤ r.travel ∧ r.travel ≤ 65535 := by
  unfold RawRefSet.check
  split
  · rename_i h
    simp only [Bool.and_eq_true, isFlag_iff, inRange_iff, and_assoc] at h
    simpa using h
  · rename_i h
    simp only [Bool.and_eq_true, isFlag_iff, inRange_iff, and_assoc] at h
    simpa using h

/-- A REFERENCE plan needs tables or two good sets of its own. -/
theorem referenceCheck_iff (b : Block) (q : RefParams) :
    (tablesLoaded b || (q.zoom.check.isSome && q.focus.check.isSome)) = true ↔
      b.zmap.tables ≠ none ∨ q.zoom.check.isSome = true ∧ q.focus.check.isSome = true := by
  simp only [Bool.or_eq_true, Bool.and_eq_true, tablesLoaded_iff]

/-! ### The response to the read of a plan -/

section Plan
variable {b : Block} {x : Nat} {acc : ReadAcc} {bs : List Byte} (h : b.ple.look = .plan x acc) (ha : acc.addr ≠ none)
include h ha

theorem planResponse_notReady (h0 : u8 bs 0 ≠ 1) : planResponse (.data bs) b = endLook b := by
  simp [planResponse, h, ReadAcc.result_ok ha, stateReady, h0]

theorem planResponse_malformed (h0 : u8 bs 0 = 1) (hp : parseParams bs = none) :
    planResponse (.data bs) b = refuse x (planNotify bs) .badPlan b := by
  simp [planResponse, h, ReadAcc.result_ok ha, stateReady, h0, hp]

theorem planResponse_timeout (h0 : u8 bs 0 = 1) {q : PlanParams} (hp : parseParams bs = some q) {o : Nat}
    (ht : timeoutField q = some o) :
    planResponse (.data bs) b =
      setLook (.check { offset := x, detached := planDetached bs, notify := planNotify bs, tag := planTag bs, params := q }
        (readAt b o 1)) b := by
  simp [planResponse, h, ReadAcc.result_ok ha, stateReady, h0, hp, ht]

theorem planResponse_judged (h0 : u8 bs 0 = 1) {q : PlanParams} (hp : parseParams bs = some q)
    (ht : timeoutField q = none) :
    planResponse (.data bs) b =
      judge { offset := x, detached := planDetached bs, notify := planNotify bs, tag := planTag bs, params := q } .none b := by
  simp [planResponse, h, ReadAcc.result_ok ha, stateReady, h0, hp, ht]

end Plan

section Judge
variable {b : Block} {p : PlanRec} (v : CheckVal)

theorem judge_blocked (h : blocked b p = true) : judge p v b = endLook b := by
  unfold judge
  rw [if_pos h]

theorem judge_capture (h : blocked b p = false) {c : CapParams} (hp : p.params = .capture c)
    (hc : takingCheck b p.params = .pass) : judge p v b = setLook (.check p (readAt b 0x008 9)) b := by
  unfold judge
  rw [if_neg (by simp [h]), hc, hp]
  rfl

theorem judge_pass (h : blocked b p = false) (hp : ∀ c, p.params ≠ .capture c) (hc : takingCheck b p.params = .pass) :
    judge p v b = setLook (.taken p v (writeAt b p.offset [2#8])) b := by
  unfold judge
  rw [if_neg (by simp [h]), hc]
  split
  · exact absurd ‹_› (hp _)
  · rfl

theorem judge_refuse (h : blocked b p = false) {o : PlanOutcome} (hc : takingCheck b p.params = .refuse o) :
    judge p v b = refuse p.offset p.notify o b := by
  unfold judge
  rw [if_neg (by simp [h]), hc]
  split
  · cases ‹_ = Check.pass›
  · rfl

end Judge

theorem timeoutField_capture (c : CapParams) : timeoutField (.capture c) = none := rfl

/-- The decision on a plan that was read. -/
theorem planRead_decides {s : State} {b : Block} {x : Nat} {acc : ReadAcc} {bs : List Byte} (hs : Settles s b)
    (h : b.ple.look = .plan x acc) (ha : acc.addr ≠ none) (hpend : b.ple.lookPending = false) (h0 : u8 bs 0 = 1)
    {q : PlanParams} (hq : parseParams bs = some q) :
    let p : PlanRec :=
      { offset := x, detached := (bs.getD 2 0#8).getLsbD 0, notify := (bs.getD 2 0#8).getLsbD 1,
        tag := BitVec.ofNat 32 (u32 bs 4), params := q }
    (timeoutField q = none → blocked b p = true →
      Runs (.planReadDone ⟨false, .data bs⟩) s { b with ple := { b.ple with look := .idle, lookStop := false } }) ∧
    (timeoutField q = none → blocked b p = false → takingCheck b q = .pass → (∀ c, q ≠ .capture c) →
      Runs (.planReadDone ⟨false, .data bs⟩) s { b with ple := { b.ple with
        look := .taken p .none (writeAt b x [2#8]) } }) ∧
    (∀ o, timeoutField q = none → blocked b p = false → takingCheck b q = .refuse o →
      Runs (.planReadDone ⟨false, .data bs⟩) s { b with ple := { b.ple with
        look := .refuseOutcome x p.notify (writeAt b (x + 3) (leBytes 1 o.code)) } }) ∧
    (∀ o, timeoutField q = some o →
      Runs (.planReadDone ⟨false, .data bs⟩) s { b with ple := { b.ple with look := .check p (readAt b o 1) } }) ∧
    (∀ c, q = .capture c → blocked b p = false → takingCheck b q = .pass →
      Runs (.planReadDone ⟨false, .data bs⟩) s { b with ple := { b.ple with look := .check p (readAt b 0x008 9) } }) := by
  intro p
  have hread := runs_planReadDone (.data bs) hs
  refine ⟨fun ht hb => ?_, fun ht hb hc hn => ?_, fun o ht hb hc => ?_, fun o ht => ?_, fun c hcap hb hc => ?_⟩
  · exact hread.of_eq ((planResponse_judged h ha h0 hq ht).trans ((judge_blocked _ hb).trans (endLook_quiet hpend)))
  · exact hread.of_eq ((planResponse_judged h ha h0 hq ht).trans (judge_pass _ hb hn hc))
  · exact hread.of_eq ((planResponse_judged h ha h0 hq ht).trans (judge_refuse _ hb hc))
  · exact hread.of_eq (planResponse_timeout h ha h0 hq ht)
  · subst hcap
    exact hread.of_eq ((planResponse_judged h ha h0 hq rfl).trans (judge_capture _ hb rfl hc))

/-- Settles O22: the decision by `planRead_decides`, then the timeout's field, blocking, the taking checks, and the parser of
each kind. -/
theorem planReadDecides : Obligations.PlanReadDecides := by
  refine ⟨fun s b x acc bs hs h ha hpend => ⟨fun h0 => ?notReady, fun h0 hp => ?malformed,
      fun h0 q hq => planRead_decides hs h ha hpend h0 hq⟩,
    fun p => ⟨fun q hq => hq ▸ rfl, fun q hq => hq ▸ rfl, fun h1 h2 => ?noTimeout⟩, blocked_iff,
    fun b => ⟨takingCheck_streamStart b, fun z tr f => ?lens, fun q c => ?search, fun q => ?reference,
      fun e s t => ⟨rfl, rfl, rfl, rfl, rfl, rfl⟩⟩,
    fun bs => ?parse⟩
  case notReady =>
    exact (runs_planReadDone _ hs).of_eq ((planResponse_notReady h ha h0).trans (endLook_quiet hpend))
  case malformed => exact (runs_planReadDone _ hs).of_eq (planResponse_malformed h ha h0 hp)
  case noTimeout =>
    cases p
    case streamStart q => exact absurd rfl (h1 q)
    case stabOn q => exact absurd rfl (h2 q)
    all_goals rfl
  case lens =>
    obtain ⟨hno, hyes⟩ := require_tables b
    exact ⟨fun h => ⟨hno h, hno h⟩, fun h => ⟨hyes h, hyes h⟩⟩
  case search =>
    obtain ⟨hno, hstop, hyes⟩ := require_tables_stream b
    exact ⟨fun h => ⟨hno h, hno h⟩, fun h hr => ⟨hstop h hr, hstop h hr⟩, fun h hr => ⟨hyes h hr, hyes h hr⟩⟩
  case reference =>
    have hiff := referenceCheck_iff b q
    rw [RawRefSet.check_isSome, RawRefSet.check_isSome] at hiff
    exact ⟨fun h => require_true (hiff.2 h) _ _,
      fun hn hg => require_false (fun h => (hiff.1 h).elim (fun ht => ht hn) hg) _ _⟩
  case parse =>
    refine ⟨parseParams_malformed, fun h => parseParams_eq h, fun h h16 => ?_, fun h h16 => ?_, fun h => ?_,
      fun h h16 => ?_, fun h h16 => ?_, fun h => ?_, fun h => ?_, fun h => ?_, fun h => ?_, fun h => ?_, fun h => ?_⟩
    · rw [parseParams_eq h]
      exact parseStream_stop bs h16
    · rw [parseParams_eq h]
      exact parseStream_start bs h16
    · rw [parseParams_eq h]
      exact ⟨fun mode hm hok => (parseExposure_of_mode bs (expMode?_some hm)).1 hok, parseExposure_malformed bs⟩
    · rw [parseParams_eq h]
      exact parseStab_off bs h16
    · rw [parseParams_eq h]
      exact parseStab_on bs h16
    · rw [parseParams_eq h]
      exact parseZoom_cases bs
    · rw [parseParams_eq h]
      exact parseFocus_cases bs
    · rw [parseParams_eq h]
      exact parseAfSearch_cases bs
    · rw [parseParams_eq h]
      exact parseReference_cases bs
    · rw [parseParams_eq h]
      exact parseCapture_cases bs
    · rw [parseParams_eq h]
      exact parseTables_cases bs

end Sys2Proof.Machine
end

section
/-!
The taking checks that read the control block, refusals, and the take of a plan.
-/

namespace Sys2Proof.Machine

/-! ### The read of a taking check (R13, R146) -/

section Check
variable {b : Block} {p : PlanRec} {acc : ReadAcc} {bs : List Byte} (h : b.ple.look = .check p acc) (ha : acc.addr ≠ none)
include h ha

theorem checkResponse_capture {c : CapParams} (hp : p.params = .capture c) :
    checkResponse (.data bs) b = actOn (poolCheck b (poolOf bs)) p (.pool (poolOf bs)) b := by
  simp [checkResponse, h, ReadAcc.result_ok ha, hp]

theorem checkResponse_timeout (hp : ∀ c, p.params ≠ .capture c) :
    checkResponse (.data bs) b =
      if u8 bs 0 = 0 then refuse p.offset p.notify .badPlan b else judge p (.timeout (u8 bs 0)) b := by
  unfold checkResponse
  rw [h]
  dsimp only
  rw [ReadAcc.result_ok ha]
  dsimp only
  split
  · exact absurd ‹_› (hp _)
  · rfl

end Check

section Pool
variable {b : Block} {pool : Pool}

theorem poolCheck_bad (h : goodPool b pool = false) : poolCheck b pool = .refuse .badPool :=
  require_false (by simp [h]) _ _

theorem poolCheck_busy (h : goodPool b pool = true) (hq : ∃ q, b.fsu.pool = some q ∧ q ≠ pool)
    (hp : b.fsu.p ≠ b.fsu.heldQ) : poolCheck b pool = .refuse .poolBusy := by
  obtain ⟨q, hq, hne⟩ := hq
  exact (require_true h _ _).trans (require_false (by simp [poolChangeOk, hq, hne, hp]) _ _)

theorem poolCheck_free (h : goodPool b pool = true)
    (hq : b.fsu.pool = none ∨ b.fsu.pool = some pool ∨ b.fsu.p = b.fsu.heldQ) :
    poolCheck b pool = if b.zoom.state.standing then .pass else .wait := by
  have hc : poolChangeOk b pool = true := by
    unfold poolChangeOk
    rcases hq with hq | hq | hq
    · rw [hq]
    · simp [hq]
    · split <;> simp [hq]
  exact (require_true h _ _).trans (require_true hc _ _)

theorem goodPool_iff (b : Block) (p : Pool) :
    goodPool b p = true ↔
      1 ≤ p.n ∧ p.n ≤ 32 ∧ p.base % 64 = 0 ∧ 0x1000 ≤ p.base ∧ p.stride % 64 = 0 ∧
      (∀ f, b.ftu.fmt = some f → f.active * (2 * f.width) ≤ p.stride) ∧
      p.base + p.n * p.stride ≤ b.regs.wlimit.toNat * 4096 := by
  have hline : (b.ftu.fmt.map fun f => f.active * (2 * f.width)).getD 0 ≤ p.stride ↔
      ∀ f, b.ftu.fmt = some f → f.active * (2 * f.width) ≤ p.stride := by
    cases b.ftu.fmt <;> simp
  unfold goodPool
  simp only [Bool.and_eq_true, inRange_iff, goodOffset_iff, beq_iff_eq, decide_eq_true_eq, hline, and_assoc]
  rfl

end Pool

/-- The answer of the taking check's read. -/
theorem takingCheck_read {s : State} {b : Block} {p : PlanRec} {acc : ReadAcc} {bs : List Byte} (hs : Settles s b)
    (h : b.ple.look = .check p acc) (ha : acc.addr ≠ none) (hpend : b.ple.lookPending = false) :
    ((∀ c, p.params ≠ .capture c) → u8 bs 0 = 0 →
      Runs (.takingCheckReadDone ⟨false, .data bs⟩) s { b with ple := { b.ple with
        look := .refuseOutcome p.offset p.notify (writeAt b (p.offset + 3) [1#8]) } }) ∧
    ((∀ c, p.params ≠ .capture c) → u8 bs 0 ≠ 0 → blocked b p = false → takingCheck b p.params = .pass →
      Runs (.takingCheckReadDone ⟨false, .data bs⟩) s { b with ple := { b.ple with
        look := .taken p (.timeout (u8 bs 0)) (writeAt b p.offset [2#8]) } }) ∧
    ((∀ c, p.params ≠ .capture c) → u8 bs 0 ≠ 0 → blocked b p = true →
      Runs (.takingCheckReadDone ⟨false, .data bs⟩) s { b with ple := { b.ple with look := .idle, lookStop := false } }) ∧
    (∀ o, (∀ c, p.params ≠ .capture c) → u8 bs 0 ≠ 0 → blocked b p = false → takingCheck b p.params = .refuse o →
      Runs (.takingCheckReadDone ⟨false, .data bs⟩) s { b with ple := { b.ple with
        look := .refuseOutcome p.offset p.notify (writeAt b (p.offset + 3) (leBytes 1 o.code)) } }) := by
  have hread := runs_takingCheckReadDone (.data bs) hs
  have hjudge : (∀ c, p.params ≠ .capture c) → u8 bs 0 ≠ 0 →
      checkResponse (.data bs) b = judge p (.timeout (u8 bs 0)) b := fun hp h0 =>
    (checkResponse_timeout h ha hp).trans (if_neg h0)
  refine ⟨fun hp h0 => ?_, fun hp h0 hb hc => ?_, fun hp h0 hb => ?_, fun o hp h0 hb hc => ?_⟩
  · exact hread.of_eq ((checkResponse_timeout h ha hp).trans (if_pos h0))
  · exact hread.of_eq ((hjudge hp h0).trans (judge_pass _ hb hp hc))
  · exact hread.of_eq ((hjudge hp h0).trans ((judge_blocked _ hb).trans (endLook_quiet hpend)))
  · exact hread.of_eq ((hjudge hp h0).trans (judge_refuse _ hb hc))

/-- The answer of a CAPTURE plan's read of the pool. -/
theorem takingCheck_pool {s : State} {b : Block} {p : PlanRec} {acc : ReadAcc} {bs : List Byte} (hs : Settles s b)
    (h : b.ple.look = .check p acc) (ha : acc.addr ≠ none) (hpend : b.ple.lookPending = false) {c : CapParams}
    (hp : p.params = .capture c) :
    let pool : Pool := { n := u8 bs 8, base := u32 bs 0, stride := u32 bs 4 }
    (goodPool b pool = false →
      Runs (.takingCheckReadDone ⟨false, .data bs⟩) s { b with ple := { b.ple with
        look := .refuseOutcome p.offset p.notify (writeAt b (p.offset + 3) [13#8]) } }) ∧
    (goodPool b pool = true → (∃ q, b.fsu.pool = some q ∧ q ≠ pool) → b.fsu.p ≠ b.fsu.heldQ →
      Runs (.takingCheckReadDone ⟨false, .data bs⟩) s { b with ple := { b.ple with
        look := .refuseOutcome p.offset p.notify (writeAt b (p.offset + 3) [14#8]) } }) ∧
    (goodPool b pool = true → (b.fsu.pool = none ∨ b.fsu.pool = some pool ∨ b.fsu.p = b.fsu.heldQ) →
      (b.zoom.state.standing = false →
        Runs (.takingCheckReadDone ⟨false, .data bs⟩) s
          { b with ple := { b.ple with look := .idle, lookStop := false } }) ∧
      (b.zoom.state.standing = true →
        Runs (.takingCheckReadDone ⟨false, .data bs⟩) s { b with ple := { b.ple with
          look := .taken p (.pool pool) (writeAt b p.offset [2#8]) } })) := by
  intro pool
  have hact : ∀ {r : Check}, poolCheck b pool = r →
      Runs (.takingCheckReadDone ⟨false, .data bs⟩) s (actOn r p (.pool pool) b) := by
    rintro _ rfl
    exact (runs_takingCheckReadDone _ hs).of_eq (checkResponse_capture h ha hp)
  refine ⟨fun hg => hact (poolCheck_bad hg), fun hg hq hne => hact (poolCheck_busy hg hq hne),
    fun hg hq => ⟨fun hz => ?_, fun hz => ?_⟩⟩
  · exact (hact ((poolCheck_free hg hq).trans (if_neg (by simp [hz])))).of_eq (endLook_quiet hpend)
  · exact hact ((poolCheck_free hg hq).trans (if_pos hz))

/-- Settles O23: the reads, the two writes of a refusal, and the geometry of a pool. -/
theorem takingCheckAndRefusal : Obligations.TakingCheckAndRefusal := by
  refine ⟨fun s b p acc bs hs h ha hpend => ?_, fun s b x n acc hs ha => ⟨fun h => ?_, fun h hst => ?_⟩, goodPool_iff⟩
  · obtain ⟨hzero, hpass, hblocked, hrefuse⟩ := takingCheck_read (bs := bs) hs h ha hpend
    exact ⟨hzero, hpass, hblocked, hrefuse, fun c hp => takingCheck_pool hs h ha hpend hp⟩
  · exact (runs_refusalOutcomeWriteDone false hs).of_eq (refusalOutcomeResponse_ok h (WriteAcc.fault_ok ha))
  · refine (runs_refusalStateWriteDone false hs).of_eq ((refusalStateResponse_ok h (WriteAcc.fault_ok ha)).trans ?_)
    cases n
    · exact moveCursor_afterPlan hst x
    · refine (moveCursor_afterPlan ?_ x).trans rfl
      exact hst

/-! ### Takes (R14) -/

/-- A take, with the tracking that the plan's kind asks for. -/
theorem take_eq {p : PlanRec} {takeOver : Bool} (handOver : Block → Block) (b : Block)
    (h : movesFocus p.params = takeOver) :
    take p handOver b = moveCursor (.afterPlan p.offset) (handOver (retrack takeOver (enterTaken p b))) := by
  subst h
  rfl

/-- Settles O24: each command by the rule of its kind, the cursor by `moveCursor_afterPlan`. -/
theorem takeHandsOver : Obligations.TakeHandsOver := by
  refine ⟨fun s b p v m hs ht => ?_, fun b x => ⟨fun hst => moveCursor_afterPlan hst x,
    fun hst hp => moveCursor_stops hst hp _⟩⟩
  intro enter bm done
  refine ⟨fun q hp => ?_, fun hp => ?_, fun q hp => ?_, fun q hp => ?_, fun hp => ?_, fun z tr hp => ?_, fun t hp => ?_,
    fun q hp => ?_, fun q hp => ?_, fun q hp => ?_, fun q hp => ?_, fun hp => ?_⟩
  · exact (runs_takeStreamStart hs ht hp).of_eq (take_eq _ _ (congrArg movesFocus hp))
  · exact (runs_takeStreamStop hs ht hp).of_eq (take_eq _ _ (congrArg movesFocus hp))
  · exact (runs_takeExposure hs ht hp).of_eq (take_eq _ _ (congrArg movesFocus hp))
  · exact (runs_takeStabOn hs ht hp).of_eq (take_eq _ _ (congrArg movesFocus hp))
  · exact (runs_takeStabOff hs ht hp).of_eq (take_eq _ _ (congrArg movesFocus hp))
  · exact (runs_takeZoom m hs ht hp).of_eq (take_eq _ _ (congrArg movesFocus hp))
  · exact (runs_takeFocus m hs ht hp).of_eq (take_eq _ _ (congrArg movesFocus hp))
  · exact (runs_takeAfSearch m hs ht hp).of_eq (take_eq _ _ (congrArg movesFocus hp))
  · exact (runs_takeReference m hs ht hp).of_eq (take_eq _ _ (congrArg movesFocus hp))
  · exact (runs_takeCapture hs ht hp).of_eq (take_eq _ _ (congrArg movesFocus hp))
  · exact (runs_takeTables hs ht hp).of_eq (take_eq _ _ (congrArg movesFocus hp))
  · exact (runs_takeSync hs ht hp).of_eq (take_eq _ _ (congrArg movesFocus hp))

end Sys2Proof.Machine
end

section
/-!
The hand-overs: what the owner of each kind makes of a plan that is taken.
-/

namespace Sys2Proof.Machine

/-! ### STREAM start, EXPOSURE and STAB -/

/-- Settles O25: the hand-over is its own description. -/
theorem streamStartHandOver_holds : Obligations.StreamStartHandOver := fun _ _ _ => rfl

theorem modeChangeTarget_eq (b : Block) (m : ExpMode) :
    modeChangeTarget b m =
      if b.exu.prm.mode = .manual ∧ m ≠ .manual then (b.ftu.pipeline.getLast?.map (·.xApp)).getD b.exu.xTarget
      else b.exu.xTarget := by
  unfold modeChangeTarget
  cases b.ftu.pipeline.getLast? <;> rfl

theorem exposureTaken_eq (b : Block) (p : ExpParams) :
    exposureTaken p b =
      endPlan .exposure .done .ok (leInt 4 (modeChangeTarget b p.mode)) (List.replicate 24 0#8)
        { b with exu := { b.exu with xTarget := modeChangeTarget b p.mode, prm := p, settled := false } } := rfl

theorem clamp_eq_self {x : Int} {n : Nat} (h : x.natAbs ≤ n) : clamp x (-(n : Int)) n = x := by
  simp only [clamp]
  omega

theorem clamp_ne_self {x : Int} {n : Nat} (h : n < x.natAbs) : clamp x (-(n : Int)) n ≠ x := by
  simp only [clamp]
  omega

/-- A pair within the range stands; one outside is cut and sent. -/
theorem cutPair_inside {n : Nat} {s : Sbu} (hp : s.pitch.s.natAbs ≤ n) (hy : s.yaw.s.natAbs ≤ n) : cutPair n s = s :=
  if_pos ⟨clamp_eq_self hp, clamp_eq_self hy⟩

theorem cutPair_outside {n : Nat} {s : Sbu} (h : n < s.pitch.s.natAbs ∨ n < s.yaw.s.natAbs) :
    cutPair n s = sendPair (clamp s.pitch.s (-(n : Int)) n) (clamp s.yaw.s (-(n : Int)) n) s :=
  if_neg fun hc => h.elim (fun hp => clamp_ne_self hp hc.1) fun hy => clamp_ne_self hy hc.2

/-- The pair 0, 0 leaves the peaks. -/
theorem sendPair_zero (s : Sbu) :
    sendPair 0 0 s = { s with pitch := { s.pitch with s := 0 }, yaw := { s.yaw with s := 0 } } := by
  have hw : (s.windows.map fun w => { w with peak := max w.peak (max (0 : Int).natAbs (0 : Int).natAbs) }) = s.windows := by
    simp
  simp only [sendPair, hw]

/-- A condition that becomes false is cleared, and nothing else. -/
theorem setCond_false (c : Cond) (b : Block) : setCond c false b = { b with ntu := putCond c false b.ntu } := rfl

theorem stabOnHandOver_off {b : Block} (h : b.sbu.base = .off) (p : StabParams) (n : Nat) :
    stabOnHandOver p n b =
      stabReport { b with sbu := { clearRots { b.sbu with prm := p, gyroTimeout := some n } with
        base := .centering, centering := 0, lastSeq := none, gyroTimer := some n } } := by
  simp only [stabOnHandOver, stabOnState, setSbu, h]

theorem stabOnHandOver_kept_state {b : Block} (h : b.sbu.base = .centering ∨ b.sbu.base = .gyroLost) (p : StabParams)
    (n : Nat) :
    stabOnHandOver p n b = stabReport { b with sbu := { b.sbu with prm := p, gyroTimeout := some n } } := by
  rcases h with h | h <;> simp only [stabOnHandOver, stabOnState, setSbu, h]

theorem stabOnHandOver_active {b : Block} (h : b.sbu.base = .active) (p : StabParams) (n : Nat) :
    stabOnHandOver p n b =
      stabReport { b with sbu := cutPair p.range { b.sbu with prm := p, gyroTimeout := some n } } := by
  simp only [stabOnHandOver, stabOnState, setSbu, h]

theorem stabOffHandOver_eq (b : Block) :
    stabOffHandOver b =
      stabReport { b with
        ntu := { b.ntu with gyroLost := false }
        sbu := { b.sbu with
          base := .off, gyroTimer := none, lastSeq := none, sample := none
          pitch := { b.sbu.pitch with a := 0, d := 0, pan := false, run := 0, hold := 0, s := 0 }
          yaw := { b.sbu.yaw with a := 0, d := 0, pan := false, run := 0, hold := 0, s := 0 } } } := by
  simp only [stabOffHandOver, setCond_false, setSbu, sendPair_zero]
  rfl

/-- Settles O27. -/
theorem exposureAndStabHandOver : Obligations.ExposureAndStabHandOver := by
  refine ⟨fun b p => ?_, fun b p n h => stabOnHandOver_off h p n, fun b p n h => ?_, fun b p n h hr => ?_,
    stabOffHandOver_eq, fun b => rfl⟩
  · intro x
    have hx : modeChangeTarget b p.mode = x := modeChangeTarget_eq b p.mode
    rw [exposureTaken_eq, hx]
  · rcases h with h | h | ⟨h, hp, hy⟩
    · exact stabOnHandOver_kept_state (.inl h) p n
    · exact stabOnHandOver_kept_state (.inr h) p n
    · rw [stabOnHandOver_active h, cutPair_inside]
      · exact hp
      · exact hy
  · intro cut
    rw [stabOnHandOver_active h, cutPair_outside]
    · rfl
    · exact hr

/-! ### AF_SEARCH and CAPTURE -/

/-- The capture lock is set where the plan asks for it. -/
theorem captureHandOver_eq (tag : Word) (p : CapParams) (pool : Pool) (b : Block) :
    let armed : Block :=
      { b with
        cap := { Cap.reset with state := .armed, prm := some p }
        fsu := { b.fsu with pool := some pool, tag := tag, flip := p.flip, notify := p.notify }
        exu := { b.exu with lock := p.aeLock || b.exu.lock } }
    captureHandOver tag p pool b = if p.caf then cafStart p armed else armed := by
  unfold captureHandOver
  cases p.aeLock <;> rfl

/-- Settles O29. -/
theorem searchAndCaptureHandOver : Obligations.SearchAndCaptureHandOver := by
  refine ⟨fun b p => rfl, fun b tag p pool => ⟨fun h => ?_, fun h => ?_⟩⟩
  · rw [captureHandOver_eq, h]
    rfl
  · rw [captureHandOver_eq, h]
    rfl

/-! ### TABLES, SYNC and REFERENCE -/

theorem RawRefSet.check_good {r : RawRefSet}
    (h : r.direction ≤ 1 ∧ r.edge ≤ 1 ∧ 1 ≤ r.duty ∧ r.duty ≤ 255 ∧ 1 ≤ r.travel ∧ r.travel ≤ 65535) :
    r.check = some
      { positive := decide (r.direction = 1), rising := decide (r.edge = 0), duty := r.duty, travel := r.travel,
        offset := r.offset } := by
  unfold RawRefSet.check
  rw [if_pos]
  · simp only [beq_eq_decide]
  · simpa only [Bool.and_eq_true, isFlag_iff, inRange_iff, and_assoc] using h

theorem searchStarted_spec (a : AxisUnit) (set : RefSet) :
    let away := decide (a.refLevel = some set.rising)
    (searchStarted a set).referenced = false ∧ (searchStarted a set).state = .referencing ∧
    (searchStarted a set).output = .drive set.duty (if away then !set.positive else set.positive) ∧
    (searchStarted a set).counter = a.counter ∧
    (searchStarted a set).search = some { leaving := away, set := set, lastCounter := a.counter, still := 0 } := by
  simp only [searchStarted, beq_eq_decide, and_self]

/-- The plan of a REFERENCE that starts. -/
def freshRef (p : RefParams) : RefPlan :=
  { prm := p, stage := .zoom, zoomTravel := 0, focusTravel := 0, zoomEdge := none, focusEdge := none }

theorem referenceHandOver_supplyLow {b : Block} (p : RefParams) (h : supplyIsLow b .zoom = true) :
    referenceHandOver p b =
      endPlan .reference .failed .supplyLow (leInt 4 (position b.zoom))
        (referenceArea (position b.focus) b.zoom.counter b.focus.counter 0 0)
        { b with ntu := setFlag .lensFault b.ntu, ldu := { b.ldu with refPlan := none } } := by
  have h' : supplyIsLow (setRef (some (freshRef p)) b) .zoom = true := h
  unfold referenceHandOver startSearch
  exact if_pos h'

theorem referenceHandOver_started {b : Block} (p : RefParams) (h : supplyIsLow b .zoom = false) :
    referenceHandOver p b =
      referenceChanged .zoom
        { b with zoom := searchStarted b.zoom (refSetOf b .zoom p), ldu := { b.ldu with refPlan := some (freshRef p) } } := by
  have h' : ¬supplyIsLow (setRef (some (freshRef p)) b) .zoom = true := fun hc =>
    Bool.false_ne_true (h.symm.trans hc)
  unfold referenceHandOver startSearch
  exact if_neg h'

/-- Settles O30. -/
theorem tablesSyncReferenceHandOver : Obligations.TablesSyncReferenceHandOver := by
  refine ⟨fun b p => ⟨rfl, rfl⟩, fun b p => ⟨referenceHandOver_supplyLow p, fun h => ?_, fun ax => ?_,
    searchStarted_spec⟩⟩
  · have hkeep := fun b : Block => referenceChanged_frame .zoom (Among.refl _) (Changes.refl _ b)
    rw [referenceHandOver_started p h]
    exact ⟨hkeep _ .zoom (by decide), congrArg Ldu.refPlan (hkeep _ .ldu (by decide)), hkeep _ .ple (by decide),
      hkeep _ .ntu (by decide)⟩
  · intro raw h1 h2 h3 h4 h5 h6
    have hraw : (((blockOf b ax).map (·.ref)).getD (match ax with | .zoom => p.zoom | .focus => p.focus)) = raw := by
      unfold blockOf
      cases ht : b.zmap.tables <;> cases ax <;> simp [raw, ht]
    have hset : refSetOf b ax p = raw.check.getD { positive := false, rising := true, duty := 0, travel := 0, offset := 0 } :=
      congrArg (fun r : RawRefSet => r.check.getD _) hraw
    rw [hset, RawRefSet.check_good ⟨h1, h2, h3, h4, h5, h6⟩]
    rfl

end Sys2Proof.Machine
end

section
/-!
Moves: what a move start does, ZOOM and FOCUS hand-overs, tracking.
-/

namespace Sys2Proof.Machine

/-! ### Move starts (R77) -/

theorem putAxis_ple (ax : Axis) (a : AxisUnit) (b : Block) : (putAxis ax a b).ple = b.ple :=
  putAxis_frame ax a (Among.refl _) (Changes.refl _ b) .ple (by decide)

theorem putAxis_zmap (ax : Axis) (a : AxisUnit) (b : Block) : (putAxis ax a b).zmap = b.zmap :=
  putAxis_frame ax a (Among.refl _) (Changes.refl _ b) .zmap (by decide)

theorem putAxis_focus_zoom (a : AxisUnit) (b : Block) : (putAxis .focus a b).zoom = b.zoom := by
  unfold putAxis
  split <;> rfl

/-- The focus axis in a state other than IDLE: the candidates are spoiled where it leaves IDLE. -/
theorem putAxis_focus_afu {a : AxisUnit} (h : a.state ≠ .idle) (b : Block) :
    (putAxis .focus a b).afu =
      { b.afu with candidates :=
          if b.focus.state = .idle then b.afu.candidates.map (fun c => { c with still := false })
          else b.afu.candidates } := by
  by_cases hb : b.focus.state = .idle
  · rw [putAxis_focus_leaves hb h, if_pos hb]
    rfl
  · rw [putAxis_focus (.inl hb), if_neg hb]

/-- Braking the focus axis, which is not in IDLE while it runs a move. -/
theorem brake_focus {b : Block} (h : b.focus.state ≠ .idle) (faulted : Bool) :
    brake .focus faulted b = { b with focus := braked b .focus faulted } := putAxis_focus (.inl h)

theorem trackingMove_iff (b : Block) : trackingMove b = true ↔ ∃ m, b.focus.move = some m ∧ m.giver = .tracking := by
  unfold trackingMove
  cases b.focus.move <;> simp

theorem stopTracking_other {b : Block} (h : ∀ m, b.focus.move = some m → m.giver ≠ .tracking) : stopTracking b = b := by
  unfold stopTracking
  rw [if_neg]
  rw [trackingMove_iff]
  rintro ⟨m, hm, hg⟩
  exact h m hm hg

theorem stopTracking_running {b : Block} {m : Move} (h : b.focus.move = some m) (hg : m.giver = .tracking)
    (hs : b.focus.state ≠ .idle) : stopTracking b = { b with focus := braked b .focus false } := by
  unfold stopTracking
  rw [if_pos ((trackingMove_iff b).2 ⟨m, h, hg⟩), brake_focus hs]

/-! ### ZOOM and FOCUS plans (R86, R87) -/

theorem zoomHandOver_started {b h : Block} {z : Int} {tr : Bool}
    (hm : startMove .zoom .zoomPlan z (retrack false { b with zmap := { b.zmap with trackEnabled := tr } }) = (h, none)) :
    zoomHandOver z tr b = h := by
  unfold zoomHandOver
  dsimp only
  rw [hm]

theorem zoomHandOver_refused {b h : Block} {z : Int} {tr : Bool} {o : PlanOutcome}
    (hm : startMove .zoom .zoomPlan z (retrack false { b with zmap := { b.zmap with trackEnabled := tr } }) = (h, some o)) :
    zoomHandOver z tr b =
      endPlan .zoom .failed o (leInt 4 (position h.zoom))
        (moveArea (max h.zmap.zoomLim.lo (min z h.zmap.zoomLim.hi)) o 0 0) h := by
  unfold zoomHandOver
  dsimp only
  rw [hm]
  rfl

theorem focusHandOver_started {b h : Block} {t : FocusTarget}
    (hm : startMove .focus (.focusPlan t) (focusTarget b t) b = (h, none)) : focusHandOver t b = h := by
  unfold focusHandOver
  dsimp only
  rw [hm]

/-- A refused move of a FOCUS plan: a tracking move is braked, and the plan ends. -/
theorem focusHandOver_refused {b h : Block} {t : FocusTarget} {o : PlanOutcome}
    (hm : startMove .focus (.focusPlan t) (focusTarget b t) b = (h, some o)) :
    focusHandOver t b =
      focusReport .failed o o (clamped h .focus (focusTarget b t)) 0 (stopTracking h) := by
  unfold focusHandOver
  dsimp only
  rw [hm]

/-! ### Tracking (R105 to R107) -/

theorem trackWanted_iff (b : Block) :
    trackWanted b = true ↔
      b.zmap.trackEnabled = true ∧ b.zoom.referenced = true ∧ b.focus.referenced = true ∧ classBusy b .focus = false := by
  simp only [trackWanted, Bool.and_eq_true, Bool.not_eq_true', and_assoc]

section Retrack
variable {b : Block}

theorem retrack_stays_active (h : trackWanted b = true) (ha : b.zmap.trackActive = true) (takeOver : Bool) :
    retrack takeOver b = b := by
  unfold retrack
  rw [if_pos h, if_pos ha]

theorem retrack_begins (h : trackWanted b = true) (ha : b.zmap.trackActive = false) (takeOver : Bool) :
    retrack takeOver b = { b with zmap := { b.zmap with trackActive := true, zLast := position b.zoom } } := by
  unfold retrack
  rw [if_pos h, if_neg (by simp [ha])]

theorem retrack_stays_inactive (h : ¬trackWanted b = true) (ha : b.zmap.trackActive = false) (takeOver : Bool) :
    retrack takeOver b = b := by
  unfold retrack
  rw [if_neg h, if_neg (by simp [ha])]

theorem retrack_ends (h : ¬trackWanted b = true) (ha : b.zmap.trackActive = true) (takeOver : Bool) :
    retrack takeOver b =
      if takeOver then { b with zmap := { b.zmap with trackActive := false } }
      else stopTracking { b with zmap := { b.zmap with trackActive := false } } := by
  unfold retrack
  rw [if_neg h, if_pos ha]

end Retrack

theorem trackTarget_reached {b : Block}
    (h : focusAtFraction b (position b.zoom) b.zmap.u = b.focus.target) :
    trackTarget b = { b with zmap := { b.zmap with zLast := position b.zoom } } := if_pos h

theorem trackTarget_moves {b : Block}
    (h : focusAtFraction b (position b.zoom) b.zmap.u ≠ b.focus.target) :
    trackTarget b =
      let r := startMove .focus .tracking (focusAtFraction b (position b.zoom) b.zmap.u)
        { b with zmap := { b.zmap with zLast := position b.zoom } }
      if r.2.isNone then r.1 else trackFailed r.1 := if_neg h

/-- The target that the soft limits have clamped. -/
theorem updateFocusLimits_eq (b : Block) :
    updateFocusLimits b =
      { b with
        zmap := { b.zmap with focusLim := focusLimits b }
        focus := { b.focus with
          target := max (focusLimits b).lo (min b.focus.target (focusLimits b).hi) } } := rfl

/-- The start of a move, by the checks in order. -/
theorem moveStart_cases (b : Block) (ax : Axis) (g : Giver) (target : Int) :
    ((axisOf b ax).referenced = false → startMove ax g target b = (b, some .notReferenced)) ∧
    ((axisOf b ax).referenced = true → supplyIsLow b ax = true →
      startMove ax g target b = ({ b with ntu := setFlag .lensFault b.ntu }, some .supplyLow)) ∧
    ((axisOf b ax).referenced = true → supplyIsLow b ax = false →
      (startMove ax g target b).2 = none ∧
      axisOf (startMove ax g target b).1 ax = startedAxis b ax g target ∧
      (ax = .zoom → (startMove ax g target b).1.focus = b.focus ∧ (startMove ax g target b).1.afu = b.afu) ∧
      (ax = .focus →
        (startMove ax g target b).1.zoom = b.zoom ∧
        (startMove ax g target b).1.afu =
          { b.afu with candidates :=
              if b.focus.state = .idle then b.afu.candidates.map (fun c => { c with still := false })
              else b.afu.candidates }) ∧
      (startMove ax g target b).1.ple = b.ple ∧ (startMove ax g target b).1.zmap = b.zmap ∧
      (startMove ax g target b).1.ntu = b.ntu) := by
  refine ⟨fun h => startMove_not_referenced h g target, fun h hs => startMove_supply_low h hs g target, fun h hs => ?_⟩
  rw [startMove_started h hs]
  refine ⟨rfl, axisOf_putAxis _ _ _, ?_, ?_, putAxis_ple _ _ _, putAxis_zmap _ _ _, putAxis_ntu _ _ _⟩
  · rintro rfl
    exact ⟨rfl, rfl⟩
  · rintro rfl
    exact ⟨putAxis_focus_zoom _ _, putAxis_focus_afu (by simp [startedAxis]) b⟩

/-- The ZOOM and FOCUS hand-overs of the statement. -/
theorem lensHandOver_cases (b : Block) (z : Int) (tr : Bool) (f : Int) (u : Nat) :
    let bz := retrack false { b with zmap := { b.zmap with trackEnabled := tr } }
    (∀ h : Block, startMove .zoom .zoomPlan z bz = (h, none) → zoomHandOver z tr b = h) ∧
    (∀ (h : Block) (o : PlanOutcome), startMove .zoom .zoomPlan z bz = (h, some o) →
      zoomHandOver z tr b =
        endPlan .zoom .failed o (leInt 4 (position h.zoom))
          (moveArea (max h.zmap.zoomLim.lo (min z h.zmap.zoomLim.hi)) o 0 0) h) ∧
    (∀ h : Block, startMove .focus (.focusPlan (.position f)) f b = (h, none) → focusHandOver (.position f) b = h) ∧
    (∀ h : Block, startMove .focus (.focusPlan (.distance u)) (focusAtFraction b (position b.zoom) u) b = (h, none) →
      focusHandOver (.distance u) b = h) ∧
    (∀ (h : Block) (o : PlanOutcome) (d : FocusTarget) (x : Int),
      (d = .position f ∧ x = f ∨ d = .distance u ∧ x = focusAtFraction b (position b.zoom) u) →
      startMove .focus (.focusPlan d) x b = (h, some o) →
      let failed := fun h' : Block =>
        endPlan .focus .failed o (leInt 4 (position h.focus))
          (moveArea (max h.zmap.focusLim.lo (min x h.zmap.focusLim.hi)) o 0 h.zmap.u) h'
      ((∀ m, h.focus.move = some m → m.giver ≠ .tracking) → focusHandOver d b = failed h) ∧
      (∀ m, h.focus.move = some m → m.giver = .tracking → h.focus.state ≠ .idle →
        focusHandOver d b = failed { h with focus := braked h .focus false })) := by
  refine ⟨fun h hm => zoomHandOver_started hm, fun h o hm => zoomHandOver_refused hm,
    fun h hm => focusHandOver_started hm, fun h hm => focusHandOver_started hm, fun h o d x hd hm => ?_⟩
  intro failed
  have hx : x = focusTarget b d := by
    rcases hd with ⟨rfl, rfl⟩ | ⟨rfl, rfl⟩ <;> rfl
  subst hx
  rw [focusHandOver_refused hm]
  refine ⟨fun hno => ?_, fun m hmove hg hs => ?_⟩
  · rw [stopTracking_other hno]
    rfl
  · rw [stopTracking_running hmove hg hs]
    rfl

/-- Tracking as the statement puts it. -/
theorem retrack_cases (b : Block) (takeOver : Bool) :
    let wanted := b.zmap.trackEnabled = true ∧ b.zoom.referenced = true ∧ b.focus.referenced = true ∧
      classBusy b .focus = false
    let off : Block := { b with zmap := { b.zmap with trackActive := false } }
    (wanted → b.zmap.trackActive = true → retrack takeOver b = b) ∧
    (wanted → b.zmap.trackActive = false →
      retrack takeOver b = { b with zmap := { b.zmap with trackActive := true, zLast := position b.zoom } }) ∧
    (¬wanted → b.zmap.trackActive = false → retrack takeOver b = b) ∧
    (¬wanted → b.zmap.trackActive = true → retrack true b = off ∧
      ((∀ m, b.focus.move = some m → m.giver ≠ .tracking) → retrack false b = off) ∧
      (∀ m, b.focus.move = some m → m.giver = .tracking → b.focus.state ≠ .idle →
        retrack false b = { off with focus := braked b .focus false })) := by
  intro wanted off
  have hw : trackWanted b = true ↔ wanted := trackWanted_iff b
  refine ⟨fun h ha => retrack_stays_active (hw.2 h) ha _, fun h ha => retrack_begins (hw.2 h) ha _,
    fun h ha => retrack_stays_inactive (hw.not.2 h) ha _,
    fun h ha => ⟨retrack_ends (hw.not.2 h) ha true, fun hno => ?_, fun m hm hg hs => ?_⟩⟩
  · rw [retrack_ends (hw.not.2 h) ha false]
    exact stopTracking_other (b := off) hno
  · rw [retrack_ends (hw.not.2 h) ha false]
    exact stopTracking_running (b := off) hm hg hs

/-- A zoom motion and the tracking target as the statement puts them. -/
theorem zoomMoved_cases (b : Block) :
    let z := position b.zoom
    let step := ((blockOf b .focus).map (·.trackStep)).getD 0
    let b1 := updateFocusLimits b
    (b.zmap.trackActive = false ∨ (z - b.zmap.zLast).natAbs < step → zoomMoved b = b1) ∧
    (b.zmap.trackActive = true → step ≤ (z - b.zmap.zLast).natAbs → zoomMoved b = trackTarget b1) ∧
    let target := focusAtFraction b z b.zmap.u
    let b2 : Block := { b with zmap := { b.zmap with zLast := z } }
    (target = b.focus.target → trackTarget b = b2) ∧
    (target ≠ b.focus.target →
      (∀ h, startMove .focus .tracking target b2 = (h, none) → trackTarget b = h) ∧
      ∀ h o, startMove .focus .tracking target b2 = (h, some o) →
        trackTarget b = retrack false { h with zmap := { h.zmap with trackEnabled := false } }) := by
  intro z step b1
  have hcond : zoomMoved b =
      if b.zmap.trackActive && decide (step ≤ (z - b.zmap.zLast).natAbs) then trackTarget b1 else b1 := rfl
  refine ⟨fun h => ?_, fun ha hs => ?_, fun h => trackTarget_reached h, fun h => ⟨fun b' hm => ?_, fun b' o hm => ?_⟩⟩
  · rw [hcond, if_neg]
    rcases h with h | h
    · simp [h]
    · simpa using fun _ => h
  · rw [hcond, if_pos]
    simpa using ⟨ha, hs⟩
  · rw [trackTarget_moves h]
    dsimp only
    rw [hm]
    rfl
  · rw [trackTarget_moves h]
    dsimp only
    rw [hm]
    rfl

/-- Settles O28. -/
theorem moveStart : Obligations.MoveStart :=
  ⟨moveStart_cases, lensHandOver_cases, retrack_cases, zoomMoved_cases⟩

end Sys2Proof.Machine
end

section
/-!
Plan endings and the status mirror.
-/

namespace Sys2Proof.Machine

/-! ### Endings begin (R17) -/

theorem endPlan_results {b : Block} {k : PlanKind} {t : Taken} {e : EndingProg} (h : takenOf b k = some t)
    (he : t.ending = .results e) (fin : FinalState) (o : PlanOutcome) (word area : List Byte) :
    endPlan k fin o word area b = b := by
  unfold endPlan
  rw [h]
  simp [he]

/-- Settles O31. -/
theorem planEndingBegins : Obligations.PlanEndingBegins := by
  refine ⟨fun b k t fin o word area => ?_, fun b => ⟨requestMirror_busy, fun h => ?_⟩⟩
  · intro prog begun
    exact ⟨fun h => endPlan_not_taken h _ _ _ _, fun h he => endPlan_running h he _ _ _ _,
      fun h he => endPlan_cancelling h he _ _ _ _, fun e h he => endPlan_results h he _ _ _ _⟩
  · rw [requestMirror_free h]
    exact markDue_new (mirrorBusy_eq_false h).2

/-! ### The steps of an ending (R17, R18) -/

section Advance
variable {b : Block} {t : Taken} {e : EndingProg}

/-- While a result write, or the failure outcome's write, is not answered, the ending waits. -/
theorem advanceEnding_waits (h : e.outstanding ≠ []) : advanceEnding b t e = .results e := if_neg h

theorem advanceEnding_failWrite {acc : WriteAcc} (h : e.failWrite = .outstanding acc) :
    advanceEnding b t e = .results e := by
  unfold advanceEnding
  rw [h]
  split
  · cases e.failed <;> rfl
  · rfl

/-- After the result writes, the outcome of a failed one is written. -/
theorem advanceEnding_failed {c : FaultCode} (h : e.outstanding = []) (hf : e.failed = some c)
    (hw : e.failWrite = .notIssued) :
    advanceEnding b t e = .results { e with
      failWrite := .outstanding (writeAt b (t.offset + 3) [if c = .window then 16#8 else 15#8]) } := by
  have hcode : leBytes 1 (failOutcome c).code = [if c = .window then 16#8 else 15#8] := by
    cases c <;> rfl
  unfold advanceEnding
  rw [if_pos h, hf, hw]
  dsimp only
  rw [hcode]
  rfl

/-- With every write answered, the ending waits for its mirror tails, then writes the final state. -/
theorem advanceEnding_answered (h : e.outstanding = [])
    (hw : e.failed = none ∧ e.failWrite = .notIssued ∨ e.failWrite = .answered) :
    advanceEnding b t e =
      if e.tails = 0 then
        .finalWrite (writeAt b t.offset (leBytes 1 (if e.failed.isSome then FinalState.failed else e.fin).code))
      else .results e := by
  unfold advanceEnding
  rw [if_pos h]
  rcases hw with ⟨hf, hw⟩ | hw
  · rw [hf, hw]
  · rw [hw]
    cases e.failed <;> rfl

end Advance

/-- A memory fault of an access, written out. -/
theorem memoryFault?_some (c : FaultCode) (o : Nat) (b : Block) :
    memoryFault? (some c) o b =
      { b with regs := { b.regs with fault := latchIn c o b.regs.fault }, ntu := setFlag .windowFault b.ntu } := rfl

theorem resultWritten_eq {b : Block} {t : Taken} {e : EndingProg} {w : ResultWrite} {acc : WriteAcc}
    (ht : takenOf b t.kind = some t) (he : t.ending = .results e)
    (hw : e.outstanding.find? (fun x => x.1 == w) = some (w, acc)) (err : Bool) :
    resultWritten t.kind w err b =
      setEnding t.kind
        (advanceEnding b t { e with
          outstanding := e.outstanding.filter (fun x => x.1 != w), failed := e.failed <|> acc.fault err })
        (memoryFault? (acc.fault err) acc.offset b) := by
  unfold resultWritten
  rw [ht]
  dsimp only
  rw [he]
  dsimp only
  rw [hw]

theorem failOutcomeWritten_eq {b : Block} {t : Taken} {e : EndingProg} {acc : WriteAcc}
    (ht : takenOf b t.kind = some t) (he : t.ending = .results e) (hw : e.failWrite = .outstanding acc) (err : Bool) :
    failOutcomeWritten t.kind err b =
      setEnding t.kind (advanceEnding b t { e with failWrite := .answered })
        (memoryFault? (acc.fault err) acc.offset b) := by
  unfold failOutcomeWritten
  rw [ht]
  dsimp only
  rw [he]
  dsimp only
  rw [hw]

/-- Settles O32: the step of the ending by `advanceEnding`, the fault by whether the access had one. -/
theorem endingResultsWritten : Obligations.EndingResultsWritten := by
  intro s b t e w acc err hs ht he f now
  have hnow : ∀ g, setEnding t.kind g (memoryFault? (acc.fault err) acc.offset b) = now g := by
    intro g
    simp only [now, f]
    cases acc.fault err <;> rfl
  refine ⟨fun hw hni => ?_, fun ho hf hw => ?_⟩
  · intro left failed
    have hrun : ∀ {g}, advanceEnding b t { e with outstanding := left, failed := failed } = g →
        Runs (.endingResultsWriteDone t.kind w ⟨false, err⟩) s (now g) := by
      rintro g rfl
      exact (runs_endingResultsWriteDone t.kind w err hs).of_eq ((resultWritten_eq ht he hw err).trans (hnow _))
    refine ⟨fun hl => hrun (advanceEnding_waits hl), fun hl hok htails => hrun ?_, fun hl hok htails => hrun ?_,
      fun c hl hc => hrun ?_⟩
    · have hef : e.failed = none := (Option.orElse_eq_none _ _ |>.1 hok).1
      refine (advanceEnding_answered (e := { e with outstanding := left, failed := failed }) hl (.inl ⟨hok, hni⟩)).trans ?_
      rw [if_neg htails, hl, hok, ← hef]
    · refine (advanceEnding_answered (e := { e with outstanding := left, failed := failed }) hl (.inl ⟨hok, hni⟩)).trans ?_
      rw [if_pos htails, hok]
      rfl
    · refine (advanceEnding_failed (e := { e with outstanding := left, failed := failed }) hl hc hni).trans ?_
      rw [hl, hc]
  · have hrun : ∀ {g}, advanceEnding b t { e with failWrite := .answered } = g →
        Runs (.endingFailureOutcomeWriteDone t.kind ⟨false, err⟩) s (now g) := by
      rintro g rfl
      exact (runs_endingFailureOutcomeWriteDone t.kind err hs).of_eq ((failOutcomeWritten_eq ht he hw err).trans (hnow _))
    refine ⟨fun htails => hrun ?_, fun htails => hrun ?_⟩
    · obtain ⟨c, hc⟩ := Option.ne_none_iff_exists'.1 hf
      refine (advanceEnding_answered (e := { e with failWrite := .answered }) ho (.inr rfl)).trans ?_
      rw [if_pos htails, hc]
      rfl
    · exact (advanceEnding_answered (e := { e with failWrite := .answered }) ho (.inr rfl)).trans (if_neg htails)

/-! ### The end of an ending (R17, Table 52) -/

theorem requestLook_taken (b : Block) :
    (requestLook b).ple.taken = b.ple.taken ∧ (requestLook b).ple.cursor = b.ple.cursor := by
  unfold requestLook markDue
  repeat' split
  all_goals exact ⟨rfl, rfl⟩

/-- A request while RUN is set: a look is due, or one waits. -/
theorem requestLook_asks {b : Block} (h : b.regs.run = true) :
    .lookStart ∈ (requestLook b).due ∨ (requestLook b).ple.lookPending = true := by
  cases hb : lookBusy b with
  | true => exact .inr (congrArg (fun c : Block => c.ple.lookPending) (requestLook_busy h hb))
  | false =>
    rw [requestLook_free h hb, markDue_new (lookBusy_eq_false hb).2]
    exact .inl (List.mem_append_right _ (List.mem_singleton_self _))

/-- The block of an ending before tracking, the stop and the look follow. -/
def entryLeft (t : Taken) (b : Block) : Block :=
  { b with
    ple := { b.ple with taken := b.ple.taken.filter fun x => x.kind != t.kind }
    ntu := if t.notify then setFlag .planEnd b.ntu else b.ntu
    cap := if t.kind = .capture then { b.cap with state := .none } else b.cap }

theorem freePlan_eq (t : Taken) (b : Block) :
    freePlan t b = requestLook (stopIfFree (retrack false (entryLeft t b))) := by
  unfold freePlan entryLeft
  cases t.notify <;> by_cases hk : t.kind = .capture <;> simp only [hk, if_true, if_false] <;> rfl

/-- What an ending leaves: the look, the stop's completion and tracking apart, the block is `entryLeft`. -/
theorem freePlan_changes (t : Taken) (b : Block) :
    Changes [.ple, .focus, .zmap, .afu, .due] (entryLeft t b) (freePlan t b) := by
  rw [freePlan_eq]
  exact requestLook_frame (by simp [Among]) (stopIfFree_frame (by simp [Among])
    (retrack_frame false (by simp [Among]) (Changes.refl _ _)))

theorem freePlan_ple (t : Taken) (b : Block) :
    (freePlan t b).ple.taken = b.ple.taken.filter (fun x => x.kind != t.kind) ∧
    (freePlan t b).ple.cursor = b.ple.cursor := by
  have hple : (stopIfFree (retrack false (entryLeft t b))).ple = (entryLeft t b).ple :=
    stopIfFree_frame (fs := [.focus, .zmap, .afu, .due]) (by simp [Among])
      (retrack_frame false (by simp [Among]) (Changes.refl _ _)) .ple (by decide)
  obtain ⟨htaken, hcursor⟩ := requestLook_taken (stopIfFree (retrack false (entryLeft t b)))
  rw [freePlan_eq]
  exact ⟨htaken.trans ((congrArg Ple.taken hple).trans rfl), hcursor.trans ((congrArg Ple.cursor hple).trans rfl)⟩

theorem freePlan_asks {t : Taken} {b : Block} (h : b.regs.run = true) :
    .lookStart ∈ (freePlan t b).due ∨ (freePlan t b).ple.lookPending = true := by
  have hregs : (stopIfFree (retrack false (entryLeft t b))).regs = (entryLeft t b).regs :=
    stopIfFree_frame (fs := [.focus, .zmap, .afu, .due]) (by simp [Among])
      (retrack_frame false (by simp [Among]) (Changes.refl _ _)) .regs (by decide)
  rw [freePlan_eq]
  exact requestLook_asks ((congrArg Regs.run hregs).trans h)

theorem finalWritten_eq {b : Block} {t : Taken} {acc : WriteAcc} (ht : takenOf b t.kind = some t)
    (he : t.ending = .finalWrite acc) (err : Bool) :
    finalWritten t.kind err b = freePlan t (memoryFault? (acc.fault err) acc.offset b) := by
  unfold finalWritten
  rw [ht]
  dsimp only
  rw [he]

/-- Settles O33: the fault of the write by its two cases, the rest by what `freePlan` keeps. -/
theorem finalStateFreesClasses : Obligations.FinalStateFreesClasses := by
  intro s b t acc err hs ht he fault
  refine ⟨_, (runs_finalStateWriteDone t.kind err hs).of_eq (finalWritten_eq ht he err), ?_⟩
  show _ ∧ _
  cases hf : acc.fault err with
  | none =>
    have hk := freePlan_changes t b
    refine ⟨(freePlan_ple t b).1, (freePlan_ple t b).2, ?_, ?_, freePlan_asks, hk .ftu (by decide), hk .stu (by decide),
      hk .exu (by decide), hk .zoom (by decide), hk .sbu (by decide), hk .cap (by decide), hk .fsu (by decide)⟩
    · simp only [fault, hf]
      exact hk .regs (by decide)
    · simp only [fault, hf]
      exact hk .ntu (by decide)
  | some c =>
    rw [memoryFault?_some]
    have hk := freePlan_changes t
      { b with regs := { b.regs with fault := latchIn c acc.offset b.regs.fault }, ntu := setFlag .windowFault b.ntu }
    refine ⟨(freePlan_ple t _).1, (freePlan_ple t _).2, ?_, ?_, fun hr => freePlan_asks ?_, hk .ftu (by decide),
      hk .stu (by decide), hk .exu (by decide), hk .zoom (by decide), hk .sbu (by decide), hk .cap (by decide),
      hk .fsu (by decide)⟩
    · simp only [fault, hf]
      exact hk .regs (by decide)
    · simp only [fault, hf]
      exact hk .ntu (by decide)
    · exact hr

/-! ### The status mirror (R3) -/

section Mirror
variable {b : Block} {acc : WriteAcc}

theorem mirrorHeadWritten_eq {body : List Byte} (h : b.ple.mirror = .head body acc) (err : Bool) :
    mirrorHeadWritten err b =
      { memoryFault? (acc.fault err) acc.offset b with
        ple := { b.ple with mirror := .body (writeAt b 0x044 (leWord b.fsu.p ++ body)) } } := by
  unfold mirrorHeadWritten
  rw [h]
  dsimp only
  cases acc.fault err <;> rfl

theorem mirrorBodyWritten_eq (h : b.ple.mirror = .body acc) (err : Bool) :
    mirrorBodyWritten err b =
      { memoryFault? (acc.fault err) acc.offset b with
        ple := { b.ple with mirror := .tail (writeAt b 0x0FC (leWord b.ple.mirrorCount)) }
        fsu := { b.fsu with pWrites := b.fsu.pWrites.map fun w =>
          if w.acc.isNone then { w with acc := some (writeAt b 0x044 (leWord b.fsu.p)) } else w } } := by
  unfold mirrorBodyWritten
  rw [h]
  dsimp only
  cases acc.fault err <;> rfl

theorem mirrorTailWritten_eq (h : b.ple.mirror = .tail acc) (err : Bool) :
    mirrorTailWritten err b =
      { memoryFault? (acc.fault err) acc.offset b with
        ple := { b.ple with
          mirror := .idle, rewritePending := false
          taken := b.ple.taken.map (countTail (memoryFault? (acc.fault err) acc.offset b)) }
        due := if b.ple.rewritePending = true ∧ .mirrorStart ∉ b.due then b.due ++ [.mirrorStart] else b.due } := by
  unfold mirrorTailWritten
  rw [h]
  dsimp only
  cases acc.fault err <;> cases hp : b.ple.rewritePending <;> by_cases hd : DueStep.mirrorStart ∈ b.due <;>
    simp [memoryFault?, memoryFault, raise, latchFault, setPle, markDue, hp, hd]

end Mirror

section CountTail
variable {b : Block} {t : Taken} {e : EndingProg}

theorem countTail_other (h : ∀ e, t.ending ≠ .results e) : countTail b t = t := by
  unfold countTail
  split
  · exact absurd ‹_› (h _)
  · rfl

theorem countTail_results (h : t.ending = .results e) :
    countTail b t = { t with ending := advanceEnding b t { e with tails := e.tails - 1 } } := by
  unfold countTail
  rw [h]

end CountTail

/-- An ending counts a tail, as the statement puts it. -/
theorem countTail_cases (b : Block) (t : Taken) (e : EndingProg) (h : t.ending = .results e) :
    let counted : EndingProg := { e with tails := e.tails - 1 }
    (e.outstanding ≠ [] ∨ (∃ a, e.failWrite = .outstanding a) → countTail b t = { t with ending := .results counted }) ∧
    (∀ c, e.outstanding = [] → e.failed = some c → e.failWrite = .notIssued →
      countTail b t = { t with ending := .results { counted with
        failWrite := .outstanding (writeAt b (t.offset + 3) [if c = .window then 16#8 else 15#8]) } }) ∧
    (e.outstanding = [] → (e.failed = none ∧ e.failWrite = .notIssued ∨ e.failWrite = .answered) →
      (1 < e.tails → countTail b t = { t with ending := .results counted }) ∧
      (e.tails ≤ 1 →
        let state := if e.failed = none then e.fin.code else 4
        countTail b t = { t with ending := .finalWrite (writeAt b t.offset (leBytes 1 state)) })) := by
  intro counted
  have hcount : ∀ {g}, advanceEnding b t counted = g → countTail b t = { t with ending := g } := by
    rintro g rfl
    exact countTail_results h
  refine ⟨fun hw => hcount ?_, fun c ho hf hw => hcount (advanceEnding_failed ho hf hw),
    fun ho hw => ⟨fun ht => hcount ?_, fun ht => hcount ?_⟩⟩
  · rcases hw with hw | ⟨a, ha⟩
    · exact advanceEnding_waits hw
    · exact advanceEnding_failWrite ha
  · exact (advanceEnding_answered (e := counted) ho hw).trans (if_neg (Nat.sub_ne_zero_of_lt ht))
  · refine (advanceEnding_answered (e := counted) ho hw).trans ((if_pos (Nat.sub_eq_zero_of_le ht)).trans ?_)
    show Ending.finalWrite (writeAt b t.offset (leBytes 1 (if e.failed.isSome then FinalState.failed else e.fin).code)) = _
    cases e.failed <;> rfl

@[simp] theorem leBytes_length (n v : Nat) : (leBytes n v).length = n := by
  induction n generalizing v with
  | zero => rfl
  | succ n ih => simp [leBytes, ih]

@[simp] theorem leInt_length (n : Nat) (x : Int) : (leInt n x).length = n := leBytes_length _ _

@[simp] theorem leWord_length (w : Word) : (leWord w).length = 4 := leBytes_length _ _

/-- The fields of the mirror body. -/
def mirrorFields (b : Block) : List (Nat × Nat × List Byte) :=
  let entry := fun (l : Entry → List Byte) (n : Nat) => (b.ftu.pipeline.getLast?.map l).getD (List.replicate n 0#8)
  [(0x048, 1, leBytes 1 b.ftu.stream.code), (0x049, 3, List.replicate 3 0#8), (0x04C, 4, leWord b.ftu.frameNo),
   (0x050, 4, leBytes 4 b.ftu.lineTime), (0x054, 2, leInt 2 b.exu.xTarget), (0x056, 1, leBytes 1 b.exu.lastM),
   (0x057, 1, List.replicate 1 0#8), (0x058, 2, leInt 2 b.exu.lastE), (0x05A, 6, List.replicate 6 0#8),
   (0x060, 4, entry (fun e => leWord e.k) 4), (0x064, 2, entry (fun e => leBytes 2 e.e) 2),
   (0x066, 1, entry (fun e => leBytes 1 e.g) 1), (0x067, 1, entry (fun e => leBytes 1 e.c) 1),
   (0x068, 2, entry (fun e => leInt 2 e.xTarget) 2), (0x06A, 2, entry (fun e => leInt 2 e.xApp) 2),
   (0x06C, 1, entry (fun e => leBytes 1 e.source.code) 1),
   (0x06D, 1, entry (fun e => leBytes 1 ((if e.underFlag then 1 else 0) + (if e.overFlag then 2 else 0) +
     (if e.slewFlag then 4 else 0))) 1),
   (0x06E, 1, entry (fun e => leBytes 1 e.sbu.code) 1), (0x06F, 1, entry (fun e => if e.late then [1#8] else [0#8]) 1),
   (0x070, 2, leInt 2 (position b.zoom)), (0x072, 1, leBytes 1 b.zoom.state.code),
   (0x073, 1, leBytes 1 b.focus.state.code), (0x074, 2, leInt 2 (position b.focus)), (0x076, 2, leBytes 2 b.zmap.u),
   (0x078, 1, leBytes 1 (reportedState b.sbu).code),
   (0x079, 1, leBytes 1 (if b.iris.referenced then b.iris.position else 0)), (0x07A, 2, leInt 2 b.sbu.pitch.s),
   (0x07C, 2, leInt 2 b.sbu.yaw.s), (0x07E, 126, List.replicate 126 0#8)]

theorem mirrorBody_eq (b : Block) : mirrorBody b = (mirrorFields b).flatMap (·.2.2) := by
  unfold mirrorBody mirrorFields
  cases b.ftu.pipeline.getLast? with
  | none => simp [mirrorEntry, reserved]
  | some e => cases hl : e.late <;> simp [mirrorEntry, reserved, limitFlags, bit, hl, leBytes]

theorem mirrorFields_length (b : Block) : ∀ f ∈ mirrorFields b, f.2.2.length = f.2.1 := by
  unfold mirrorFields
  cases b.ftu.pipeline.getLast? with
  | none => simp
  | some e => cases hl : e.late <;> simp [hl]

theorem mirrorFields_isChain (b : Block) : (mirrorFields b).IsChain (fun f g => g.1 = f.1 + f.2.1) := by
  simp [mirrorFields]

/-- Settles O34. -/
theorem mirrorRewriteSteps : Obligations.MirrorRewriteSteps := by
  refine ⟨fun s b hd hb => runs_mirrorRewriteStart hd hb, fun s b acc err hs => ?_,
    fun b => ⟨mirrorBody_eq b, mirrorFields_length b, mirrorFields_isChain b⟩⟩
  intro f
  have hf : memoryFault? (acc.fault err) acc.offset b = f := by
    simp only [f]
    cases acc.fault err <;> rfl
  refine ⟨fun body h => ?_, fun h => ?_, fun h => ?_, fun t h => countTail_other h, fun t e h => countTail_cases b t e h⟩
  · exact (runs_mirrorHeadWriteDone err hs).of_eq (by rw [mirrorHeadWritten_eq h, hf])
  · exact (runs_mirrorBodyWriteDone err hs).of_eq (by rw [mirrorBodyWritten_eq h, hf])
  · exact (runs_mirrorTailWriteDone err hs).of_eq (by rw [mirrorTailWritten_eq h, hf])

end Sys2Proof.Machine
end

section
/-!
ABORT: which plan a bit reaches, and what its owner does.
-/

namespace Sys2Proof.Machine

/-! ### The taken-plan table under an ending -/

theorem find?_map_ending (l : List Taken) (k k' : PlanKind) (e : Ending) :
    (l.map fun t => if t.kind = k' then { t with ending := e } else t).find? (fun t => t.kind == k) =
      (l.find? fun t => t.kind == k).map fun t => if t.kind = k' then { t with ending := e } else t := by
  induction l with
  | nil => rfl
  | cons t l ih =>
    have hkind : (if t.kind = k' then { t with ending := e } else t).kind = t.kind := by
      split <;> rfl
    rw [List.map_cons, List.find?_cons, List.find?_cons, hkind]
    cases t.kind == k
    · exact ih
    · rfl

/-- The entry of a plan whose ending changes. -/
theorem takenOf_setEnding {b : Block} {k : PlanKind} {t : Taken} (h : takenOf b k = some t) (e : Ending) :
    takenOf (setEnding k e b) k = some { t with ending := e } := by
  have hk : t.kind = k := by simpa using List.find?_some h
  refine (find?_map_ending _ _ _ _).trans ?_
  rw [show b.ple.taken.find? (fun t => t.kind == k) = some t from h, Option.map_some, if_pos hk]

/-- The entry of another kind stays. -/
theorem takenOf_setEnding_other {k k' : PlanKind} (h : k ≠ k') (e : Ending) (b : Block) :
    takenOf (setEnding k' e b) k = takenOf b k := by
  refine (find?_map_ending _ _ _ _).trans ?_
  show (takenOf b k).map _ = takenOf b k
  cases ht : takenOf b k with
  | none => rfl
  | some t =>
    have hk : t.kind = k := by simpa using List.find?_some ht
    rw [Option.map_some, if_neg (fun hc => h (hk.symm.trans hc))]

theorem setEnding_setEnding (k : PlanKind) (e e' : Ending) (b : Block) :
    setEnding k e (setEnding k e' b) = setEnding k e b := by
  simp only [setEnding, List.map_map]
  congr 2
  refine List.map_congr_left fun t _ => ?_
  by_cases h : t.kind = k <;> simp [h]

/-- An ending that begins does not depend on how far its plan was. -/
theorem startEnding_setEnding (t : Taken) (e e' : Ending) (fin : FinalState) (o : PlanOutcome) (word area : List Byte)
    (b : Block) :
    startEnding { t with ending := e' } fin o word area (setEnding t.kind e b) = startEnding t fin o word area b :=
  congrArg requestMirror (setEnding_setEnding _ _ _ _)

/-- The report of a plan that an abort has reached. -/
theorem endPlan_aborted {b : Block} {k : PlanKind} {t : Taken} (h : takenOf b k = some t) (fin : FinalState)
    (o : PlanOutcome) (word area : List Byte) :
    endPlan k fin o word area (setEnding k .cancelling b) = startEnding t .cancelled .ok word area b := by
  have hk : t.kind = k := by simpa using List.find?_some h
  subst hk
  rw [endPlan_cancelling (takenOf_setEnding h .cancelling) rfl]
  exact startEnding_setEnding t _ _ _ _ _ _ _

theorem takenOf_requestMirror (b : Block) (k : PlanKind) : takenOf (requestMirror b) k = takenOf b k := by
  unfold requestMirror markDue
  repeat' split
  all_goals rfl

/-- The ending of one plan leaves the entries of the other kinds. -/
theorem takenOf_endPlan_other {k k' : PlanKind} (h : k ≠ k') (fin : FinalState) (o : PlanOutcome) (word area : List Byte)
    (b : Block) : takenOf (endPlan k' fin o word area b) k = takenOf b k := by
  have hstart : ∀ t : Taken, takenOf b k' = some t → ∀ fin o,
      takenOf (startEnding t fin o word area b) k = takenOf b k := by
    intro t ht fin o
    have hk : t.kind = k' := by simpa using List.find?_some ht
    exact (takenOf_requestMirror _ _).trans (takenOf_setEnding_other (hk ▸ h) _ _)
  unfold endPlan
  split
  · rfl
  · rename_i t ht
    split
    · exact hstart t ht _ _
    · exact hstart t ht _ _
    · rfl

theorem writeAt_congr {a b : Block} (hbase : a.regs.wbase = b.regs.wbase) (hlimit : a.regs.wlimit = b.regs.wlimit)
    (o : Nat) (data : List Byte) : writeAt a o data = writeAt b o data := by
  have hb : windowBase a = windowBase b := by
    simp only [windowBase, hbase]
  have hw : windowBytes a = windowBytes b := by
    simp only [windowBytes, hlimit]
  unfold writeAt accessAddr inWindow
  rw [hb, hw]

/-! ### The plan that a bit reaches (R19) -/

theorem runs_abort {s : State} {b : Block} {i : Instr} {c : PClass} (hs : Settles s b)
    (h : (i, c) ∈ [(Instr.abortZoom, PClass.zoom), (.abortFocus, .focus), (.abortCapture, .capture)]) :
    Runs i s (abortClass c b) := by
  simp only [List.mem_cons, List.not_mem_nil, or_false, Prod.mk.injEq] at h
  rcases h with ⟨rfl, rfl⟩ | ⟨rfl, rfl⟩ | ⟨rfl, rfl⟩
  · exact runs_abortZoom hs
  · exact runs_abortFocus hs
  · exact runs_abortCapture hs

theorem ownerEnded_other {b : Block} {k : PlanKind} (h : k ≠ .afSearch) : ownerEnded b k = false := by
  unfold ownerEnded
  split
  · exact absurd rfl h
  · rfl

theorem ownerEnded_search {b : Block} {r : Search} (h : b.afu.search = some r) :
    ownerEnded b .afSearch = r.ended.isSome := by
  unfold ownerEnded
  rw [h]

/-- A bit that reaches no plan, or one whose ending is decided. -/
theorem abortClass_nothing {b : Block} {c : PClass}
    (h : holderOf b c = none ∨
      ∃ t, holderOf b c = some t ∧
        (t.ending ≠ .running ∨ t.kind = .afSearch ∧ ∃ r, b.afu.search = some r ∧ r.ended ≠ none)) :
    abortClass c b = b := by
  unfold abortClass
  rcases h with h | ⟨t, h, hend⟩
  · rw [h]
  · rw [h]
    refine if_neg ?_
    rintro ⟨hrun, howner⟩
    rcases hend with hend | ⟨hkind, r, hr, hended⟩
    · exact hend hrun
    · rw [hkind, ownerEnded_search hr] at howner
      exact hended (Option.isSome_eq_false_iff.1 howner |> Option.isNone_iff_eq_none.1)

theorem abortClass_reaches {b : Block} {c : PClass} {t : Taken} (h : holderOf b c = some t) (hr : t.ending = .running)
    (ho : ownerEnded b t.kind = false) :
    abortClass c b = abortEffects t.kind (setEnding t.kind .cancelling b) := by
  unfold abortClass
  rw [h]
  exact if_pos ⟨hr, ho⟩

/-! ### ZOOM, FOCUS and TABLES plans (R88, R102) -/

section Effects
variable {b : Block} {t : Taken}

theorem zoomAbort_eq (ht : takenOf b .zoom = some t) {m : Move} (hm : b.zoom.move = some m) :
    zoomAbort (setEnding .zoom .cancelling b) =
      startEnding t .cancelled .ok (leInt 4 (position b.zoom)) (moveArea b.zoom.target .ok m.expiries 0)
        { b with zoom := braked b .zoom false } := by
  have hmove : abortMove .zoom (setEnding .zoom .cancelling b) =
      setEnding .zoom .cancelling { b with zoom := braked b .zoom false } := by
    simp only [abortMove, setEnding, axisOf, hm]
    rfl
  have hexp : expiriesOf b.zoom = m.expiries := by
    simp [expiriesOf, hm]
  unfold zoomAbort
  rw [hmove, show expiriesOf (setEnding .zoom .cancelling b).zoom = m.expiries from hexp]
  exact endPlan_aborted (b := { b with zoom := braked b .zoom false }) ht _ _ _ _

theorem focusAbort_eq (ht : takenOf b .focus = some t) {m : Move} (hm : b.focus.move = some m)
    (hs : b.focus.state ≠ .idle) :
    focusAbort (setEnding .focus .cancelling b) =
      startEnding t .cancelled .ok (leInt 4 (position b.focus)) (moveArea b.focus.target .ok m.expiries b.zmap.u)
        { b with focus := braked b .focus false } := by
  have hmove : abortMove .focus (setEnding .focus .cancelling b) =
      setEnding .focus .cancelling { b with focus := braked b .focus false } := by
    have hbrake := brake_focus (b := setEnding .focus .cancelling b) hs false
    simp only [abortMove, axisOf]
    rw [show (setEnding .focus .cancelling b).focus.move = some m from hm, hbrake]
    rfl
  have hexp : expiriesOf b.focus = m.expiries := by
    simp [expiriesOf, hm]
  unfold focusAbort
  rw [hmove, show expiriesOf (setEnding .focus .cancelling b).focus = m.expiries from hexp]
  exact endPlan_aborted (b := { b with focus := braked b .focus false }) ht _ _ _ _

theorem tablesAbort_reading {p : TablesParams} {got : List (List Byte)} {acc : ReadAcc}
    (h : b.zmap.loading = .reading p got acc) :
    tablesAbort b = { b with zmap := { b.zmap with loading := .aborted acc } } := by
  unfold tablesAbort
  rw [h]
  rfl

theorem tablesAbort_ready (ht : takenOf b .tables = some t) {new : Tables} (h : b.zmap.loading = .ready new) :
    tablesAbort (setEnding .tables .cancelling b) =
      startEnding t .cancelled .ok (List.replicate 4 0#8) (List.replicate 24 0#8)
        { b with zmap := { b.zmap with loading := .idle } } := by
  unfold tablesAbort
  rw [show (setEnding .tables .cancelling b).zmap.loading = .ready new from h]
  exact endPlan_aborted (b := { b with zmap := { b.zmap with loading := .idle } }) ht _ _ _ _

end Effects

/-! ### AF_SEARCH plans (R125) -/

theorem searchMoving_iff (b : Block) : searchMoving b = true ↔ ∃ m, b.focus.move = some m ∧ m.giver = .search := by
  unfold searchMoving
  cases b.focus.move <;> simp

/-- The block of a stopped search before it ends: its move is braked. -/
def searchBraked (b : Block) : Block := if searchMoving b then brake .focus false b else b

theorem searchStop_eq {b : Block} {r : Search} (h : b.afu.search = some r) (fin : FinalState) (o detail : PlanOutcome) :
    searchStop fin o detail b = searchEnd r fin o detail (searchBraked b) := by
  unfold searchStop
  rw [h]
  rfl

theorem searchBraked_moving {b : Block} {m : Move} (h : b.focus.move = some m) (hg : m.giver = .search) :
    (searchBraked b).focus = braked b .focus false := by
  unfold searchBraked
  rw [if_pos ((searchMoving_iff b).2 ⟨m, h, hg⟩)]
  exact axisOf_brake .focus false b

theorem searchBraked_still {b : Block} (h : ∀ m, b.focus.move = some m → m.giver ≠ .search) : searchBraked b = b := by
  unfold searchBraked
  rw [if_neg]
  rw [searchMoving_iff]
  rintro ⟨m, hm, hg⟩
  exact h m hm hg

theorem searchBraked_frame {fs : List Fld} {x₀ b : Block} (hl : Among [.focus, .afu] fs) (h : Changes fs x₀ b) :
    Changes fs x₀ (searchBraked b) := by
  unfold searchBraked
  split
  · unfold brake putAxis
    split
    · exact changes_afu (changes_focus h (hl.mem rfl)) (hl.mem rfl)
    · exact changes_focus h (hl.mem rfl)
  · exact h

/-- Braking leaves the position and what the search holds. -/
theorem searchBraked_search (b : Block) :
    position (searchBraked b).focus = position b.focus ∧ (searchBraked b).afu.writes = b.afu.writes ∧
    (searchBraked b).afu.search = b.afu.search := by
  unfold searchBraked
  split
  · unfold brake putAxis
    split
    · exact ⟨rfl, rfl, rfl⟩
    · exact ⟨rfl, rfl, rfl⟩
  · exact ⟨rfl, rfl, rfl⟩

theorem searchEnd_focus (r : Search) (fin : FinalState) (o detail : PlanOutcome) (b : Block) :
    (searchEnd r fin o detail b).focus = b.focus :=
  searchEnd_frame r fin o detail (Among.refl _) (Changes.refl _ b) .focus (by decide)

/-- A search that ends while trace writes are in flight waits for them. -/
theorem searchEnd_waits {b : Block} (h : b.afu.writes ≠ []) (r : Search) (fin : FinalState) (o detail : PlanOutcome) :
    searchEnd r fin o detail b = setSearch (some { r with moving := false, ended := some (fin, o, detail) }) b :=
  if_neg h

/-- A search that fails or is cancelled with no trace write in flight reports at once. -/
theorem searchReport_reports {b : Block} {r : Search} {fin : FinalState} {o detail : PlanOutcome}
    (h : b.afu.search = some r) (he : r.ended = some (fin, o, detail)) (hw : b.afu.writes = []) (hf : fin ≠ .done) :
    searchReport b =
      setSearch none (endPlan .afSearch fin o (leInt 4 (position b.focus)) (afArea b r detail) b) := by
  unfold searchReport
  rw [h]
  dsimp only
  rw [he]
  dsimp only
  rw [if_pos hw, if_neg hf]

theorem searchEnd_reports {b : Block} (h : b.afu.writes = []) (r : Search) {fin : FinalState} (hf : fin ≠ .done)
    (o detail : PlanOutcome) :
    ∃ area, searchEnd r fin o detail b =
      setSearch none (endPlan .afSearch fin o (leInt 4 (position b.focus)) area
        (setSearch (some { r with moving := false, ended := some (fin, o, detail) }) b)) :=
  ⟨_, searchReport_reports rfl rfl h hf⟩

/-- The abort of a running search. -/
theorem searchStop_cancelling {b : Block} {t : Taken} {r : Search} (ht : takenOf b .afSearch = some t)
    (hr : b.afu.search = some r) :
    let c := setEnding .afSearch .cancelling b
    let b' := searchStop .cancelled .ok .ok c
    (b.afu.writes ≠ [] →
      b'.afu.search = some { r with moving := false, ended := some (.cancelled, .ok, .ok) } ∧
      takenOf b' .afSearch = some { t with ending := .cancelling }) ∧
    (b.afu.writes = [] →
      b'.afu.search = none ∧
      ∃ e, takenOf b' .afSearch = some { t with ending := .results e } ∧ e.fin = .cancelled ∧
        (ResultWrite.outcome, writeAt b (t.offset + 3) [0#8]) ∈ e.outstanding ∧
        (ResultWrite.word, writeAt b (t.offset + 12) (leInt 4 (position b.focus))) ∈ e.outstanding) := by
  intro c b'
  obtain ⟨hpos, hwrites, -⟩ := searchBraked_search c
  have hple : (searchBraked c).ple = c.ple :=
    searchBraked_frame (Among.refl _) (Changes.refl _ c) .ple (by decide)
  have hregs : (searchBraked c).regs = b.regs :=
    searchBraked_frame (Among.refl _) (Changes.refl _ c) .regs (by decide)
  have hc : takenOf c .afSearch = some { t with ending := .cancelling } := takenOf_setEnding ht _
  have hb' : b' = searchEnd r .cancelled .ok .ok (searchBraked c) := searchStop_eq (b := c) hr _ _ _
  have htaken : takenOf (searchBraked c) .afSearch = some { t with ending := .cancelling } := by
    unfold takenOf at hc ⊢
    rw [hple]
    exact hc
  refine ⟨fun hw => ?_, fun hw => ?_⟩
  · rw [hb', searchEnd_waits (by rw [hwrites]; exact hw)]
    exact ⟨rfl, htaken⟩
  · obtain ⟨area, harea⟩ := searchEnd_reports (hwrites.trans hw) r (fin := .cancelled) nofun .ok .ok
    rw [hb', harea]
    refine ⟨rfl, ?_⟩
    have hrec : takenOf (setSearch (some { r with moving := false, ended := some (.cancelled, .ok, .ok) })
        (searchBraked c)) .afSearch = some { t with ending := .cancelling } := htaken
    rw [endPlan_cancelling hrec rfl]
    obtain ⟨e, he, hfin, hout⟩ := startEnding_takenOf hrec .cancelled .ok
      (leInt 4 (position (searchBraked c).focus)) area
    refine ⟨e, he, hfin, ?_, ?_⟩
    · rw [hout]
      exact List.mem_cons.2 (.inl (Prod.ext rfl (writeAt_congr (by rw [← hregs]; rfl) (by rw [← hregs]; rfl) _ _)))
    · rw [hout, ← show position (searchBraked c).focus = position b.focus from hpos]
      exact List.mem_cons_of_mem _ (List.mem_cons.2
        (.inl (Prod.ext rfl (writeAt_congr (by rw [← hregs]; rfl) (by rw [← hregs]; rfl) _ _))))

end Sys2Proof.Machine
end

section
/-!
The ending of a CAPTURE plan, and ABORT of CAPTURE and REFERENCE plans.
-/

namespace Sys2Proof.Machine

/-! ### The ending of a CAPTURE plan (R153) -/

/-- The block of a CAPTURE plan's ending once continuous AF has stopped (R108, R128). -/
def capPrepared (b : Block) : Block :=
  if capHeldFocus (cafStop b).cap && (cafStop b).focus.referenced then recomputeU (cafStop b) else cafStop b

theorem capPrepared_frame {fs : List Fld} {x₀ b : Block} (hl : Among [.focus, .zmap, .afu] fs) (h : Changes fs x₀ b) :
    Changes fs x₀ (capPrepared b) := by
  have hstop : Changes fs x₀ (cafStop b) := cafStop_frame (hl.mono (by decide)) h
  unfold capPrepared
  split
  · exact changes_zmap hstop (hl.mem rfl)
  · exact hstop

theorem capPrepared_same (b : Block) {f : Fld} (h : f ∉ [.focus, .zmap, .afu]) : Agree b (capPrepared b) f :=
  capPrepared_frame (Among.refl _) (Changes.refl _ b) f h

/-- The end cause that the plan reports. -/
def capCause (b : Block) : PlanOutcome := if planCancelling b .capture then .ok else b.cap.endCause.getD .ok

/-- The block in which the plan reports. -/
def capReporting (b : Block) : Block := setCap (fun c => { c with endCause := some (capCause b) }) (capPrepared b)

theorem planCancelling_congr {a b : Block} (h : a.ple = b.ple) (k : PlanKind) : planCancelling a k = planCancelling b k := by
  simp only [planCancelling, takenOf, h]

theorem takenOf_congr {a b : Block} (h : a.ple = b.ple) (k : PlanKind) : takenOf a k = takenOf b k := by
  simp only [takenOf, h]

theorem capFinish_eq (b : Block) :
    capFinish b =
      setCap (fun c => { c with state := .ended })
        (setCond .slotWait false
          (let e := endPlan .capture (if failedCause (capCause b) then .failed else .done) (capCause b)
            (leWord b.cap.stored) (captureArea (capReporting b).cap) (capReporting b)
           { e with exu := { e.exu with lock := false } })) := by
  have hcap : (capPrepared b).cap = b.cap := capPrepared_same b (f := .cap) (by decide)
  have hcause : (if planCancelling (capPrepared b) .capture then PlanOutcome.ok
      else (capPrepared b).cap.endCause.getD .ok) = capCause b := by
    rw [planCancelling_congr (capPrepared_same b (f := .ple) (by decide)), hcap]
    rfl
  have hrep : capReporting b = setCap (fun c => { c with endCause := some (capCause b) }) (capPrepared b) := rfl
  have hstored : (capReporting b).cap.stored = b.cap.stored := by
    rw [hrep, setCap_cap, hcap]
  rw [← hstored, hrep, ← hcause]
  rfl

theorem capReporting_same (b : Block) {f : Fld} (h : f ∉ [.focus, .zmap, .afu, .cap]) : Agree b (capReporting b) f :=
  setCap_frame _ (by simp [Among]) (capPrepared_frame (by simp [Among]) (Changes.refl _ b)) f h

/-- Capture control after the ending. -/
theorem capFinish_cap (b : Block) :
    (capFinish b).cap = { b.cap with endCause := some (capCause b), state := .ended } := by
  have hcap : (capPrepared b).cap = b.cap := capPrepared_same b (f := .cap) (by decide)
  have he := fun fin o w a => endPlan_frame .capture fin o w a (Among.refl _) (Changes.refl _ (capReporting b)) .cap (by decide)
  rw [capFinish_eq]
  simp only [setCap_cap, setCond_cap]
  rw [he]
  simp only [capReporting, setCap_cap, hcap]

/-- The capture lock after the ending. -/
theorem capFinish_exu (b : Block) : (capFinish b).exu = { b.exu with lock := false } := by
  have he := fun fin o w a => endPlan_frame .capture fin o w a (Among.refl _) (Changes.refl _ (capReporting b)) .exu (by decide)
  rw [capFinish_eq]
  simp only [setCap_exu, setCond_exu]
  rw [he, show (capReporting b).exu = b.exu from capReporting_same b (f := .exu) (by decide)]

/-- SLOT_WAIT after the ending. -/
theorem capFinish_ntu (b : Block) : (capFinish b).ntu = { b.ntu with slotWait := false } := by
  have he := fun fin o w a => endPlan_frame .capture fin o w a (Among.refl _) (Changes.refl _ (capReporting b)) .ntu (by decide)
  rw [capFinish_eq]
  simp only [setCap_ntu, setCond_false]
  rw [he, show (capReporting b).ntu = b.ntu from capReporting_same b (f := .ntu) (by decide)]
  rfl

/-- What the ending leaves. -/
theorem capFinish_same (b : Block) {f : Fld} (h : f ∉ [.ntu, .ple, .exu, .focus, .zmap, .afu, .cap, .due]) :
    Agree b (capFinish b) f :=
  capFinish_frame (Among.refl _) (Changes.refl _ b) f h

/-- The entries of other plans stay. -/
theorem capFinish_takenOf_other {k : PlanKind} (h : k ≠ .capture) (b : Block) :
    takenOf (capFinish b) k = takenOf b k := by
  rw [capFinish_eq]
  refine (takenOf_endPlan_other h _ _ _ _ (capReporting b)).trans (takenOf_congr ?_ _)
  exact capReporting_same b (f := .ple) (by decide)

/-- The ending of a plan that an abort made finishing. -/
theorem capFinish_cancelling {b : Block} {t : Taken} (ht : takenOf b .capture = some t) (hc : t.ending = .cancelling) :
    ∃ e : EndingProg, takenOf (capFinish b) .capture = some { t with ending := .results e } ∧ e.fin = .cancelled ∧
      (ResultWrite.outcome, writeAt b (t.offset + 3) [0#8]) ∈ e.outstanding ∧
      (ResultWrite.word, writeAt b (t.offset + 12) (leWord b.cap.stored)) ∈ e.outstanding := by
  have hregs : (capReporting b).regs = b.regs := capReporting_same b (f := .regs) (by decide)
  have htaken : takenOf (capReporting b) .capture = some t :=
    (takenOf_congr (capReporting_same b (f := .ple) (by decide)) _).trans ht
  have hwrite : ∀ o d, writeAt (capReporting b) o d = writeAt b o d :=
    writeAt_congr (congrArg Regs.wbase hregs) (congrArg Regs.wlimit hregs)
  rw [capFinish_eq, endPlan_cancelling htaken hc]
  obtain ⟨e, he, hfin, hout⟩ := startEnding_takenOf htaken .cancelled .ok (leWord b.cap.stored)
    (captureArea (capReporting b).cap)
  refine ⟨e, he, hfin, ?_, ?_⟩
  · rw [hout, hwrite]
    exact List.mem_cons_self
  · rw [hout, hwrite _ (leWord b.cap.stored)]
    exact List.mem_cons_of_mem _ List.mem_cons_self

/-! ### Withdrawal of a request (log 66) -/

theorem withdrawRequest_none {b : Block} (h : b.fsu.cur = none) : withdrawRequest b = b := by
  unfold withdrawRequest
  rw [h]

theorem withdrawRequest_asking {b : Block} {f : StoreFrame} (h : b.fsu.cur = some f) (hs : f.slot = none) :
    withdrawRequest b =
      { b with fsu := { b.fsu with
        cur := none, line := none, places := [], overrun := false
        qReads := b.fsu.qReads.map fun q => { q with request := none } } } := by
  unfold withdrawRequest
  rw [h]
  dsimp only
  rw [hs]
  rfl

theorem withdrawRequest_same (b : Block) {f : Fld} (h : f ∉ [.fsu]) : Agree b (withdrawRequest b) f :=
  withdrawRequest_frame (Among.refl _) (Changes.refl _ b) f h

/-! ### The abort of a CAPTURE plan (R156) -/

section CaptureAbort
variable {b : Block} {t : Taken}

theorem capAbort_filling (h : b.cap.filling = true) : capAbort b = { b with cap := { b.cap with state := .draining } } :=
  if_pos h

theorem capAbort_idle (h : b.cap.filling = false) :
    capAbort b = capFinish (withdrawRequest { b with cap := { b.cap with state := .draining } }) := by
  refine if_neg ?_
  show ¬b.cap.filling = true
  simp [h]

/-- The abort of a CAPTURE plan with no slot FILLING. -/
theorem capAbort_ends (ht : takenOf b .capture = some t) (hf : b.cap.filling = false)
    (hcur : ∀ f, b.fsu.cur = some f → f.slot = none) :
    let b' := capAbort (setEnding .capture .cancelling b)
    ∃ e : EndingProg,
      b'.cap.state = .ended ∧ b'.exu = { b.exu with lock := false } ∧
      b'.ntu = { b.ntu with slotWait := false } ∧ b'.regs = b.regs ∧ b'.ftu = b.ftu ∧
      b'.cap.skipSlot = b.cap.skipSlot ∧ b'.cap.skipOther = b.cap.skipOther ∧
      (b.fsu.cur = none → b'.fsu = b.fsu) ∧
      (b.fsu.cur ≠ none →
        b'.fsu = { b.fsu with
          cur := none, line := none, places := [], overrun := false
          qReads := b.fsu.qReads.map fun q => { q with request := none } }) ∧
      takenOf b' .capture = some { t with ending := .results e } ∧ e.fin = .cancelled ∧
      (ResultWrite.outcome, writeAt b (t.offset + 3) [0#8]) ∈ e.outstanding ∧
      (ResultWrite.word, writeAt b (t.offset + 12) (leWord b.cap.stored)) ∈ e.outstanding := by
  intro b'
  let d : Block := { setEnding .capture .cancelling b with cap := { b.cap with state := .draining } }
  let w := withdrawRequest d
  have hb' : b' = capFinish w := capAbort_idle (b := setEnding .capture .cancelling b) hf
  have hsame : ∀ {f : Fld}, f ∉ [.fsu] → Agree d w f := withdrawRequest_same d
  have hcap : w.cap = d.cap := hsame (f := .cap) (by decide)
  have hregs : w.regs = d.regs := hsame (f := .regs) (by decide)
  have htaken : takenOf w .capture = some { t with ending := .cancelling } :=
    (takenOf_congr (hsame (f := .ple) (by decide)) _).trans (takenOf_setEnding ht _)
  obtain ⟨e, he, hfin, hout, hword⟩ := capFinish_cancelling htaken rfl
  have hwrite : ∀ o data, writeAt w o data = writeAt b o data :=
    writeAt_congr (congrArg Regs.wbase hregs) (congrArg Regs.wlimit hregs)
  have hfsu : b'.fsu = w.fsu := hb' ▸ capFinish_same w (f := .fsu) (by decide)
  refine ⟨e, ?_, ?_, ?_, ?_, ?_, ?_, ?_, fun hnone => ?_, fun hsome => ?_, hb' ▸ he, hfin, ?_, ?_⟩
  · rw [hb', capFinish_cap]
  · rw [hb', capFinish_exu, show w.exu = b.exu from hsame (f := .exu) (by decide)]
  · rw [hb', capFinish_ntu, show w.ntu = b.ntu from hsame (f := .ntu) (by decide)]
  · rw [hb']
    exact (capFinish_same w (f := .regs) (by decide)).trans hregs
  · rw [hb']
    exact (capFinish_same w (f := .ftu) (by decide)).trans (hsame (f := .ftu) (by decide))
  · rw [hb', capFinish_cap, hcap]
  · rw [hb', capFinish_cap, hcap]
  · rw [hfsu]
    exact (congrArg Block.fsu (withdrawRequest_none (b := d) hnone)).trans rfl
  · obtain ⟨f, hfr⟩ := Option.ne_none_iff_exists'.1 hsome
    rw [hfsu]
    exact (congrArg Block.fsu (withdrawRequest_asking (b := d) hfr (hcur f hfr))).trans rfl
  · rw [← hwrite]
    exact hout
  · rw [← hwrite, ← show w.cap.stored = b.cap.stored from (congrArg Cap.stored hcap).trans rfl]
    exact hword

end CaptureAbort

/-! ### The abort of a REFERENCE plan (R91) -/

/-- The axis after the abort of a search that may run on it. -/
def searchStopped (b : Block) (ax : Axis) : AxisUnit :=
  if (axisOf b ax).search.isSome then braked b ax false else axisOf b ax

theorem abortSearch_axis (b : Block) (ax : Axis) : axisOf (abortSearch ax b) ax = searchStopped b ax := by
  unfold abortSearch searchStopped
  cases h : (axisOf b ax).search with
  | none => rfl
  | some s => exact axisOf_brake ax false b

theorem abortSearch_zoom_focus (b : Block) : (abortSearch .zoom b).focus = b.focus := by
  unfold abortSearch
  split
  · rfl
  · rfl

theorem abortSearch_focus_zoom (b : Block) : (abortSearch .focus b).zoom = b.zoom := by
  unfold abortSearch
  split
  · rfl
  · exact putAxis_focus_zoom _ _

theorem abortSearch_same (ax : Axis) (b : Block) {f : Fld} (h : f ∉ [.zoom, .focus, .afu]) : Agree b (abortSearch ax b) f :=
  abortSearch_frame ax (Among.refl _) (Changes.refl _ b) f h

/-- The block in which an aborted REFERENCE plan reports. -/
def refStopped (b : Block) : Block :=
  let b1 := abortSearch .focus (abortSearch .zoom b)
  if b1.iris.stage.isSome then { b1 with iris := { b1.iris with referenced := false, stage := none } } else b1

theorem referenceAbort_eq {b : Block} {r : RefPlan} (h : b.ldu.refPlan = some r) :
    referenceAbort b = refEnd r .cancelled .ok (refStopped b) := by
  unfold referenceAbort
  rw [h]
  rfl

theorem refStopped_frame {fs : List Fld} {x₀ b : Block} (hl : Among [.zoom, .focus, .iris, .afu] fs)
    (h : Changes fs x₀ b) : Changes fs x₀ (refStopped b) := by
  have h1 := abortSearch_frame .focus (hl.mono (by decide)) (abortSearch_frame .zoom (hl.mono (by decide)) h)
  unfold refStopped
  dsimp only
  split
  · exact changes_iris h1 (hl.mem rfl)
  · exact h1

theorem refStopped_same (b : Block) {f : Fld} (h : f ∉ [.zoom, .focus, .iris, .afu]) : Agree b (refStopped b) f :=
  refStopped_frame (Among.refl _) (Changes.refl _ b) f h

theorem refStopped_zoom (b : Block) : (refStopped b).zoom = searchStopped b .zoom := by
  have h : (abortSearch .focus (abortSearch .zoom b)).zoom = searchStopped b .zoom :=
    (abortSearch_focus_zoom _).trans (abortSearch_axis b .zoom)
  unfold refStopped
  dsimp only
  split <;> exact h

theorem searchStopped_focus_congr {a b : Block} (hf : a.focus = b.focus) (hm : a.zmap = b.zmap) :
    searchStopped a .focus = searchStopped b .focus := by
  have haxis : axisOf a .focus = axisOf b .focus := hf
  have hbraked : braked a .focus false = braked b .focus false := by
    simp only [braked, settleTimeOf, blockOf, haxis, hm]
  unfold searchStopped
  rw [haxis, hbraked]

theorem refStopped_focus (b : Block) : (refStopped b).focus = searchStopped b .focus := by
  have hz : (abortSearch .zoom b).focus = b.focus := abortSearch_zoom_focus b
  have hm : (abortSearch .zoom b).zmap = b.zmap := abortSearch_same .zoom b (f := .zmap) (by decide)
  have h : (abortSearch .focus (abortSearch .zoom b)).focus = searchStopped b .focus := by
    exact (abortSearch_axis _ .focus).trans (searchStopped_focus_congr hz hm)
  unfold refStopped
  dsimp only
  split <;> exact h

theorem refStopped_iris (b : Block) :
    (refStopped b).iris =
      if b.iris.stage.isSome then { b.iris with referenced := false, stage := none } else b.iris := by
  have h : (abortSearch .focus (abortSearch .zoom b)).iris = b.iris :=
    (abortSearch_same .focus _ (f := .iris) (by decide)).trans (abortSearch_same .zoom b (f := .iris) (by decide))
  unfold refStopped
  simp only [h]
  split
  · rfl
  · exact h

theorem searchStopped_position (b : Block) (ax : Axis) : position (searchStopped b ax) = position (axisOf b ax) := by
  unfold searchStopped
  split <;> rfl

theorem refEnd_same (r : RefPlan) (fin : FinalState) (o : PlanOutcome) (b : Block) {f : Fld} (h : f ∉ [.ple, .ldu, .due]) :
    Agree b (refEnd r fin o b) f :=
  refEnd_frame r fin o (Among.refl _) (Changes.refl _ b) f h

/-- The abort of a REFERENCE plan. -/
theorem referenceAbort_ends {b : Block} {t : Taken} {r : RefPlan} (ht : takenOf b .reference = some t)
    (hr : b.ldu.refPlan = some r) :
    let b' := referenceAbort (setEnding .reference .cancelling b)
    ∃ e : EndingProg,
      b'.regs = b.regs ∧ b'.ntu = b.ntu ∧ b'.ldu.refPlan = none ∧
      b'.zoom = searchStopped b .zoom ∧ b'.focus = searchStopped b .focus ∧
      b'.iris = (if b.iris.stage.isSome then { b.iris with referenced := false, stage := none } else b.iris) ∧
      takenOf b' .reference = some { t with ending := .results e } ∧ e.fin = .cancelled ∧
      (ResultWrite.outcome, writeAt b (t.offset + 3) [0#8]) ∈ e.outstanding ∧
      (ResultWrite.word, writeAt b (t.offset + 12) (leInt 4 (position b.zoom))) ∈ e.outstanding := by
  intro b'
  let c := setEnding .reference .cancelling b
  let d := refStopped c
  have hb' : b' = refEnd r .cancelled .ok d := referenceAbort_eq (b := c) hr
  have hregs : d.regs = b.regs := refStopped_same c (f := .regs) (by decide)
  have htaken : takenOf (setRef none d) .reference = some { t with ending := .cancelling } :=
    (takenOf_congr (refStopped_same c (f := .ple) (by decide)) _).trans (takenOf_setEnding ht _)
  have hpos : position d.zoom = position b.zoom := by
    rw [show d.zoom = searchStopped c .zoom from refStopped_zoom c, searchStopped_position]
    rfl
  have hwrite : ∀ o data, writeAt (setRef none d) o data = writeAt b o data :=
    writeAt_congr (congrArg Regs.wbase hregs) (congrArg Regs.wlimit hregs)
  obtain ⟨area, hrun⟩ : ∃ area,
      b' = startEnding { t with ending := .cancelling } .cancelled .ok (leInt 4 (position b.zoom)) area (setRef none d) := by
    rw [hb', ← hpos]
    exact ⟨_, endPlan_cancelling htaken rfl _ _ _ _⟩
  obtain ⟨e, he, hfin, hout⟩ := startEnding_takenOf htaken .cancelled .ok (leInt 4 (position b.zoom)) area
  have hldu : b'.ldu = (setRef none d).ldu := by
    rw [hrun]
    exact startEnding_frame _ _ _ _ _ (Among.refl _) (Changes.refl _ _) .ldu (by decide)
  refine ⟨e, ?_, ?_, congrArg Ldu.refPlan hldu, ?_, ?_, ?_, hrun ▸ he, hfin, ?_, ?_⟩
  · rw [hb']
    exact (refEnd_same r _ _ d (f := .regs) (by decide)).trans hregs
  · rw [hb']
    exact (refEnd_same r _ _ d (f := .ntu) (by decide)).trans (refStopped_same c (f := .ntu) (by decide))
  · rw [hb']
    exact (refEnd_same r _ _ d (f := .zoom) (by decide)).trans (refStopped_zoom c)
  · rw [hb']
    exact (refEnd_same r _ _ d (f := .focus) (by decide)).trans (refStopped_focus c)
  · rw [hb']
    exact (refEnd_same r _ _ d (f := .iris) (by decide)).trans (refStopped_iris c)
  · rw [hout, hwrite]
    exact List.mem_cons_self
  · rw [hout, hwrite _ (leInt 4 (position b.zoom))]
    exact List.mem_cons_of_mem _ List.mem_cons_self

/-- The abort of an AF_SEARCH plan whose search runs. -/
theorem searchAbort_ends {b : Block} {t : Taken} {r : Search} (ht : takenOf b .afSearch = some t)
    (hr : b.afu.search = some r) :
    let b' := searchStop .cancelled .ok .ok (setEnding .afSearch .cancelling b)
    b'.zoom = b.zoom ∧ b'.regs = b.regs ∧ b'.ntu = b.ntu ∧
    ((∃ m, b.focus.move = some m ∧ m.giver = .search) → b'.focus = braked b .focus false) ∧
    ((∀ m, b.focus.move = some m → m.giver ≠ .search) → b'.focus = b.focus) ∧
    (b.afu.writes ≠ [] →
      b'.afu.search = some { r with moving := false, ended := some (.cancelled, .ok, .ok) } ∧
      takenOf b' .afSearch = some { t with ending := .cancelling }) ∧
    (b.afu.writes = [] →
      b'.afu.search = none ∧
      ∃ e, takenOf b' .afSearch = some { t with ending := .results e } ∧ e.fin = .cancelled ∧
        (ResultWrite.outcome, writeAt b (t.offset + 3) [0#8]) ∈ e.outstanding ∧
        (ResultWrite.word, writeAt b (t.offset + 12) (leInt 4 (position b.focus))) ∈ e.outstanding) := by
  intro b'
  let c := setEnding .afSearch .cancelling b
  have hsame : Changes _ c b' := searchStop_frame .cancelled .ok .ok (Among.refl _) (Changes.refl _ c)
  have hfocus : b'.focus = (searchBraked c).focus :=
    (congrArg Block.focus (searchStop_eq (b := c) hr _ _ _)).trans (searchEnd_focus _ _ _ _ _)
  obtain ⟨hwait, hreport⟩ := searchStop_cancelling ht hr
  refine ⟨hsame .zoom (by decide), hsame .regs (by decide), hsame .ntu (by decide), ?_, fun hm => ?_, hwait, hreport⟩
  · rintro ⟨m, hm, hg⟩
    exact hfocus.trans ((searchBraked_moving (b := c) hm hg).trans rfl)
  · exact hfocus.trans ((congrArg Block.focus (searchBraked_still (b := c) hm)).trans rfl)

/-- Settles O15: what the bit reaches by `abortClass_reaches`, what its owner does by the lemma of the kind. -/
theorem abortEffects_holds : Obligations.AbortEffects := by
  refine ⟨fun s b i c hs hi h => ?_, fun s b t m hs hrun => ⟨fun hh hk ht hm => ?_, fun hh hk ht hm hst => ?_⟩,
    fun s b i c t hs hi hh hrun hk ht => ⟨fun hf => ?_, fun hf hcur => ?_⟩, fun s b i c t hs hi hh hrun ht => ?_⟩
  · exact (runs_abort hs hi).of_eq (abortClass_nothing h)
  · refine (runs_abortZoom hs).of_eq ((abortClass_reaches hh hrun (ownerEnded_other (by simp [hk]))).trans ?_)
    rw [hk]
    exact zoomAbort_eq ht hm
  · refine (runs_abortFocus hs).of_eq ((abortClass_reaches hh hrun (ownerEnded_other (by simp [hk]))).trans ?_)
    rw [hk]
    exact focusAbort_eq ht hm hst
  · refine (runs_abort hs hi).of_eq ((abortClass_reaches hh hrun (ownerEnded_other (by simp [hk]))).trans ?_)
    rw [hk]
    exact capAbort_filling (b := setEnding .capture .cancelling b) hf
  · obtain ⟨e, hcap⟩ := capAbort_ends ht hf hcur
    refine ⟨_, e, (runs_abort hs hi).of_eq ((abortClass_reaches hh hrun (ownerEnded_other (by simp [hk]))).trans ?_), hcap⟩
    rw [hk]
    rfl
  · intro stopped
    have hreach : ownerEnded b t.kind = false → Runs i s (abortEffects t.kind (setEnding t.kind .cancelling b)) :=
      fun ho => (runs_abort hs hi).of_eq (abortClass_reaches hh hrun ho)
    refine ⟨fun r hk hr he => ?_, fun r hk hr => ?_, fun p got acc hk hl => ?_, fun new hk hl => ?_⟩
    all_goals rw [hk] at hreach ht
    · refine ⟨_, hreach ((ownerEnded_search hr).trans (by simp [he])), ?_⟩
      exact searchAbort_ends ht hr
    · obtain ⟨e, hall⟩ := referenceAbort_ends ht hr
      obtain ⟨hregs, hntu, hplan, hzoom, hfocus, hrest⟩ := hall
      exact ⟨_, e, hreach (ownerEnded_other (by decide)), hregs, hntu, hplan, hzoom, hfocus, hrest⟩
    · exact (hreach (ownerEnded_other (by decide))).of_eq (tablesAbort_reading hl)
    · exact (hreach (ownerEnded_other (by decide))).of_eq (tablesAbort_ready ht hl)

end Sys2Proof.Machine
end

section
/-!
Frame timing: the pulses that change nothing, and what a frame-end and the end of a line leave in each unit.
-/

namespace Sys2Proof.Machine

/-! ### Pulses without effect -/

/-- Settles O35. -/
theorem syncPulsesIgnored : Obligations.SyncPulsesIgnored := by
  refine ⟨fun s b n w hs h => (runs_frameSync n w hs).of_eq ?_, fun s b px hs h => (runs_lineSync px hs).of_eq ?_,
    fun s b hs => ⟨fun h => (runs_periodCounterLimit hs).of_eq ?_, fun h => (runs_periodCounterLimit hs).of_eq ?_,
      fun h => (runs_syncTimerExpiry hs).of_eq ?_⟩⟩
  · unfold frameSync
    rw [h]
  · unfold lineSync
    rcases h with h | h | h <;> rw [h]
  · unfold periodLimit
    rw [if_pos h]
    rfl
  · unfold periodLimit
    rw [h]
    rfl
  · unfold syncTimeout
    rw [h]
    rfl

/-! ### Releases -/

theorem retire_ftu (b : Block) :
    (retire b).ftu = { b.ftu with pipeline := b.ftu.pipeline.filter fun e => !e.retired } := by
  unfold retire
  dsimp only
  split
  · exact (markDue_ftu _ _).trans rfl
  · rfl

theorem recordRelease_ftu (k : Word) (b : Block) :
    (recordRelease k b).ftu =
      { b.ftu with
        pipeline :=
          (b.ftu.pipeline.map fun e => if e.k = k then { e with recordReleased := true } else e).filter
            (fun e => !e.retired) } :=
  retire_ftu _

theorem meterRelease_ftu (k : Word) (b : Block) :
    (meterRelease k b).ftu =
      { b.ftu with
        pipeline :=
          (b.ftu.pipeline.map fun e => if e.k = k then { e with meterReleased := true } else e).filter
            (fun e => !e.retired) } :=
  retire_ftu _

/-! ### The frame-end at the frame store -/

theorem pump_same (b : Block) {f : Fld} (h : f ∉ [.regs, .ntu, .fsu]) : Agree b (pump b) f :=
  pump_frame (Among.refl _) (Changes.refl _ b) f h

/-- The pipeline after a frame-end at the frame store: as it was, or with the record release of the frame. -/
theorem storeFrameEnd_ftu (k : Word) (cut : Bool) (st : SbuState) (peak : Nat) (b : Block) :
    ∃ l : List Entry, (storeFrameEnd k cut st peak b).ftu = { b.ftu with pipeline := l } ∧
      ∀ e ∈ l, ∃ x ∈ b.ftu.pipeline, x.k = e.k ∧ x.role = e.role := by
  have hkept : ∃ l : List Entry, b.ftu = { b.ftu with pipeline := l } ∧
      ∀ e ∈ l, ∃ x ∈ b.ftu.pipeline, x.k = e.k ∧ x.role = e.role :=
    ⟨b.ftu.pipeline, rfl, fun e he => ⟨e, he, rfl, rfl⟩⟩
  have hreleased : ∀ c : Block, c.ftu = b.ftu → ∃ l : List Entry, (recordRelease k c).ftu = { b.ftu with pipeline := l } ∧
      ∀ e ∈ l, ∃ x ∈ b.ftu.pipeline, x.k = e.k ∧ x.role = e.role := by
    intro c hc
    refine ⟨_, (recordRelease_ftu k c).trans (by rw [hc]), fun e he => ?_⟩
    obtain ⟨x, hx, rfl⟩ := List.mem_map.1 (List.mem_filter.1 he).1
    exact ⟨x, hx, by split <;> rfl, by split <;> rfl⟩
  unfold storeFrameEnd
  split
  · split
    · dsimp only
      split
      · rw [show (pump _).ftu = _ from pump_same _ (f := .ftu) (by decide)]
        exact hkept
      · exact hreleased _ rfl
    · exact hreleased _ rfl
  · exact hreleased _ rfl

/-! ### The statistics at a frame-end -/

/-- Stats-ready is raised where the unit has a format, latched parameters and a frame. -/
theorem statsFrameEnd_raises {b : Block} {g : Geom} {l : Latched} {f : StuFrame} (hg : b.stu.geom = some g)
    (hl : b.stu.latched = some l) (hf : b.stu.frame = some f) (lineCount cut : Bool) :
    statsFrameEnd lineCount cut b =
      raiseStats (statsRecord b.stu g l f lineCount cut) { b with stu := { b.stu with frame := none, line := none } } := by
  unfold statsFrameEnd
  rw [hg, hl, hf]
  rfl

theorem statsFrameEnd_ftu (lineCount cut : Bool) (b : Block) : (statsFrameEnd lineCount cut b).ftu = b.ftu :=
  statsFrameEnd_frame lineCount cut (Among.refl _) (Changes.refl _ b) .ftu (by decide)

theorem statsFrameEnd_stu (lineCount cut : Bool) (b : Block) :
    (statsFrameEnd lineCount cut b).stu = { b.stu with frame := none, line := none } := by
  unfold statsFrameEnd
  dsimp only
  split <;> rfl

/-- A frame-end adds to the list of stats-ready events alone in the focus search unit. -/
theorem statsFrameEnd_afu (lineCount cut : Bool) (b : Block) :
    ∃ l, (statsFrameEnd lineCount cut b).afu = { b.afu with inbox := l } := by
  unfold statsFrameEnd
  dsimp only
  split
  · exact ⟨_, rfl⟩
  · exact ⟨b.afu.inbox, rfl⟩

/-! ### Frame-end -/

/-- The block after the timing unit's part of a frame-end: the frame has ended, its entry is closing. -/
def frameClosed (k : Word) (b : Block) : Block :=
  { b with ftu := { b.ftu with
      frame := b.ftu.frame.map fun f => { f with ended := true }
      pipeline := b.ftu.pipeline.map fun e => if e.k = k then { e with role := .closing } else e } }

/-- The block in which the frame store acts at a frame-end. -/
def frameEnding (k : Word) (lineCount cut : Bool) (b : Block) : Block :=
  closeWindow k (statsFrameEnd lineCount cut (frameClosed k b))

theorem raiseFrameEnd_eq (k : Word) (lineCount cut : Bool) (b : Block) :
    raiseFrameEnd k lineCount cut b =
      storeFrameEnd k cut (reportedState b.sbu) (peakOf b.sbu k) (frameEnding k lineCount cut b) := rfl

theorem frameEnding_ftu (k : Word) (lineCount cut : Bool) (b : Block) :
    (frameEnding k lineCount cut b).ftu =
      { b.ftu with
        frame := b.ftu.frame.map fun f => { f with ended := true }
        pipeline := b.ftu.pipeline.map fun e => if e.k = k then { e with role := .closing } else e } :=
  (statsFrameEnd_ftu lineCount cut (frameClosed k b)).trans rfl

/-- What the frame store leaves at a frame-end. -/
theorem storeFrameEnd_same (k : Word) (cut : Bool) (st : SbuState) (peak : Nat) (b : Block) {f : Fld}
    (h : f ∉ [.regs, .ntu, .ftu, .fsu, .due]) : Agree b (storeFrameEnd k cut st peak b) f :=
  storeFrameEnd_frame k cut st peak (Among.refl _) (Changes.refl _ b) f h

section FrameEnd
variable (k : Word) (lineCount cut : Bool) (b : Block)

/-- A frame-end marks the frame ended and closes the entry of its number; of the timing unit it changes no more. -/
theorem raiseFrameEnd_ftu :
    ∃ l : List Entry,
      (raiseFrameEnd k lineCount cut b).ftu =
        { b.ftu with frame := b.ftu.frame.map fun f => { f with ended := true }, pipeline := l } ∧
      ∀ e ∈ l, e.k = k → e.role = .closing := by
  obtain ⟨l, hl, hmem⟩ :=
    storeFrameEnd_ftu k cut (reportedState b.sbu) (peakOf b.sbu k) (frameEnding k lineCount cut b)
  rw [frameEnding_ftu] at hl hmem
  refine ⟨l, (congrArg Block.ftu (raiseFrameEnd_eq k lineCount cut b)).trans hl, fun e he hk => ?_⟩
  obtain ⟨x, hx, hxk, hxr⟩ := hmem e he
  obtain ⟨y, hy, rfl⟩ := List.mem_map.1 hx
  rw [← hxr]
  split
  · rfl
  · next hne =>
    rw [if_neg hne] at hxk
    exact absurd (hxk.trans hk) hne

theorem raiseFrameEnd_stu : (raiseFrameEnd k lineCount cut b).stu = { b.stu with frame := none, line := none } := by
  rw [raiseFrameEnd_eq]
  refine Eq.trans (storeFrameEnd_same k cut _ _ (frameEnding k lineCount cut b) (f := .stu) (by decide)) ?_
  exact (statsFrameEnd_stu lineCount cut _).trans rfl

theorem raiseFrameEnd_afu : ∃ l, (raiseFrameEnd k lineCount cut b).afu = { b.afu with inbox := l } := by
  rw [raiseFrameEnd_eq]
  obtain ⟨l, hl⟩ := statsFrameEnd_afu lineCount cut (frameClosed k b)
  exact ⟨l, Eq.trans (storeFrameEnd_same k cut _ _ (frameEnding k lineCount cut b) (f := .afu) (by decide)) hl⟩

theorem raiseFrameEnd_same {f : Fld} (h : f ∉ [.regs, .ntu, .ftu, .stu, .exu, .afu, .sbu, .fsu, .due]) :
    Agree b (raiseFrameEnd k lineCount cut b) f :=
  raiseFrameEnd_frame k lineCount cut (Among.refl _) (Changes.refl _ b) f h

variable {b}

/-- Stats-ready reaches the three lists. -/
theorem raiseFrameEnd_raises {g : Geom} {l : Latched} {f : StuFrame} (hg : b.stu.geom = some g)
    (hl : b.stu.latched = some l) (hf : b.stu.frame = some f) :
    let r := statsRecord b.stu g l f lineCount cut
    (raiseFrameEnd k lineCount cut b).exu = { b.exu with inbox := b.exu.inbox ++ [r] } ∧
    (raiseFrameEnd k lineCount cut b).afu = { b.afu with inbox := b.afu.inbox ++ [r] } ∧
    (raiseFrameEnd k lineCount cut b).fsu.inbox = b.fsu.inbox ++ [r] := by
  intro r
  have he : frameEnding k lineCount cut b =
      closeWindow k (raiseStats r { frameClosed k b with stu := { b.stu with frame := none, line := none } }) :=
    congrArg (closeWindow k) (statsFrameEnd_raises (b := frameClosed k b) hg hl hf lineCount cut)
  rw [raiseFrameEnd_eq]
  refine ⟨?_, ?_, ?_⟩
  · refine Eq.trans (storeFrameEnd_same k cut _ _ _ (f := .exu) (by decide)) ?_
    rw [he]
    rfl
  · refine Eq.trans (storeFrameEnd_same k cut _ _ _ (f := .afu) (by decide)) ?_
    rw [he]
    rfl
  · rw [storeFrameEnd_inbox, he]
    rfl

end FrameEnd

/-! ### The end of a line -/

/-- The frame in progress after its line in progress has ended. -/
def lineEnded (b : Block) (f : FrameProg) : FrameProg :=
  { f with linePx := none, done := f.done + 1, short := shortLine b f }

section LineEnd
variable {b : Block} {f : FrameProg}

theorem endLine_none (h : b.ftu.frame = none) : endLine b = b := by
  unfold endLine
  rw [h]

theorem endLine_idle (h : b.ftu.frame = some f) (hl : f.linePx = none) : endLine b = b := by
  unfold endLine
  rw [h]
  dsimp only
  rw [hl]

theorem endLine_busy {n : Nat} (h : b.ftu.frame = some f) (hl : f.linePx = some n) :
    endLine b = storeLineEnd (statsLineEnd { b with ftu := { b.ftu with frame := some (lineEnded b f) } }) := by
  unfold endLine
  rw [h]
  dsimp only
  rw [hl]
  rfl

theorem shortLine_of {n : Nat} (hl : f.linePx = some n) :
    shortLine b f = (f.short || decide (n < (b.ftu.fmt.map (·.width)).getD 0)) := by
  simp [shortLine, hl]

theorem endLine_same (b : Block) {f : Fld} (h : f ∉ [.regs, .ntu, .ftu, .stu, .fsu]) : Agree b (endLine b) f :=
  endLine_frame (Among.refl _) (Changes.refl _ b) f h

/-- The line that ends changes the timing unit only in its frame. -/
theorem endLine_ftu (h : b.ftu.frame = some f) :
    (endLine b).ftu = { b.ftu with frame := some (if f.linePx.isSome then lineEnded b f else f) } := by
  cases hl : f.linePx with
  | none =>
    rw [endLine_idle h hl]
    exact (congrArg (fun x => { b.ftu with frame := x }) h).trans rfl |>.symm ▸ rfl
  | some n =>
    rw [endLine_busy h hl]
    exact storeLineEnd_frame (fs := [.regs, .ntu, .stu, .fsu]) (by simp [Among])
      (statsLineEnd_frame (by simp [Among]) (Changes.refl _ _)) .ftu (by decide)

/-- The line that ends changes no frame of the statistics unit. -/
theorem statsLineEnd_stu (b : Block) :
    (statsLineEnd b).stu.geom = b.stu.geom ∧ (statsLineEnd b).stu.latched = b.stu.latched ∧
      (statsLineEnd b).stu.frame = b.stu.frame := by
  unfold statsLineEnd
  split
  · exact ⟨rfl, rfl, rfl⟩
  · exact ⟨rfl, rfl, rfl⟩

theorem endLine_stu (b : Block) :
    (endLine b).stu.geom = b.stu.geom ∧ (endLine b).stu.latched = b.stu.latched ∧
      (endLine b).stu.frame = b.stu.frame := by
  cases h : b.ftu.frame with
  | none =>
    rw [endLine_none h]
    exact ⟨rfl, rfl, rfl⟩
  | some f =>
    cases hl : f.linePx with
    | none =>
      rw [endLine_idle h hl]
      exact ⟨rfl, rfl, rfl⟩
    | some n =>
      rw [endLine_busy h hl, show (storeLineEnd _).stu = _ from
        storeLineEnd_frame (Among.refl _) (Changes.refl _ _) .stu (by decide)]
      exact statsLineEnd_stu _

theorem endLine_inbox (b : Block) : (endLine b).fsu.inbox = b.fsu.inbox := by
  cases h : b.ftu.frame with
  | none => rw [endLine_none h]
  | some f =>
    cases hl : f.linePx with
    | none => rw [endLine_idle h hl]
    | some n =>
      rw [endLine_busy h hl, storeLineEnd_inbox, show (statsLineEnd _).fsu = _ from
        statsLineEnd_frame (Among.refl _) (Changes.refl _ _) .fsu (by decide)]

end LineEnd

end Sys2Proof.Machine
end

section
/-!
Frame-start (R26) and the period capture (R25).
-/

namespace Sys2Proof.Machine

/-! ### The pipeline work of a frame-start (R30) -/

/-- Two timing units differ at most in the settings pipeline, its due entry and its link. -/
def SameButPipeline (a c : Ftu) : Prop := c = { a with pipeline := c.pipeline, dueEntry := c.dueEntry, link := c.link }

theorem SameButPipeline.trans {a c e : Ftu} (h : SameButPipeline a c) (g : SameButPipeline c e) : SameButPipeline a e := by
  unfold SameButPipeline at *
  exact g.trans (by rw [h])

theorem startSend_ftu (b : Block) : SameButPipeline b.ftu (startSend b).ftu := by
  unfold startSend
  split
  · rfl
  · split <;> rfl

theorem callEntry_ftu (d : DueEntry) (b : Block) : SameButPipeline b.ftu (callEntry d b).ftu := by
  unfold callEntry
  split
  · rfl
  · split
    · cases d with
      | create k => exact SameButPipeline.trans (c := { b.ftu with pipeline := _ }) rfl (startSend_ftu _)
      | copy e => rfl
    · rfl

theorem rekeyLate_ftu (k : Word) (b : Block) : SameButPipeline b.ftu (rekeyLate k b).ftu := by
  unfold rekeyLate
  dsimp only
  split
  · rfl
  · exact SameButPipeline.trans (c := { b.ftu with pipeline := _ }) rfl (callEntry_ftu _ _)

/-- A frame-start drops the entry that is due. -/
def dueDropped (b : Block) : Block :=
  { b with ftu := { b.ftu with dueEntry := none }, due := b.due.filter (· ≠ .dueEntry) }

/-- The entry of the frame becomes the current one. -/
def entryCurrent (k : Word) (b : Block) : Block :=
  { b with ftu := { b.ftu with
      pipeline := b.ftu.pipeline.map fun e => if e.k = k then { e with role := .current } else e } }

/-- The pipeline work but for the iris. -/
def pipelineMade (k : Word) (b : Block) : Block :=
  if findsLate b then entryCurrent k (rekeyLate k (dueDropped b))
  else callEntry (.create (k + BitVec.ofNat 32 (latencyOf b))) (entryCurrent k (dueDropped b))

theorem pipelineWork_eq (k : Word) (b : Block) :
    pipelineWork k b =
      match entryOf (pipelineMade k b) (k + 1) with
      | some e => irisRequest e.c (pipelineMade k b)
      | none => pipelineMade k b := by
  have hdrop : dropDue .dueEntry (setFtu (fun u => { u with dueEntry := none }) b) = dueDropped b := dropDue_eq _ _
  unfold pipelineWork pipelineMade
  rw [hdrop]
  dsimp only
  rw [show findsLate (dueDropped b) = findsLate b from rfl]
  cases findsLate b <;> rfl

theorem findsLate_iff (b : Block) : findsLate b = true ↔ ¬∀ e ∈ b.ftu.pipeline, e.send = .acknowledged := by
  simp [findsLate, Entry.isLate]

theorem pipelineMade_ftu (k : Word) (b : Block) : SameButPipeline b.ftu (pipelineMade k b).ftu := by
  unfold pipelineMade
  split
  · exact (rekeyLate_ftu k (dueDropped b)).trans rfl
  · exact (callEntry_ftu _ (entryCurrent k (dueDropped b)))

theorem pipelineWork_ftu (k : Word) (b : Block) : SameButPipeline b.ftu (pipelineWork k b).ftu := by
  have hiris : ∀ c, (irisRequest c (pipelineMade k b)).ftu = (pipelineMade k b).ftu := fun c =>
    irisRequest_frame c (Among.refl _) (Changes.refl _ _) .ftu (by decide)
  rw [pipelineWork_eq]
  split
  · rw [hiris]
    exact pipelineMade_ftu k b
  · exact pipelineMade_ftu k b

theorem pipelineWork_same (k : Word) (b : Block) {f : Fld} (h : f ∉ [.ftu, .iris, .due]) : Agree b (pipelineWork k b) f :=
  pipelineWork_frame k (Among.refl _) (Changes.refl _ b) f h

/-! ### Frame-start -/

/-- The frame that a frame-start begins. -/
def freshFrame (k : Word) : FrameProg :=
  { k := k, ls := 0, done := 0, linePx := none, short := false, ended := false, opened := false }

/-- The frame numbers advance, and the frame begins. -/
def frameBegun (k : Word) (b : Block) : Block :=
  { b with ftu := { b.ftu with frameNo := k, frameStarts := k + 1, frame := some (freshFrame k) } }

/-- The steps of a frame-start but for the swap of tables. -/
def frameWork (k : Word) (untimed jump : Bool) (b : Block) : Block :=
  capFrameStart k jump (readQ (requestMirror (statsFrameStart k jump untimed (pipelineWork k (frameBegun k b)))))

theorem frameStart_swapLast (untimed jump : Bool) (b : Block) :
    frameStart untimed jump false b =
      swapTables (some b.ftu.frameStarts) (frameWork b.ftu.frameStarts untimed jump b) := rfl

theorem frameStart_swapFirst (untimed jump : Bool) (b : Block) :
    frameStart untimed jump true b =
      frameWork b.ftu.frameStarts untimed jump (swapTables (some b.ftu.frameStarts) b) := rfl

/-- The statistics unit after a frame-start (R39, R41). -/
def stuStarted (k : Word) (jump untimed : Bool) (b : Block) : Stu :=
  { b.stu with
    latched := some { black := b.exu.prm.black, clip := b.exu.prm.clip, window := b.stu.window, coring := b.stu.coring }
    frame := some { k := k, periodJump := jump, untimed := untimed }
    zoneSums := List.replicate 64 0, focusAcc := 0, line := none }

theorem statsFrameStart_eq (k : Word) (jump untimed : Bool) (b : Block) :
    statsFrameStart k jump untimed b = { b with stu := stuStarted k jump untimed b } := rfl

theorem readAt_congr {a b : Block} (h : a.regs = b.regs) (o n : Nat) : readAt a o n = readAt b o n := by
  have hb : windowBase a = windowBase b := by
    simp only [windowBase, h]
  have hw : windowBytes a = windowBytes b := by
    simp only [windowBytes, h]
  unfold readAt accessAddr inWindow
  rw [hb, hw]

theorem attachRequest_acc (k : Word) (l : List QRead) : (attachRequest k l).map (·.acc) = l.map (·.acc) := by
  unfold attachRequest
  split
  · next h => rw [List.reverse_eq_nil_iff.1 h]
  · next q rest h =>
    rw [← List.reverse_reverse l, h]
    simp

/-- The reads of Q in flight stay; at most a request joins the newest one. -/
def SameReads (b c : Block) : Prop := c.fsu.qReads.map (·.acc) = b.fsu.qReads.map (·.acc)

theorem dropPassedNotes_reads (k : Word) (b : Block) : SameReads b (dropPassedNotes k b) := by
  unfold dropPassedNotes
  split <;> rfl

theorem candidate_reads (k : Word) (jump : Bool) (b : Block) : SameReads b (candidate k jump b) := by
  unfold candidate
  dsimp only
  split
  · exact dropPassedNotes_reads k b
  · split
    · exact dropPassedNotes_reads k (skipOther b)
    · exact attachRequest_acc k _

theorem capFrameStart_reads (k : Word) (jump : Bool) (b : Block) : SameReads b (capFrameStart k jump b) := by
  have hdue : ∀ c : Block, SameReads c (markDue .captureMaxWait c) := by
    intro c
    simp [SameReads]
  unfold capFrameStart
  dsimp only
  split
  · split
    · exact dropPassedNotes_reads k b
    · split
      · exact candidate_reads k jump _
      · split
        · exact candidate_reads k jump _
        · split
          · exact hdue _
          · exact dropPassedNotes_reads k _
  · exact candidate_reads k jump b
  · exact dropPassedNotes_reads k b

section FrameWork
variable (k : Word) (untimed jump : Bool) (b : Block)

theorem frameWork_same {f : Fld} (h : f ∉ [.ple, .ftu, .stu, .iris, .cap, .fsu, .due]) :
    Agree b (frameWork k untimed jump b) f := by
  refine capFrameStart_frame (fs := [.ple, .ftu, .stu, .iris, .cap, .fsu, .due]) k jump (by simp [Among]) ?_ f h
  refine readQ_frame (by simp [Among]) (requestMirror_frame (by simp [Among]) ?_)
  refine statsFrameStart_frame k jump untimed (by simp [Among]) (pipelineWork_frame k (by simp [Among]) ?_)
  exact changes_ftu (Changes.refl _ b) (by decide)

theorem frameWork_ftu : SameButPipeline (frameBegun k b).ftu (frameWork k untimed jump b).ftu := by
  have hlate : (frameWork k untimed jump b).ftu = (pipelineWork k (frameBegun k b)).ftu := by
    refine capFrameStart_frame (fs := [.ple, .stu, .cap, .fsu, .due]) k jump (by simp [Among]) ?_ .ftu (by decide)
    refine readQ_frame (by simp [Among]) (requestMirror_frame (by simp [Among]) ?_)
    exact statsFrameStart_frame k jump untimed (by simp [Among]) (Changes.refl _ _)
  rw [hlate]
  exact pipelineWork_ftu k (frameBegun k b)

theorem frameWork_stu : (frameWork k untimed jump b).stu = stuStarted k jump untimed b := by
  have hlate : (frameWork k untimed jump b).stu = (statsFrameStart k jump untimed (pipelineWork k (frameBegun k b))).stu := by
    refine capFrameStart_frame (fs := [.ple, .cap, .fsu, .due]) k jump (by simp [Among]) ?_ .stu (by decide)
    exact readQ_frame (by simp [Among]) (requestMirror_frame (by simp [Among]) (Changes.refl _ _))
  have hstu : (pipelineWork k (frameBegun k b)).stu = b.stu := pipelineWork_same k (frameBegun k b) (f := .stu) (by decide)
  have hexu : (pipelineWork k (frameBegun k b)).exu = b.exu := pipelineWork_same k (frameBegun k b) (f := .exu) (by decide)
  rw [hlate, statsFrameStart_eq]
  simp only [stuStarted, hstu, hexu]

theorem frameWork_reads :
    (frameWork k untimed jump b).fsu.qReads.map (·.acc) = b.fsu.qReads.map (·.acc) ++ [readAt b 0x004 4] := by
  have hfsu : (requestMirror (statsFrameStart k jump untimed (pipelineWork k (frameBegun k b)))).fsu = b.fsu :=
    requestMirror_frame (fs := [.ple, .ftu, .stu, .iris, .due]) (by simp [Among])
      (statsFrameStart_frame k jump untimed (by simp [Among]) (pipelineWork_frame k (by simp [Among])
        (changes_ftu (Changes.refl _ b) (by decide)))) .fsu (by decide)
  have hregs : (requestMirror (statsFrameStart k jump untimed (pipelineWork k (frameBegun k b)))).regs = b.regs :=
    requestMirror_frame (fs := [.ple, .ftu, .stu, .iris, .due]) (by simp [Among])
      (statsFrameStart_frame k jump untimed (by simp [Among]) (pipelineWork_frame k (by simp [Among])
        (changes_ftu (Changes.refl _ b) (by decide)))) .regs (by decide)
  refine (capFrameStart_reads k jump _).trans ?_
  unfold readQ
  rw [setFsu_fsu, List.map_append, hfsu, readAt_congr hregs]
  rfl

theorem swapTables_same (x : Option Word) (b : Block) {f : Fld} (h : f ∉ [.ple, .zoom, .focus, .zmap, .due]) :
    Agree b (swapTables x b) f :=
  swapTables_frame x (Among.refl _) (Changes.refl _ b) f h

/-- What a frame-start leaves in the timing unit, the statistics unit and the reads of Q, whenever the swap is made. -/
theorem frameStart_spec (swapFirst : Bool) :
    let b' := frameStart untimed jump swapFirst b
    SameButPipeline (frameBegun b.ftu.frameStarts b).ftu b'.ftu ∧
    b'.stu = stuStarted b.ftu.frameStarts jump untimed b ∧
    b'.fsu.qReads.map (·.acc) = b.fsu.qReads.map (·.acc) ++ [readAt b 0x004 4] := by
  intro b'
  cases swapFirst with
  | false =>
    have hsame : ∀ {f : Fld}, f ∉ [.ple, .zoom, .focus, .zmap, .due] →
        Agree (frameWork b.ftu.frameStarts untimed jump b) b' f := swapTables_same _ _
    refine ⟨?_, ?_, ?_⟩
    · rw [show b'.ftu = _ from hsame (f := .ftu) (by decide)]
      exact frameWork_ftu _ _ _ b
    · exact Eq.trans (hsame (f := .stu) (by decide)) (frameWork_stu _ _ _ b)
    · rw [show b'.fsu = _ from hsame (f := .fsu) (by decide)]
      exact frameWork_reads _ _ _ b
  | true =>
    let c := swapTables (some b.ftu.frameStarts) b
    have hsame : ∀ {f : Fld}, f ∉ [.ple, .zoom, .focus, .zmap, .due] → Agree b c f := swapTables_same _ _
    have hftu : c.ftu = b.ftu := hsame (f := .ftu) (by decide)
    have hstu : c.stu = b.stu := hsame (f := .stu) (by decide)
    have hexu : c.exu = b.exu := hsame (f := .exu) (by decide)
    have hfsu : c.fsu = b.fsu := hsame (f := .fsu) (by decide)
    have hregs : c.regs = b.regs := hsame (f := .regs) (by decide)
    have hb' : b' = frameWork b.ftu.frameStarts untimed jump c := rfl
    refine ⟨?_, ?_, ?_⟩
    · have hbegun : (frameBegun b.ftu.frameStarts c).ftu = (frameBegun b.ftu.frameStarts b).ftu := by
        simp only [frameBegun, hftu]
      rw [hb', ← hbegun]
      exact frameWork_ftu _ _ _ c
    · rw [hb', frameWork_stu]
      simp only [stuStarted, hstu, hexu]
    · rw [hb', frameWork_reads, hfsu, readAt_congr hregs]

theorem frameStart_same (swapFirst : Bool) {f : Fld} (h : f ∉ [.ple, .ftu, .stu, .zoom, .focus, .iris, .zmap, .cap, .fsu, .due]) :
    Agree b (frameStart untimed jump swapFirst b) f :=
  frameStart_frame untimed jump swapFirst (Among.refl _) (Changes.refl _ b) f h

end FrameWork

/-! ### The frame-start that begins MEASURING -/

/-- The block in which a frame-start out of WAITING_SYNC or LOST is made. -/
def measuringBegun (b : Block) : Block :=
  { b with
    ftu := { b.ftu with stream := .measuring, syncTimer := true, periodRun := true, period := 0 }
    ntu := if b.ftu.stream = .lost then { b.ntu with syncLost := false } else b.ntu }

theorem frameSync_measuringBegun {b : Block} (h : b.ftu.stream = .waitingSync ∨ b.ftu.stream = .lost) (n : Nat) (w : Bool) :
    frameSync n w b = frameStart true false w (measuringBegun b) := by
  unfold frameSync measuringBegun
  rcases h with h | h <;> rw [h] <;> rfl

theorem pipelineWork_cases (b : Block) (k : Word) :
    let l := BitVec.ofNat 32 ((b.ftu.fmt.map (·.latency)).getD 0)
    let c :=
      if ∀ e ∈ b.ftu.pipeline, e.send = .acknowledged then callEntry (.create (k + l)) (entryCurrent k (dueDropped b))
      else entryCurrent k (rekeyLate k (dueDropped b))
    (∀ e, entryOf c (k + 1) = some e → pipelineWork k b = irisRequest e.c c) ∧
    (entryOf c (k + 1) = none → pipelineWork k b = c) := by
  intro l c
  have hc : c = pipelineMade k b := by
    unfold pipelineMade
    by_cases h : ∀ e ∈ b.ftu.pipeline, e.send = .acknowledged
    · rw [if_neg fun hl => (findsLate_iff b).1 hl h]
      exact if_pos h
    · rw [if_pos ((findsLate_iff b).2 h)]
      exact if_neg h
  rw [hc]
  refine ⟨fun e he => ?_, fun he => ?_⟩ <;> rw [pipelineWork_eq, he]

/-- Settles O36. -/
theorem frameSyncStartsMeasuring : Obligations.FrameSyncStartsMeasuring := by
  refine ⟨fun s b n w hs h => ?_, fun b untimed jump => ⟨rfl, rfl⟩, pipelineWork_cases⟩
  have hrun : Runs (.frameSync n w) s (frameStart true false w (measuringBegun b)) :=
    (runs_frameSync n w hs).of_eq (frameSync_measuringBegun h n w)
  obtain ⟨hftu, hstu, hreads⟩ := frameStart_spec true false (measuringBegun b) w
  have hsame := @frameStart_same true false (measuringBegun b) w
  refine ⟨hrun, _, hrun, ?_, ?_, ?_, ?_, ?_, ?_, ?_, ?_, ?_, ?_, ?_, ?_, ?_, fun hl => ?_, ?_, ?_, ?_, ?_⟩
  iterate 10 rw [hftu]; rfl
  iterate 3 rw [hstu]; rfl
  · rw [show (frameStart true false w (measuringBegun b)).ntu = _ from hsame (f := .ntu) (by decide)]
    simp [measuringBegun, hl]
  · exact hreads
  · exact hsame (f := .regs) (by decide)
  · exact hsame (f := .sbu) (by decide)
  · exact hsame (f := .exu) (by decide)

end Sys2Proof.Machine
end

section
/-!
The period capture (R25), and what an FS does to the frame in progress (R26 to R29).
-/

namespace Sys2Proof.Machine

/-! ### The frame in progress is finished -/

/-- Two timing units differ at most in the frame in progress and the entries. -/
def SameButFrame (a c : Ftu) : Prop := c = { a with frame := c.frame, pipeline := c.pipeline }

theorem SameButFrame.trans {a c e : Ftu} (h : SameButFrame a c) (g : SameButFrame c e) : SameButFrame a e := by
  unfold SameButFrame at *
  exact g.trans (by rw [h])

theorem endLine_sameButFrame (b : Block) : SameButFrame b.ftu (endLine b).ftu := by
  cases h : b.ftu.frame with
  | none =>
    rw [endLine_none h]
    rfl
  | some f =>
    rw [endLine_ftu h]
    rfl

theorem raiseFrameEnd_sameButFrame (k : Word) (lineCount cut : Bool) (b : Block) :
    SameButFrame b.ftu (raiseFrameEnd k lineCount cut b).ftu := by
  obtain ⟨l, hl, _⟩ := raiseFrameEnd_ftu k lineCount cut b
  rw [hl]
  rfl

theorem raiseWindowOpen_ftu (f : FrameProg) (b : Block) :
    (raiseWindowOpen f b).ftu = { b.ftu with frame := some { f with opened := true } } :=
  Eq.trans (windowOpen_frame (f.k + 1) (Among.refl _) (Changes.refl _ _) .ftu (by decide)) rfl

/-- The frame in progress ends short unless it has ended. -/
def frameFinished (b : Block) : Block :=
  match b.ftu.frame with
  | some f => if f.ended then b else raiseFrameEnd f.k true false b
  | none => b

/-- The window-open of the next frame is raised unless it has been. -/
def windowFinished (b : Block) : Block :=
  match b.ftu.frame with
  | some f => if f.opened = false ∧ (entryOf b (f.k + 1)).isSome then raiseWindowOpen f b else b
  | none => b

theorem finishFrame_eq (b : Block) : finishFrame b = windowFinished (frameFinished (endLine b)) := rfl

theorem finishFrame_sameButFrame (b : Block) : SameButFrame b.ftu (finishFrame b).ftu := by
  have hend : ∀ c : Block, SameButFrame c.ftu (frameFinished c).ftu := by
    intro c
    unfold frameFinished
    split
    · split
      · rfl
      · exact raiseFrameEnd_sameButFrame _ _ _ c
    · rfl
  have hopen : ∀ c : Block, SameButFrame c.ftu (windowFinished c).ftu := by
    intro c
    unfold windowFinished
    split
    · split
      · rw [raiseWindowOpen_ftu]
        rfl
      · rfl
    · rfl
  exact ((endLine_sameButFrame b).trans (hend _)).trans (hopen _)

section FinishFrame
variable {b : Block} {f : FrameProg}

theorem finishFrame_line {n : Nat} (h : b.ftu.frame = some f) (hl : f.linePx = some n) :
    finishFrame b =
      finishFrame (storeLineEnd (statsLineEnd { b with ftu := { b.ftu with
        frame := some { f with
          linePx := none, done := f.done + 1
          short := f.short || decide (n < (b.ftu.fmt.map (·.width)).getD 0) } } })) := by
  have hline : (endLine b).ftu.frame = some (lineEnded b f) := by
    rw [endLine_ftu h, hl]
    rfl
  have hagain : endLine (endLine b) = endLine b := endLine_idle hline rfl
  rw [← shortLine_of (b := b) hl, show FrameProg.mk .. = lineEnded b f from rfl, ← endLine_busy h hl, finishFrame_eq,
    finishFrame_eq, hagain]

section Idle
variable (h : b.ftu.frame = some f) (hl : f.linePx = none)
include h hl

theorem finishFrame_idle : finishFrame b = windowFinished (frameFinished b) := by
  rw [finishFrame_eq, endLine_idle h hl]

theorem finishFrame_nothing (he : f.ended = true) (ho : f.opened = true ∨ entryOf b (f.k + 1) = none) :
    finishFrame b = b := by
  rw [finishFrame_idle h hl]
  unfold frameFinished
  rw [h]
  dsimp only
  rw [if_pos he]
  unfold windowFinished
  rw [h]
  dsimp only
  refine if_neg fun hc => ?_
  rcases ho with ho | ho
  · exact Bool.false_ne_true (hc.1.symm.trans ho)
  · exact Option.isSome_iff_ne_none.1 hc.2 ho

theorem finishFrame_window (he : f.ended = true) (ho : f.opened = false) (hn : entryOf b (f.k + 1) ≠ none) :
    finishFrame b = raiseWindowOpen f b := by
  rw [finishFrame_idle h hl]
  unfold frameFinished
  rw [h]
  dsimp only
  rw [if_pos he]
  unfold windowFinished
  rw [h]
  exact if_pos ⟨ho, Option.isSome_iff_ne_none.2 hn⟩

theorem finishFrame_ends (he : f.ended = false) :
    finishFrame b = windowFinished (raiseFrameEnd f.k true false b) := by
  rw [finishFrame_idle h hl]
  unfold frameFinished
  rw [h]
  dsimp only
  rw [he]
  rfl

omit hl in
theorem raiseFrameEnd_frame_of :
    (raiseFrameEnd f.k true false b).ftu.frame = some { f with ended := true } := by
  obtain ⟨l, hr, _⟩ := raiseFrameEnd_ftu f.k true false b
  rw [hr]
  exact congrArg (Option.map fun f : FrameProg => { f with ended := true }) h

theorem finishFrame_ends_opened (he : f.ended = false) (ho : f.opened = true) :
    finishFrame b = raiseFrameEnd f.k true false b := by
  rw [finishFrame_ends h hl he]
  unfold windowFinished
  rw [raiseFrameEnd_frame_of h]
  refine if_neg fun hc => ?_
  exact Bool.false_ne_true (hc.1.symm.trans ho)

theorem finishFrame_ends_noEntry (he : f.ended = false)
    (hn : entryOf (raiseFrameEnd f.k true false b) (f.k + 1) = none) :
    finishFrame b = raiseFrameEnd f.k true false b := by
  rw [finishFrame_ends h hl he]
  unfold windowFinished
  rw [raiseFrameEnd_frame_of h]
  refine if_neg fun hc => ?_
  exact absurd hn (Option.isSome_iff_ne_none.1 hc.2)

theorem finishFrame_ends_window (he : f.ended = false) (ho : f.opened = false)
    (hn : entryOf (raiseFrameEnd f.k true false b) (f.k + 1) ≠ none) :
    finishFrame b = raiseWindowOpen { f with ended := true } (raiseFrameEnd f.k true false b) := by
  rw [finishFrame_ends h hl he]
  unfold windowFinished
  rw [raiseFrameEnd_frame_of h]
  exact if_pos ⟨ho, Option.isSome_iff_ne_none.2 hn⟩

end Idle

end FinishFrame

/-! ### The period capture -/

section Period
variable {b : Block} {n p : Nat} {fmt : StreamParams} {jump : Bool}

/-- The period of an FS whose count is n (R25). -/
def periodAt (b : Block) (n : Nat) : Nat := if b.ftu.period = 120000000 then 120000000 else min n 120000000

/-- The period has jumped (R25). -/
def PeriodJumped (b : Block) (p : Nat) : Prop := ∃ q, b.ftu.prevPeriod = some q ∧ q < (max (p - q) (q - p)) * 8

theorem newPeriod_eq {u : Ftu} (h : SameButFrame b.ftu u) (n : Nat) : newPeriod u n = periodAt b n := by
  rw [h]
  rfl

theorem periodJumps_iff {u : Ftu} (h : SameButFrame b.ftu u) : periodJumps u p = true ↔ PeriodJumped b p := by
  rw [h]
  unfold periodJumps PeriodJumped
  dsimp only
  split
  · next hn => simp [hn]
  · next q hq => simp [hq]

theorem jumpMark_iff {u : Ftu} (h : SameButFrame b.ftu u) :
    jumpMark u p = true ↔ b.ftu.lineMeasured = true ∧ PeriodJumped b p := by
  rw [jumpMark, Bool.and_eq_true, periodJumps_iff h, show u.lineMeasured = b.ftu.lineMeasured by rw [h]]

/-- The block of an FS after the capture, before its frame-start. -/
def periodCaptured (b u : Block) (jump : Bool) (p : Nat) (fmt : StreamParams) : Block :=
  { u with ftu := { u.ftu with
      stream := .running, syncTimer := true, periodRun := true, period := 0, prevPeriod := some p
      lineMeasured := true, lineTime := if jump then b.ftu.lineTime else p / fmt.lines } }

theorem lineTimeAfter_eq {u : Ftu} (h : SameButFrame b.ftu u) (lines : Nat)
    (hj : jump = true ↔ b.ftu.lineMeasured = true ∧ PeriodJumped b p) :
    lineTimeAfter u lines p = if jump then b.ftu.lineTime else p / lines := by
  have hm : u.lineMeasured = b.ftu.lineMeasured := by rw [h]
  have hp : u.prevPeriod = b.ftu.prevPeriod := by rw [h]
  have ht : u.lineTime = b.ftu.lineTime := by rw [h]
  unfold lineTimeAfter
  rw [hm, hp, ht]
  by_cases hc : b.ftu.lineMeasured = true ∧ PeriodJumped b p
  · obtain ⟨hmeas, q, hq, hlt⟩ := hc
    rw [if_neg (by simp [hmeas, hq]), if_pos ((periodJumps_iff h).2 ⟨q, hq, hlt⟩), if_pos (hj.2 ⟨hmeas, q, hq, hlt⟩)]
  · rw [if_neg fun hjt => hc (hj.1 hjt)]
    split
    · rfl
    · next hnot =>
      refine if_neg fun hjump => hc ⟨?_, (periodJumps_iff h).1 hjump⟩
      simpa using fun hf => hnot (.inl hf)

theorem capturePeriod_eq (hf : b.ftu.fmt = some fmt)
    (hj : jump = true ↔ b.ftu.lineMeasured = true ∧ PeriodJumped b (periodAt b n)) :
    setFtu (fun u => { capturePeriod n u with stream := .running, syncTimer := true }) (finishFrame b) =
      periodCaptured b (finishFrame b) jump (periodAt b n) fmt := by
  have hsame := finishFrame_sameButFrame b
  have hfmt : (finishFrame b).ftu.fmt = some fmt := by rw [hsame]; exact hf
  unfold setFtu capturePeriod periodCaptured
  dsimp only
  rw [newPeriod_eq hsame, hfmt, ← lineTimeAfter_eq hsame _ hj]
  rfl

theorem frameSync_running (hf : b.ftu.fmt = some fmt) (hr : b.ftu.stream = .running)
    (hj : jump = true ↔ b.ftu.lineMeasured = true ∧ PeriodJumped b (periodAt b n)) (w : Bool) :
    frameSync n w b = frameStart false jump w (periodCaptured b (finishFrame b) jump (periodAt b n) fmt) := by
  have hsame := finishFrame_sameButFrame b
  have hstream : (finishFrame b).ftu.stream = .running := by rw [hsame]; exact hr
  have hjump : jumpMark (finishFrame b).ftu (newPeriod (finishFrame b).ftu n) = jump := by
    rw [newPeriod_eq hsame, Bool.eq_iff_iff, jumpMark_iff hsame, hj]
  have hcap : setFtu (fun u => { capturePeriod n u with syncTimer := true }) (finishFrame b) =
      periodCaptured b (finishFrame b) jump (periodAt b n) fmt := by
    rw [← capturePeriod_eq hf hj]
    unfold setFtu capturePeriod
    dsimp only
    rw [hstream]
  unfold frameSync
  rw [hr]
  dsimp only
  rw [hjump, hcap]

theorem frameSync_measured (hf : b.ftu.fmt = some fmt) (hr : b.ftu.stream = .measuring)
    (hj : jump = true ↔ b.ftu.lineMeasured = true ∧ PeriodJumped b (periodAt b n)) (w : Bool) :
    frameSync n w b =
      streamStarted (frameStart true jump w (periodCaptured b (finishFrame b) jump (periodAt b n) fmt)) := by
  have hsame := finishFrame_sameButFrame b
  have hjump : jumpMark (finishFrame b).ftu (newPeriod (finishFrame b).ftu n) = jump := by
    rw [newPeriod_eq hsame, Bool.eq_iff_iff, jumpMark_iff hsame, hj]
  unfold frameSync
  rw [hr]
  dsimp only
  rw [hjump, capturePeriod_eq hf hj]

/-- The report of a STREAM start gives the line time and the period of the capture. -/
theorem streamStarted_eq (u : Block) (w : Bool) :
    let c := periodCaptured b u jump p fmt
    streamStarted (frameStart true jump w c) =
      endPlan .streamStart .done .ok (leBytes 4 c.ftu.lineTime) (streamArea p) (frameStart true jump w c) := by
  intro c
  obtain ⟨hftu, _, _⟩ := frameStart_spec true jump c w
  unfold streamStarted
  rw [show (frameStart true jump w c).ftu.lineTime = c.ftu.lineTime by rw [hftu]; rfl,
    show (frameStart true jump w c).ftu.prevPeriod = some p by rw [hftu]; rfl]
  rfl

/-- The block after an FS in MEASURING or RUNNING. -/
theorem frameSync_captured (hf : b.ftu.fmt = some fmt) (hs : b.ftu.stream = .measuring ∨ b.ftu.stream = .running)
    (hj : jump = true ↔ b.ftu.lineMeasured = true ∧ PeriodJumped b (periodAt b n)) (w : Bool) :
    let c := periodCaptured b (finishFrame b) jump (periodAt b n) fmt
    let b' := frameSync n w b
    SameButPipeline (frameBegun c.ftu.frameStarts c).ftu b'.ftu ∧
      b'.stu = stuStarted c.ftu.frameStarts jump (decide (b.ftu.stream = .measuring)) c := by
  intro c b'
  rcases hs with hs | hs
  · have hb' : b' = streamStarted (frameStart true jump w c) := frameSync_measured hf hs hj w
    have hsame : ∀ {x : Fld}, x ∉ [.ple, .due] → Agree (frameStart true jump w c) b' x := by
      intro x hx
      rw [hb']
      exact streamStarted_frame (Among.refl _) (Changes.refl _ _) x hx
    obtain ⟨hftu, hstu, _⟩ := frameStart_spec true jump c w
    rw [show b'.ftu = _ from hsame (x := .ftu) (by decide), show b'.stu = _ from hsame (x := .stu) (by decide), hs]
    exact ⟨hftu, hstu⟩
  · have hb' : b' = frameStart false jump w c := frameSync_running hf hs hj w
    obtain ⟨hftu, hstu, _⟩ := frameStart_spec false jump c w
    rw [hb', hs]
    exact ⟨hftu, hstu⟩

end Period

/-- Settles O37. -/
theorem frameSyncCapturesPeriod : Obligations.FrameSyncCapturesPeriod := by
  classical
  refine ⟨fun s b n w fmt hs hf hstream => ?_, fun b f n h hl => finishFrame_line h hl, fun b f h hl =>
    ⟨finishFrame_nothing h hl, finishFrame_window h hl, finishFrame_ends_opened h hl, fun he ho =>
      ⟨finishFrame_ends_noEntry h hl he, finishFrame_ends_window h hl he ho⟩⟩⟩
  intro p jumped
  constructor
  · intro jump hj u c
    exact ⟨fun hr => (runs_frameSync n w hs).of_eq (frameSync_running hf hr hj w),
      fun hm => (runs_frameSync n w hs).of_eq ((frameSync_measured hf hm hj w).trans (streamStarted_eq (finishFrame b) w))⟩
  · let jump := decide (b.ftu.lineMeasured = true ∧ PeriodJumped b p)
    have hj : jump = true ↔ b.ftu.lineMeasured = true ∧ PeriodJumped b p := decide_eq_true_iff
    have hframe := finishFrame_sameButFrame b
    have hstarts : (finishFrame b).ftu.frameStarts = b.ftu.frameStarts := by rw [hframe]
    obtain ⟨hftu, hstu⟩ := frameSync_captured hf hstream hj w
    refine ⟨_, runs_frameSync n w hs, ?_, ?_, ?_, ?_, ?_, ?_, fun hno => ?_, fun hmeas hjump => ?_, ?_, ?_, ?_, ?_⟩
    iterate 4 rw [hftu]; rfl
    · rw [hftu]
      exact hstarts
    · rw [hftu]
      exact congrArg (· + 1) hstarts
    · rw [hftu]
      refine if_neg fun hc => ?_
      obtain ⟨hm, hp⟩ := hj.1 hc
      rcases hno with hno | hno
      · exact Bool.false_ne_true (hno.symm.trans hm)
      · exact hno hp
    · rw [hftu]
      exact if_pos (hj.2 ⟨hmeas, hjump⟩)
    · rw [hstu]
      exact congrArg some hstarts
    · rw [hstu]
      exact Option.some_inj.trans hj
    · rw [hstu]
      rfl
    · exact (frameSync_kept n w (Kept.refl b)).run

end Sys2Proof.Machine
end

section
/-!
An LS pulse (R27 to R29): the line that ends, the frame-end, the line that begins, the window-open.
-/

namespace Sys2Proof.Machine

/-! ### Lines that are taken -/

theorem takeLine_length (width : Nat) (px : List Pixel) : (takeLine width px).length = width := by
  simp only [takeLine, List.length_take, List.length_append, List.length_replicate]
  omega

theorem takeLine_getElem? {width x : Nat} (h : x < width) (px : List Pixel) :
    (takeLine width px)[x]? = some (px.getD x 0#12) := by
  rw [takeLine, List.getElem?_take_of_lt h]
  by_cases hx : x < px.length
  · rw [List.getElem?_append_left hx, List.getD_eq_getElem?_getD, List.getElem?_eq_getElem hx]
    rfl
  · have hle : px.length ≤ x := Nat.le_of_not_lt hx
    rw [List.getElem?_append_right hle, List.getD_eq_getElem?_getD, List.getElem?_eq_none hle,
      List.getElem?_replicate, if_pos (by omega)]
    rfl

theorem storeLineBegin_takes {b : Block} {f : StoreFrame} (hc : b.fsu.cur = some f) (he : f.frameEnded = false)
    (ho : b.fsu.overrun = false) (width : Nat) (px : List Pixel) :
    storeLineBegin f.k width px b = { b with fsu := { b.fsu with line := some (takeLine width px) } } := by
  refine if_pos ?_
  simp [takesLines, hc, he, ho]

theorem storeLineBegin_passes {b : Block} {k : Word}
    (h : ∀ f, b.fsu.cur = some f → f.k ≠ k ∨ f.frameEnded = true ∨ b.fsu.overrun = true) (width : Nat) (px : List Pixel) :
    storeLineBegin k width px b = b := by
  refine if_neg ?_
  cases hc : b.fsu.cur with
  | none => simp [takesLines, hc]
  | some f =>
    rcases h f hc with h | h | h <;> simp [takesLines, hc, h]

theorem storeLineBegin_inbox (k : Word) (width : Nat) (px : List Pixel) (b : Block) :
    (storeLineBegin k width px b).fsu.inbox = b.fsu.inbox := by
  unfold storeLineBegin
  split <;> rfl

/-! ### The frame-end of an LS -/

theorem raiseFrameEnd_exu (k : Word) (lineCount cut : Bool) (b : Block) :
    ∃ l, (raiseFrameEnd k lineCount cut b).exu = { b.exu with inbox := l } := by
  have hexu : ∃ l, (statsFrameEnd lineCount cut (frameClosed k b)).exu = { b.exu with inbox := l } := by
    unfold statsFrameEnd
    dsimp only
    split
    · exact ⟨_, rfl⟩
    · exact ⟨b.exu.inbox, rfl⟩
  obtain ⟨l, hl⟩ := hexu
  rw [raiseFrameEnd_eq]
  exact ⟨l, Eq.trans (storeFrameEnd_same k cut _ _ (frameEnding k lineCount cut b) (f := .exu) (by decide)) hl⟩

section LineStages
variable {b : Block} {f : FrameProg} (fmt : StreamParams) {j : Nat} (px : List Pixel)

theorem lineFrameEnd_ends (h : b.ftu.frame = some f) (hj : j = fmt.active) (he : f.ended = false) :
    lineFrameEnd fmt j b = raiseFrameEnd f.k f.short false b := by
  unfold lineFrameEnd
  rw [h]
  exact if_pos ⟨hj, he⟩

theorem lineFrameEnd_passes (h : b.ftu.frame = some f) (hj : j ≠ fmt.active ∨ f.ended = true) :
    lineFrameEnd fmt j b = b := by
  unfold lineFrameEnd
  rw [h]
  refine if_neg fun hc => ?_
  rcases hj with hj | hj
  · exact hj hc.1
  · exact Bool.false_ne_true (hc.2.symm.trans hj)

theorem beginLine_counts (h : b.ftu.frame = some f) (hj : j < fmt.active) (he : f.ended = false) :
    beginLine fmt j px b =
      storeLineBegin f.k fmt.width px
        (statsLineBegin j px { b with ftu := { b.ftu with frame := some { f with linePx := some px.length } } }) := by
  unfold beginLine
  rw [h]
  exact if_pos ⟨hj, he⟩

theorem beginLine_passes (h : b.ftu.frame = some f) (hj : fmt.active ≤ j ∨ f.ended = true) :
    beginLine fmt j px b = b := by
  unfold beginLine
  rw [h]
  refine if_neg fun hc => ?_
  rcases hj with hj | hj
  · exact absurd hc.1 (Nat.not_lt.2 hj)
  · exact Bool.false_ne_true (hc.2.symm.trans hj)

theorem lineWindowOpen_noEntry (h : b.ftu.frame = some f) (he : entryOf b (f.k + 1) = none) :
    lineWindowOpen fmt j b = b := by
  unfold lineWindowOpen
  rw [h]
  dsimp only
  rw [he]

/-- The frame of the timing unit after an active line may have begun. -/
def lineBegun (fmt : StreamParams) (j : Nat) (px : List Pixel) (f : FrameProg) : FrameProg :=
  if j < fmt.active ∧ f.ended = false then { f with linePx := some px.length } else f

theorem beginLine_spec (h : b.ftu.frame = some f) :
    let c := beginLine fmt j px b
    c.ftu = { b.ftu with frame := some (lineBegun fmt j px f) } ∧ c.exu = b.exu ∧ c.afu = b.afu ∧
      c.fsu.inbox = b.fsu.inbox := by
  intro c
  have hexu : c.exu = b.exu := beginLine_frame fmt j px (Among.refl _) (Changes.refl _ b) .exu (by decide)
  have hafu : c.afu = b.afu := beginLine_frame fmt j px (Among.refl _) (Changes.refl _ b) .afu (by decide)
  by_cases hj : j < fmt.active ∧ f.ended = false
  · have hc : c = _ := beginLine_counts fmt px h hj.1 hj.2
    refine ⟨?_, hexu, hafu, ?_⟩
    · rw [hc, lineBegun, if_pos hj]
      exact storeLineBegin_frame (fs := [.stu, .fsu]) _ _ _ (by simp [Among])
        (statsLineBegin_frame _ _ (by simp [Among]) (Changes.refl _ _)) .ftu (by decide)
    · rw [hc, storeLineBegin_inbox]
      exact congrArg Fsu.inbox (statsLineBegin_frame j px (Among.refl _) (Changes.refl _ _) .fsu (by decide))
  · have hc : c = b := by
      refine beginLine_passes fmt px h ?_
      rcases Nat.lt_or_ge j fmt.active with hlt | hge
      · exact .inr (by simpa using fun hf => hj ⟨hlt, hf⟩)
      · exact .inl hge
    rw [hc, lineBegun, if_neg hj]
    refine ⟨?_, rfl, rfl, rfl⟩
    rw [← h]

theorem raiseWindowOpen_inboxes (f : FrameProg) (b : Block) :
    (raiseWindowOpen f b).exu = b.exu ∧ (raiseWindowOpen f b).afu.inbox = b.afu.inbox ∧
      (raiseWindowOpen f b).fsu.inbox = b.fsu.inbox :=
  ⟨raiseWindowOpen_frame f (Among.refl _) (Changes.refl _ b) .exu (by decide), rfl, rfl⟩

theorem lineWindowOpen_spec (h : b.ftu.frame = some f) :
    let c := lineWindowOpen fmt j b
    (∃ o, c.ftu = { b.ftu with frame := some { f with opened := o } }) ∧ c.exu = b.exu ∧
      c.afu.inbox = b.afu.inbox ∧ c.fsu.inbox = b.fsu.inbox := by
  intro c
  have hkept : ∃ o, b.ftu = { b.ftu with frame := some { f with opened := o } } := ⟨f.opened, by rw [← h]⟩
  unfold c lineWindowOpen
  rw [h]
  dsimp only
  split
  · split
    · exact ⟨⟨true, raiseWindowOpen_ftu f b⟩, raiseWindowOpen_inboxes f b⟩
    · exact ⟨hkept, rfl, rfl, rfl⟩
  · exact ⟨hkept, rfl, rfl, rfl⟩

end LineStages

/-! ### The pulse -/

section Pulse
variable {b : Block} {f : FrameProg} {fmt : StreamParams} (px : List Pixel)

/-- The LS that begins line j is counted. -/
def lineCounted (j : Nat) (h : Block) : Block :=
  { h with ftu := { h.ftu with frame := h.ftu.frame.map fun g => { g with ls := j + 1 } } }

theorem lineSync_beyond (hs : b.ftu.stream = .measuring ∨ b.ftu.stream = .running) (hf : b.ftu.fmt = some fmt) (h : b.ftu.frame = some f) (hl : fmt.lines ≤ f.ls) :
    lineSync px b = b := by
  unfold lineSync
  rw [hf, h]
  rcases hs with hs | hs <;> rw [hs] <;> exact if_pos hl

theorem lineSync_counts (hs : b.ftu.stream = .measuring ∨ b.ftu.stream = .running) (hf : b.ftu.fmt = some fmt)
    (h : b.ftu.frame = some f) (hl : f.ls < fmt.lines) :
    lineSync px b =
      lineWindowOpen fmt f.ls (beginLine fmt f.ls px (lineFrameEnd fmt f.ls (lineCounted f.ls (endLine b)))) := by
  unfold lineSync
  rw [hf, h]
  rcases hs with hs | hs <;> rw [hs] <;> exact if_neg (Nat.not_le.2 hl)

/-- The frame in progress once the line in progress has ended and the LS is counted. -/
def frameCounted (b : Block) (f : FrameProg) : FrameProg :=
  { if f.linePx.isSome then lineEnded b f else f with ls := f.ls + 1 }

theorem frameCounted_k (b : Block) (f : FrameProg) : (frameCounted b f).k = f.k := by
  unfold frameCounted
  split <;> rfl

theorem frameCounted_ended (b : Block) (f : FrameProg) : (frameCounted b f).ended = f.ended := by
  unfold frameCounted
  split <;> rfl

theorem frameCounted_done (b : Block) (f : FrameProg) :
    (frameCounted b f).done = if f.linePx.isSome then f.done + 1 else f.done := by
  unfold frameCounted
  split <;> rfl

theorem frameCounted_linePx (b : Block) (f : FrameProg) : (frameCounted b f).linePx = none := by
  unfold frameCounted
  split
  · rfl
  · next h => simpa using h

theorem frameCounted_short (hf : b.ftu.fmt = some fmt) :
    (frameCounted b f).short = (f.short || decide (∃ n, f.linePx = some n ∧ n < fmt.width)) := by
  unfold frameCounted
  cases hl : f.linePx with
  | none => simp
  | some n =>
    refine (shortLine_of hl).trans ?_
    rw [hf]
    simp

theorem lineCounted_spec (h : b.ftu.frame = some f) :
    let c := lineCounted f.ls (endLine b)
    c.ftu = { b.ftu with frame := some (frameCounted b f) } ∧ c.exu = b.exu ∧ c.afu = b.afu ∧
      c.fsu.inbox = b.fsu.inbox ∧ c.stu.geom = b.stu.geom ∧ c.stu.latched = b.stu.latched ∧ c.stu.frame = b.stu.frame := by
  intro c
  refine ⟨?_, endLine_same b (f := .exu) (by decide), endLine_same b (f := .afu) (by decide), endLine_inbox b,
    endLine_stu b⟩
  unfold c lineCounted
  rw [endLine_ftu h]
  rfl

/-- The frame in progress after the frame-end of an LS that begins line j. -/
def frameAfterEnd (fmt : StreamParams) (j : Nat) (f : FrameProg) : FrameProg :=
  { f with ended := f.ended || decide (j = fmt.active) }

variable (fmt) in
theorem lineFrameEnd_spec (j : Nat) (h : b.ftu.frame = some f) :
    let c := lineFrameEnd fmt j b
    c.ftu = { b.ftu with frame := some (frameAfterEnd fmt j f), pipeline := c.ftu.pipeline } ∧
      c.exu = { b.exu with inbox := c.exu.inbox } ∧
    (j = fmt.active ∧ f.ended = false → (∀ e ∈ c.ftu.pipeline, e.k = f.k → e.role = .closing) ∧
      ∀ sf g l, b.stu.frame = some sf → b.stu.geom = some g → b.stu.latched = some l →
        let r := statsRecord b.stu g l sf f.short false
        c.exu.inbox = b.exu.inbox ++ [r] ∧ c.afu.inbox = b.afu.inbox ++ [r] ∧ c.fsu.inbox = b.fsu.inbox ++ [r]) ∧
    (¬(j = fmt.active ∧ f.ended = false) → c = b) := by
  intro c
  by_cases hends : j = fmt.active ∧ f.ended = false
  · have hc : c = raiseFrameEnd f.k f.short false b := lineFrameEnd_ends fmt h hends.1 hends.2
    obtain ⟨l, hftu, hclosing⟩ := raiseFrameEnd_ftu f.k f.short false b
    obtain ⟨x, hexu⟩ := raiseFrameEnd_exu f.k f.short false b
    rw [hc]
    refine ⟨?_, ?_, fun _ => ⟨?_, fun sf g l hsf hg hl => ?_⟩, fun hn => absurd hends hn⟩
    · rw [hftu, h, frameAfterEnd, decide_eq_true hends.1, Bool.or_true]
      rfl
    · rw [hexu]
    · rw [hftu]
      exact hclosing
    · obtain ⟨he, ha, hi⟩ := raiseFrameEnd_raises f.k f.short false hg hl hsf
      rw [he, ha]
      exact ⟨rfl, rfl, hi⟩
  · have hc : c = b := by
      refine lineFrameEnd_passes fmt h ?_
      by_cases hj : j = fmt.active
      · exact .inr (by simpa using fun hf => hends ⟨hj, hf⟩)
      · exact .inl hj
    have hframe : frameAfterEnd fmt j f = f := by
      unfold frameAfterEnd
      cases he : f.ended with
      | true => rw [Bool.true_or, ← he]
      | false => rw [decide_eq_false fun hj => hends ⟨hj, he⟩, Bool.or_false, ← he]
    rw [hc]
    exact ⟨by rw [hframe, ← h], rfl, fun hn => absurd hn hends, fun _ => rfl⟩

theorem lineBegun_linePx (fmt : StreamParams) (j : Nat) (px : List Pixel) {f : FrameProg} (hn : f.linePx = none) :
    (lineBegun fmt j px (frameAfterEnd fmt j f)).linePx =
      if j < fmt.active ∧ f.ended = false then some px.length else none := by
  unfold lineBegun frameAfterEnd
  by_cases h : j < fmt.active ∧ f.ended = false
  · have hne : j ≠ fmt.active := Nat.ne_of_lt h.1
    rw [if_pos h, if_pos ⟨h.1, by simp [h.2, hne]⟩]
  · rw [if_neg h, if_neg fun hc => h ⟨hc.1, (Bool.or_eq_false_iff.1 hc.2).1⟩]
    exact hn

end Pulse

/-! ### The consumers at a frame-end (R143) -/

theorem peakOf_some {s : Sbu} {k : Word} {w : ExpWindow} (h : s.windows.find? (fun x => x.k == k) = some w) :
    peakOf s k = w.peak := by
  unfold peakOf
  rw [h]
  rfl

theorem peakOf_none {s : Sbu} {k : Word} (h : ∀ w ∈ s.windows, w.k ≠ k) : peakOf s k = 0 := by
  unfold peakOf
  rw [List.find?_eq_none.2 fun w hw => by simpa using h w hw]
  rfl

theorem frameEnding_eq (k : Word) (lineCount cut : Bool) (b : Block) :
    let st := statsFrameEnd lineCount cut (frameClosed k b)
    frameEnding k lineCount cut b =
      { st with sbu := { st.sbu with windows := b.sbu.windows.filter fun w => frameAbove w.k k } } := by
  intro st
  have hsbu : st.sbu = b.sbu := statsFrameEnd_frame lineCount cut (Among.refl _) (Changes.refl _ _) .sbu (by decide)
  rw [← hsbu]
  rfl

/-- What an LS that is counted leaves. -/
theorem lineSync_spec {s : State} {b : Block} (px : List Pixel) {fmt : StreamParams} {f : FrameProg} (hs : Settles s b)
    (hstream : b.ftu.stream = .measuring ∨ b.ftu.stream = .running) (hf : b.ftu.fmt = some fmt)
    (h : b.ftu.frame = some f) (hl : f.ls < fmt.lines) :
    let ends := f.ls = fmt.active ∧ f.ended = false
    ∃ (b' : Block) (f' : FrameProg),
      Runs (.lineSync px) s b' ∧
      b' = lineWindowOpen fmt f.ls (beginLine fmt f.ls px (lineFrameEnd fmt f.ls (lineCounted f.ls (endLine b)))) ∧
      b'.ftu.frame = some f' ∧ f'.k = f.k ∧ f'.ls = f.ls + 1 ∧
      f'.done = (if f.linePx.isSome then f.done + 1 else f.done) ∧
      f'.short = (f.short || decide (∃ n, f.linePx = some n ∧ n < fmt.width)) ∧
      f'.ended = (f.ended || decide (f.ls = fmt.active)) ∧
      f'.linePx = (if f.ls < fmt.active ∧ f.ended = false then some px.length else none) ∧
      (ends → (∀ e ∈ b'.ftu.pipeline, e.k = f.k → e.role = .closing) ∧
        ∀ sf g l, b.stu.frame = some sf → b.stu.geom = some g → b.stu.latched = some l →
          ∃ r : StatsRecord,
            b'.exu.inbox = b.exu.inbox ++ [r] ∧ b'.afu.inbox = b.afu.inbox ++ [r] ∧
            b'.fsu.inbox = b.fsu.inbox ++ [r] ∧ r.k = sf.k ∧ r.cut = false ∧ r.lineCount = f'.short) ∧
      (¬ends →
        b'.exu.inbox = b.exu.inbox ∧ b'.afu.inbox = b.afu.inbox ∧ b'.fsu.inbox = b.fsu.inbox ∧
        b'.ftu.pipeline = b.ftu.pipeline) ∧
      b'.ftu.stream = b.ftu.stream ∧ b'.ftu.fmt = b.ftu.fmt ∧ b'.ftu.lineTime = b.ftu.lineTime ∧
      b'.ftu.frameNo = b.ftu.frameNo ∧ b'.exu.prm = b.exu.prm ∧ b'.zoom = b.zoom ∧ b'.focus = b.focus := by
  intro ends
  let c2 := lineCounted f.ls (endLine b)
  let f2 := frameCounted b f
  let c3 := lineFrameEnd fmt f.ls c2
  let f3 := frameAfterEnd fmt f.ls f2
  let c4 := beginLine fmt f.ls px c3
  let f4 := lineBegun fmt f.ls px f3
  let b' := lineWindowOpen fmt f.ls c4
  obtain ⟨hftu2, hexu2, hafu2, hfsu2, hgeom2, hlatched2, hsf2⟩ := lineCounted_spec h
  have hframe2 : c2.ftu.frame = some f2 := by rw [hftu2]
  obtain ⟨hftu3, hexu3, hends3, hpass3⟩ := lineFrameEnd_spec fmt f.ls hframe2
  obtain ⟨hftu4, hexu4, hafu4, hfsu4⟩ := beginLine_spec fmt (j := f.ls) px (show c3.ftu.frame = some f3 by rw [hftu3])
  obtain ⟨⟨o, hftu⟩, hexu, hafu, hfsu⟩ :=
    lineWindowOpen_spec fmt (j := f.ls) (show c4.ftu.frame = some f4 by rw [hftu4])
  have hf4 : f4.k = f2.k ∧ f4.ls = f2.ls ∧ f4.done = f2.done ∧ f4.short = f2.short ∧ f4.ended = f3.ended := by
    unfold f4 lineBegun
    split <;> exact ⟨rfl, rfl, rfl, rfl, rfl⟩
  obtain ⟨hk4, hls4, hdone4, hshort4, hended4⟩ := hf4
  have hftu' : b'.ftu = { b.ftu with frame := some { f4 with opened := o }, pipeline := c3.ftu.pipeline } := by
    rw [hftu, hftu4, hftu3, hftu2]
  have hrun : lineSync px b = b' := lineSync_counts px hstream hf h hl
  have hsame : ∀ {x : Fld}, x ∉ [.regs, .ntu, .ftu, .stu, .exu, .afu, .sbu, .fsu, .due] → Agree b b' x := by
    intro x hx
    rw [← hrun]
    exact lineSync_frame px (Among.refl _) (Changes.refl _ b) x hx
  have hexuEq : b'.exu = c3.exu := hexu.trans hexu4
  refine ⟨b', { f4 with opened := o }, (runs_lineSync px hs).of_eq hrun, rfl, congrArg Ftu.frame hftu', ?_, ?_, ?_, ?_, ?_,
    ?_, fun he => ⟨?_, fun sf g l hsf hg hlat => ?_⟩, fun hn => ?_, (congrArg Ftu.stream hftu').trans rfl, (congrArg Ftu.fmt hftu').trans rfl,
    (congrArg Ftu.lineTime hftu').trans rfl, (congrArg Ftu.frameNo hftu').trans rfl, ?_, hsame (x := .zoom) (by decide),
    hsame (x := .focus) (by decide)⟩
  · exact hk4.trans (frameCounted_k b f)
  · exact hls4
  · exact hdone4.trans (frameCounted_done b f)
  · exact hshort4.trans (frameCounted_short hf)
  · exact hended4.trans (congrArg (· || decide (f.ls = fmt.active)) (frameCounted_ended b f))
  · have hpx : f4.linePx = _ := lineBegun_linePx fmt f.ls px (frameCounted_linePx b f)
    rw [frameCounted_ended] at hpx
    exact hpx
  · obtain ⟨hclosing, _⟩ := hends3 ⟨he.1, (frameCounted_ended b f).trans he.2⟩
    rw [frameCounted_k] at hclosing
    rw [hftu']
    exact hclosing
  · obtain ⟨_, hraise⟩ := hends3 ⟨he.1, (frameCounted_ended b f).trans he.2⟩
    obtain ⟨hx, ha, hi⟩ := hraise sf g l (hsf2.trans hsf) (hgeom2.trans hg) (hlatched2.trans hlat)
    refine ⟨statsRecord c2.stu g l sf f2.short false, ?_, ?_, ?_, rfl, rfl, hshort4.symm⟩
    · rw [hexuEq, ← hexu2]
      exact hx
    · rw [hafu, hafu4, ← hafu2]
      exact ha
    · rw [hfsu, hfsu4, ← hfsu2]
      exact hi
  · have hc3 : c3 = c2 := hpass3 fun hc => hn ⟨hc.1, (frameCounted_ended b f).symm.trans hc.2⟩
    refine ⟨?_, ?_, ?_, ?_⟩
    · rw [hexuEq, hc3, ← hexu2]
    · rw [hafu, hafu4, hc3, ← hafu2]
    · rw [hfsu, hfsu4, hc3, ← hfsu2]
    · rw [hftu', hc3, hftu2]
  · rw [hexuEq, hexu3, ← hexu2]

/-- Settles O38. -/
theorem lineSyncCountsLines : Obligations.LineSyncCountsLines := by
  refine ⟨fun s b px fmt f hs hstream hf h => ⟨fun hl => ?_, lineSync_spec px hs hstream hf h⟩,
    fun b f h => ⟨endLine_idle h, fun n hl => ?_⟩, fun b fmt f j px h => ⟨lineFrameEnd_ends fmt h,
      lineFrameEnd_passes fmt h, beginLine_counts fmt px h, beginLine_passes fmt px h, lineWindowOpen_noEntry fmt h⟩,
    fun b k lineCount cut => ⟨fun w hw => ?_, fun hw => ?_⟩, fun b k width px => ⟨fun f hc hk he ho => ?_, fun h => ?_⟩⟩
  · exact (runs_lineSync px hs).of_eq (lineSync_beyond px hstream hf h hl)
  · rw [endLine_busy h hl, ← shortLine_of (b := b) hl]
    rfl
  · rw [raiseFrameEnd_eq, peakOf_some hw, frameEnding_eq]
    rfl
  · rw [raiseFrameEnd_eq, peakOf_none hw, frameEnding_eq]
    rfl
  · subst hk
    exact ⟨takeLine width px, storeLineBegin_takes hc he ho width px, takeLine_length width px,
      fun x hx => takeLine_getElem? hx px⟩
  · exact storeLineBegin_passes h width px

end Sys2Proof.Machine
end

section
/-!
What an end of the stream is made of (R23, R24): the frame cut, a swap that waits, the search stopped, and capture
control told.
-/

namespace Sys2Proof.Machine

/-! ### A frame is cut (R28) -/

section Cut
variable {b : Block} {f : FrameProg}

theorem cutFrame_none (h : b.ftu.frame = none) : cutFrame b = b := by
  unfold cutFrame
  rw [h]

theorem cutFrame_ended (h : b.ftu.frame = some f) (he : f.ended = true) :
    cutFrame b = { b with ftu := { b.ftu with frame := none } } := by
  unfold cutFrame
  rw [h]
  dsimp only
  rw [if_pos he]
  rfl

theorem cutFrame_cuts (h : b.ftu.frame = some f) (he : f.ended = false) :
    cutFrame b = setFtu (fun u => { u with frame := none }) (raiseFrameEnd f.k (shortLine b f) true b) := by
  unfold cutFrame
  rw [h]
  dsimp only
  rw [he]
  rfl

theorem cutFrame_ftu (b : Block) : SameButFrame b.ftu (cutFrame b).ftu ∧ (cutFrame b).ftu.frame = none := by
  cases h : b.ftu.frame with
  | none =>
    rw [cutFrame_none h]
    exact ⟨rfl, h⟩
  | some f =>
    cases he : f.ended with
    | true =>
      rw [cutFrame_ended h he]
      exact ⟨rfl, rfl⟩
    | false =>
      rw [cutFrame_cuts h he]
      exact ⟨(raiseFrameEnd_sameButFrame f.k _ true b).trans rfl, rfl⟩

theorem cutFrame_same (b : Block) {x : Fld} (h : x ∉ [.regs, .ntu, .ftu, .stu, .exu, .afu, .sbu, .fsu, .due]) :
    Agree b (cutFrame b) x :=
  cutFrame_frame (Among.refl _) (Changes.refl _ b) x h

theorem cutFrame_afu (b : Block) : ∃ l, (cutFrame b).afu = { b.afu with inbox := l } := by
  cases h : b.ftu.frame with
  | none =>
    rw [cutFrame_none h]
    exact ⟨b.afu.inbox, rfl⟩
  | some f =>
    cases he : f.ended with
    | true =>
      rw [cutFrame_ended h he]
      exact ⟨b.afu.inbox, rfl⟩
    | false =>
      rw [cutFrame_cuts h he]
      exact raiseFrameEnd_afu f.k _ true b

theorem cutFrame_writeAt (b : Block) (o : Nat) (data : List Byte) : writeAt (cutFrame b) o data = writeAt b o data :=
  writeAt_congr (cutFrame_kept (Kept.refl b)).wbase (cutFrame_kept (Kept.refl b)).wlimit o data

/-- A frame that is cut gives a stats-ready with CUT, and with LINE_COUNT for a short line (log 50). -/
theorem cutFrame_raises {sf : StuFrame} {g : Geom} {l : Latched} (h : b.ftu.frame = some f) (he : f.ended = false)
    (hsf : b.stu.frame = some sf) (hg : b.stu.geom = some g) (hl : b.stu.latched = some l) :
    (cutFrame b).stu.frame = none ∧
    ∃ r : StatsRecord, (cutFrame b).exu.inbox = b.exu.inbox ++ [r] ∧ r.k = sf.k ∧ r.cut = true ∧ r.valid = false ∧
      r.lineCount = (f.short || f.linePx.any fun n => decide (n < (b.ftu.fmt.map (·.width)).getD 0)) := by
  obtain ⟨hexu, _, _⟩ := raiseFrameEnd_raises f.k (shortLine b f) true hg hl hsf
  rw [cutFrame_cuts h he]
  refine ⟨congrArg Stu.frame (raiseFrameEnd_stu f.k (shortLine b f) true b), _, congrArg Exu.inbox hexu, rfl, rfl, ?_, rfl⟩
  exact Bool.not_eq_false' .. ▸ Bool.or_true _

end Cut

/-! ### A swap of tables (R101) -/

section Swap
variable {b : Block} {t : Tables}

/-- The block of a swap before its plan reports. -/
def swapped (t : Tables) (b : Block) : Block := updateFocusLimits (updateZoomLimits (adoptTables t b))

theorem swapTables_ready (h : b.zmap.loading = .ready t) (x : Option Word) :
    swapTables x b =
      endPlan .tables .done .ok (List.replicate 4 0#8) (tablesArea x.isSome (x.getD 0) 0 0) (swapped t b) := by
  unfold swapTables
  rw [h]
  rfl

theorem swapTables_waits (h : ∀ t, b.zmap.loading ≠ .ready t) (x : Option Word) : swapTables x b = b := by
  unfold swapTables
  split
  · next t ht => exact absurd ht (h t)
  · rfl

theorem endPlan_same (k : PlanKind) (fin : FinalState) (o : PlanOutcome) (word area : List Byte) (b : Block) {f : Fld}
    (h : f ∉ [.ple, .due]) : Agree b (endPlan k fin o word area b) f :=
  endPlan_frame k fin o word area (Among.refl _) (Changes.refl _ b) f h

theorem swapTables_zmap (h : b.zmap.loading = .ready t) (x : Option Word) :
    (swapTables x b).zmap.tables = some t ∧ (swapTables x b).zmap.margin = t.margin ∧
      (swapTables x b).zmap.loading = .idle := by
  rw [swapTables_ready h, show (endPlan ..).zmap = _ from endPlan_same _ _ _ _ _ (swapped t b) (f := .zmap) (by decide)]
  exact ⟨rfl, rfl, rfl⟩

theorem swapTables_takenOf_other {k : PlanKind} (h : k ≠ .tables) (x : Option Word) (b : Block) :
    takenOf (swapTables x b) k = takenOf b k := by
  unfold swapTables
  split
  · exact takenOf_endPlan_other h _ _ _ _ _
  · rfl

/-- The swap ends the plan DONE. -/
theorem swapTables_done {p : Taken} (h : b.zmap.loading = .ready t) (hp : takenOf b .tables = some p)
    (hr : p.ending = .running) (x : Option Word) :
    ∃ e, takenOf (swapTables x b) .tables = some { p with ending := .results e } ∧ e.fin = .done ∧
      (ResultWrite.area, writeAt b (p.offset + 40) (tablesArea x.isSome (x.getD 0) 0 0)) ∈ e.outstanding := by
  have htaken : takenOf (swapped t b) .tables = some p := hp
  rw [swapTables_ready h, endPlan_running htaken hr]
  obtain ⟨e, he, hfin, hout⟩ := startEnding_takenOf htaken .done .ok (List.replicate 4 0#8)
    (tablesArea x.isSome (x.getD 0) 0 0)
  refine ⟨e, he, hfin, ?_⟩
  rw [hout]
  exact .tail _ (.tail _ (.head _))

end Swap

/-! ### The search when the stream stops (R124) -/

section SearchStops
variable {b : Block} {r : Search}

/-- What a focus search unit may lose when the focus axis leaves IDLE: the still marks of its candidates. -/
def SameButMarks (a c : Afu) : Prop := c = { a with candidates := c.candidates } ∧ (a.candidates = [] → c.candidates = [])

theorem SameButMarks.refl (a : Afu) : SameButMarks a a := ⟨rfl, id⟩

theorem putAxis_focus_marks {a : AxisUnit} (h : a.state ≠ .idle) (b : Block) :
    SameButMarks b.afu (putAxis .focus a b).afu := by
  rw [putAxis_focus_afu h b]
  refine ⟨rfl, fun hc => ?_⟩
  dsimp only
  split
  · rw [hc]
    rfl
  · exact hc

theorem brake_focus_marks (v : Bool) (b : Block) : SameButMarks b.afu (brake .focus v b).afu :=
  putAxis_focus_marks (by simp [braked]) b

theorem searchBraked_marks (b : Block) : SameButMarks b.afu (searchBraked b).afu := by
  unfold searchBraked
  split
  · exact brake_focus_marks false b
  · exact SameButMarks.refl _

theorem searchStreamStopped_none (h : ∀ r, b.afu.search = some r → r.ended ≠ none) : searchStreamStopped b = b := by
  unfold searchStreamStopped
  split
  · rfl
  · next r hr => exact if_neg (h r hr)

theorem searchStreamStopped_ends (h : b.afu.search = some r) (he : r.ended = none) :
    searchStreamStopped b = searchEnd r .failed .notStreaming .notStreaming (searchBraked b) := by
  unfold searchStreamStopped
  rw [h]
  exact (if_pos he).trans (searchStop_eq h _ _ _)

theorem searchEnd_takenOf_other {k : PlanKind} (h : k ≠ .afSearch) (r : Search) {fin : FinalState} (hf : fin ≠ .done)
    (o detail : PlanOutcome) (b : Block) : takenOf (searchEnd r fin o detail b) k = takenOf b k := by
  by_cases hw : b.afu.writes = []
  · obtain ⟨area, ha⟩ := searchEnd_reports hw r hf o detail
    rw [ha]
    exact takenOf_endPlan_other h _ _ _ _ _
  · rw [searchEnd_waits hw]
    rfl

/-- A search that fails or is cancelled leaves the zoom map, and of its own unit all but the search. -/
theorem searchEnd_keeps (r : Search) {fin : FinalState} (hf : fin ≠ .done) (o detail : PlanOutcome) (b : Block) :
    (searchEnd r fin o detail b).zmap = b.zmap ∧
      (searchEnd r fin o detail b).afu = { b.afu with search := (searchEnd r fin o detail b).afu.search } := by
  by_cases hw : b.afu.writes = []
  · obtain ⟨area, ha⟩ := searchEnd_reports hw r hf o detail
    have hsame : ∀ {x : Fld}, x ∉ [.ple, .due] → Agree _ _ x := endPlan_same .afSearch fin o (leInt 4 (position b.focus)) area
      (setSearch (some { r with moving := false, ended := some (fin, o, detail) }) b)
    rw [ha]
    exact ⟨hsame (x := .zmap) (by decide),
      congrArg (fun a : Afu => { a with search := none }) (hsame (x := .afu) (by decide))⟩
  · rw [searchEnd_waits hw]
    exact ⟨rfl, rfl⟩

theorem searchStreamStopped_takenOf_other {k : PlanKind} (h : k ≠ .afSearch) (b : Block) :
    takenOf (searchStreamStopped b) k = takenOf b k := by
  by_cases hs : ∃ r, b.afu.search = some r ∧ r.ended = none
  · obtain ⟨r, hr, he⟩ := hs
    rw [searchStreamStopped_ends hr he, searchEnd_takenOf_other h r (fin := .failed) nofun]
    exact takenOf_congr (searchBraked_frame (Among.refl _) (Changes.refl _ b) .ple (by decide)) k
  · rw [searchStreamStopped_none fun r hr he => hs ⟨r, hr, he⟩]

theorem searchStreamStopped_keeps (b : Block) :
    (searchStreamStopped b).zmap = b.zmap ∧
      (b.afu.candidates = [] → (searchStreamStopped b).afu.candidates = []) := by
  by_cases hs : ∃ r, b.afu.search = some r ∧ r.ended = none
  · obtain ⟨r, hr, he⟩ := hs
    obtain ⟨hz, ha⟩ := searchEnd_keeps r (fin := .failed) nofun .notStreaming .notStreaming (searchBraked b)
    rw [searchStreamStopped_ends hr he]
    refine ⟨hz.trans (searchBraked_frame (Among.refl _) (Changes.refl _ b) .zmap (by decide)), fun hc => ?_⟩
    rw [ha]
    exact (searchBraked_marks b).2 hc
  · rw [searchStreamStopped_none fun r hr he => hs ⟨r, hr, he⟩]
    exact ⟨rfl, id⟩

/-- The search after the stream has stopped. -/
theorem searchStreamStopped_search (h : b.afu.search = some r) (he : r.ended = none) :
    (b.afu.writes = [] → (searchStreamStopped b).afu.search = none) ∧
    (b.afu.writes ≠ [] → (searchStreamStopped b).afu.search =
      some { r with moving := false, ended := some (.failed, .notStreaming, .notStreaming) }) := by
  have hwrites : (searchBraked b).afu.writes = b.afu.writes := (searchBraked_search b).2.1
  rw [searchStreamStopped_ends h he]
  refine ⟨fun hw => ?_, fun hw => ?_⟩
  · obtain ⟨area, ha⟩ := searchEnd_reports (hwrites.trans hw) r (fin := .failed) nofun .notStreaming .notStreaming
    rw [ha]
    rfl
  · rw [searchEnd_waits (by rw [hwrites]; exact hw)]
    rfl

end SearchStops

/-! ### STOPPED is entered (R24) -/

section Stopped
variable {b : Block}

/-- The block in which a swap that waits is made as the stream stops. -/
def listsEmptied (x : StreamState) (b : Block) : Block :=
  emptyWindowLists (setFtu (fun u => { u with stream := x, syncTimer := false }) b)

theorem enterStopped_eq (b : Block) :
    enterStopped b = searchStreamStopped (swapTables none (listsEmptied .stopped b)) := rfl

theorem enterStopped_same {f : Fld} (b : Block) (h : f ∉ [.ple, .zoom, .focus, .zmap, .afu, .due]) :
    Agree (listsEmptied .stopped b) (enterStopped b) f :=
  searchStreamStopped_frame (by simp [Among])
    (swapTables_frame none (by simp [Among]) (Changes.refl _ _)) f h

end Stopped

end Sys2Proof.Machine
end

section
/-!
The stream enters STOPPED or LOST (R23, R24), and capture control is told (R155).
-/

namespace Sys2Proof.Machine

/-! ### More of the ending of a CAPTURE plan (R153) -/

theorem cafStop_marks (b : Block) :
    SameButMarks { b.afu with cafActive := false, cafMoving := false } (cafStop b).afu := by
  unfold cafStop
  dsimp only
  split
  · split
    · exact brake_focus_marks false _
    · exact SameButMarks.refl _
  · exact SameButMarks.refl _

theorem capPrepared_afu (b : Block) : (capPrepared b).afu = (cafStop b).afu := by
  unfold capPrepared
  split <;> rfl

theorem capPrepared_zmap (b : Block) : ∃ u, (capPrepared b).zmap = { b.zmap with u := u } := by
  have hz : (cafStop b).zmap = b.zmap := cafStop_frame (Among.refl _) (Changes.refl _ b) .zmap (by decide)
  unfold capPrepared
  split
  · exact ⟨_, congrArg (fun z : Zmap => { z with u := fractionOf (cafStop b) }) hz⟩
  · exact ⟨b.zmap.u, hz⟩

section CapFinish
variable (b : Block)

theorem capFinish_reporting {f : Fld} (h : f ∉ [.ntu, .ple, .exu, .cap, .due]) : Agree (capReporting b) (capFinish b) f := by
  rw [capFinish_eq]
  refine setCap_frame (l := [.ntu, .ple, .exu, .cap, .due]) _ (by simp [Among]) (setCond_frame _ _ (by simp [Among])
    (changes_exu (endPlan_frame _ _ _ _ _ (by simp [Among]) (Changes.refl _ _)) (by decide))) f h

theorem capFinish_marks : SameButMarks { b.afu with cafActive := false, cafMoving := false } (capFinish b).afu := by
  have h : (capFinish b).afu = (cafStop b).afu :=
    Eq.trans (capFinish_reporting b (f := .afu) (by decide)) (capPrepared_afu b)
  rw [h]
  exact cafStop_marks b

theorem capFinish_zmap : ∃ u, (capFinish b).zmap = { b.zmap with u := u } := by
  obtain ⟨u, hu⟩ := capPrepared_zmap b
  exact ⟨u, Eq.trans (capFinish_reporting b (f := .zmap) (by decide)) hu⟩

variable {b}

/-- The ending of a plan that still runs. -/
theorem capFinish_running {t : Taken} (ht : takenOf b .capture = some t) (hr : t.ending = .running) :
    let cause := b.cap.endCause.getD .ok
    ∃ e : EndingProg, takenOf (capFinish b) .capture = some { t with ending := .results e } ∧
      e.fin = (if failedCause cause then .failed else .done) ∧
      (ResultWrite.outcome, writeAt b (t.offset + 3) (leBytes 1 cause.code)) ∈ e.outstanding ∧
      (ResultWrite.word, writeAt b (t.offset + 12) (leWord b.cap.stored)) ∈ e.outstanding := by
  intro cause
  have hcause : capCause b = cause := if_neg (by simp [planCancelling, ht, hr])
  have hregs : (capReporting b).regs = b.regs := capReporting_same b (f := .regs) (by decide)
  have htaken : takenOf (capReporting b) .capture = some t :=
    (takenOf_congr (capReporting_same b (f := .ple) (by decide)) _).trans ht
  have hwrite : ∀ o d, writeAt (capReporting b) o d = writeAt b o d :=
    writeAt_congr (congrArg Regs.wbase hregs) (congrArg Regs.wlimit hregs)
  rw [capFinish_eq, hcause, endPlan_running htaken hr]
  obtain ⟨e, he, hfin, hout⟩ := startEnding_takenOf htaken (if failedCause cause then .failed else .done) cause
    (leWord b.cap.stored) (captureArea (capReporting b).cap)
  refine ⟨e, he, hfin, ?_, ?_⟩
  · rw [hout, hwrite]
    exact .head _
  · rw [hout, hwrite _ (leWord b.cap.stored)]
    exact .tail _ (.head _)

end CapFinish

/-! ### Capture control is told that the stream ends (R155) -/

section CapStreamEnd
variable {b : Block}

theorem mergeCause_syncLost (c : Option PlanOutcome) :
    mergeCause c .syncLost = if c = some .busError then .busError else .syncLost := by
  cases c with
  | none => rfl
  | some x => cases x <;> rfl

/-- The block of a capture that drains for SYNC_LOST. -/
def lossDraining (b : Block) : Block :=
  { b with cap := { b.cap with
      state := .draining, endCause := some (if b.cap.endCause = some .busError then .busError else .syncLost) } }

theorem capRunning_iff (c : Cap) : capRunning c = true ↔ c.state = .armed ∨ c.state = .storing ∨ c.state = .draining := by
  unfold capRunning
  cases c.state <;> simp

theorem capStreamEnd_idle (h : capRunning b.cap = false) : capStreamEnd b = b := by
  unfold capStreamEnd
  rw [h]
  rfl

theorem capStreamEnd_filling (h : capRunning b.cap = true) (hf : b.cap.filling = true) :
    capStreamEnd b = lossDraining b := by
  unfold capStreamEnd
  rw [if_pos h, lossDraining, ← mergeCause_syncLost]
  exact if_pos hf

theorem capStreamEnd_ends (h : capRunning b.cap = true) (hf : b.cap.filling = false) :
    capStreamEnd b = capFinish (withdrawRequest (lossDraining b)) := by
  unfold capStreamEnd
  rw [if_pos h, lossDraining, ← mergeCause_syncLost]
  exact if_neg fun hfill => Bool.false_ne_true (hf.symm.trans hfill)

/-- What a withdrawal leaves of the frame store. -/
theorem withdrawRequest_fsu (b : Block) :
    (withdrawRequest b).fsu.notes = b.fsu.notes ∧ ∀ f, (withdrawRequest b).fsu.cur = some f → f.slot ≠ none := by
  cases hc : b.fsu.cur with
  | none =>
    rw [withdrawRequest_none hc]
    exact ⟨rfl, fun f hf => by rw [hc] at hf; cases hf⟩
  | some x =>
    cases hs : x.slot with
    | none =>
      have hfsu := congrArg Block.fsu (withdrawRequest_asking hc hs)
      refine ⟨(congrArg Fsu.notes hfsu).trans rfl, fun f hf => ?_⟩
      have hcur : (withdrawRequest b).fsu.cur = none := (congrArg Fsu.cur hfsu).trans rfl
      rw [hcur] at hf
      cases hf
    | some n =>
      have hw : withdrawRequest b = b := by
        unfold withdrawRequest
        rw [hc]
        dsimp only
        rw [hs]
      rw [hw]
      refine ⟨rfl, fun f hf => ?_⟩
      rw [hc] at hf
      cases hf
      simp [hs]

/-- What capture control leaves when it hears of the end of the stream. -/
structure StreamEndKept (b c : Block) : Prop where
  inbox : c.exu.inbox = b.exu.inbox
  syncLost : c.ntu.syncLost = b.ntu.syncLost
  search : c.afu.search = b.afu.search
  candidates : b.afu.candidates = [] → c.afu.candidates = []
  notes : c.fsu.notes = b.fsu.notes
  tables : c.zmap.tables = b.zmap.tables
  loading : c.zmap.loading = b.zmap.loading
  taken : ∀ k, k ≠ .capture → takenOf c k = takenOf b k

theorem capFinish_streamEndKept (b : Block) : StreamEndKept b (capFinish b) := by
  obtain ⟨hafu, hmarks⟩ := capFinish_marks b
  obtain ⟨u, hz⟩ := capFinish_zmap b
  refine ⟨?_, ?_, ?_, hmarks, ?_, ?_, ?_, fun k hk => capFinish_takenOf_other hk b⟩
  · rw [capFinish_exu]
  · rw [capFinish_ntu]
  · rw [hafu]
  · rw [show (capFinish b).fsu = _ from capFinish_same b (f := .fsu) (by decide)]
  · rw [hz]
  · rw [hz]

theorem withdrawRequest_streamEndKept (b : Block) : StreamEndKept b (withdrawRequest b) := by
  have hsame : ∀ {x : Fld}, x ∉ [.fsu] → Agree b (withdrawRequest b) x := withdrawRequest_same b
  refine ⟨?_, ?_, ?_, ?_, (withdrawRequest_fsu b).1, ?_, ?_, fun k _ => takenOf_congr (hsame (x := .ple) (by decide)) k⟩
  · rw [show (withdrawRequest b).exu = _ from hsame (x := .exu) (by decide)]
  · rw [show (withdrawRequest b).ntu = _ from hsame (x := .ntu) (by decide)]
  · rw [show (withdrawRequest b).afu = _ from hsame (x := .afu) (by decide)]
  · rw [show (withdrawRequest b).afu = _ from hsame (x := .afu) (by decide)]
    exact id
  · rw [show (withdrawRequest b).zmap = _ from hsame (x := .zmap) (by decide)]
  · rw [show (withdrawRequest b).zmap = _ from hsame (x := .zmap) (by decide)]

theorem StreamEndKept.trans {a b c : Block} (h : StreamEndKept a b) (g : StreamEndKept b c) : StreamEndKept a c :=
  ⟨g.inbox.trans h.inbox, g.syncLost.trans h.syncLost, g.search.trans h.search, fun hc => g.candidates (h.candidates hc),
    g.notes.trans h.notes, g.tables.trans h.tables, g.loading.trans h.loading,
    fun k hk => (g.taken k hk).trans (h.taken k hk)⟩

theorem capStreamEnd_streamEndKept (b : Block) : StreamEndKept b (capStreamEnd b) := by
  have hloss : StreamEndKept b (lossDraining b) := ⟨rfl, rfl, rfl, id, rfl, rfl, rfl, fun _ _ => rfl⟩
  cases h : capRunning b.cap with
  | false =>
    rw [capStreamEnd_idle h]
    exact ⟨rfl, rfl, rfl, id, rfl, rfl, rfl, fun _ _ => rfl⟩
  | true =>
    cases hf : b.cap.filling with
    | true =>
      rw [capStreamEnd_filling h hf]
      exact hloss
    | false =>
      rw [capStreamEnd_ends h hf]
      exact (hloss.trans (withdrawRequest_streamEndKept _)).trans (capFinish_streamEndKept _)

theorem capStreamEnd_same (b : Block) {f : Fld} (h : f ∉ [.ntu, .ple, .exu, .focus, .zmap, .afu, .cap, .fsu, .due]) :
    Agree b (capStreamEnd b) f :=
  capStreamEnd_frame (Among.refl _) (Changes.refl _ b) f h

/-- The end of a capture with no slot FILLING. -/
theorem capStreamEnd_ended (h : capRunning b.cap = true) (hf : b.cap.filling = false) :
    let cause : PlanOutcome := if b.cap.endCause = some .busError then .busError else .syncLost
    let c := capStreamEnd b
    c.cap = { b.cap with
      state := .ended, endCause := some (if planCancelling b .capture then .ok else cause) } ∧
    c.exu.lock = false ∧ c.ntu.slotWait = false ∧ c.afu.cafActive = false ∧
    (∀ f, c.fsu.cur = some f → f.slot ≠ none) ∧
    ∀ t, takenOf b .capture = some t →
      (t.ending = .running →
        ∃ e, takenOf c .capture = some { t with ending := .results e } ∧ e.fin = .failed ∧
          (ResultWrite.outcome, writeAt b (t.offset + 3) (leBytes 1 cause.code)) ∈ e.outstanding ∧
          (ResultWrite.word, writeAt b (t.offset + 12) (leWord b.cap.stored)) ∈ e.outstanding) ∧
      (t.ending = .cancelling →
        ∃ e, takenOf c .capture = some { t with ending := .results e } ∧ e.fin = .cancelled ∧
          (ResultWrite.outcome, writeAt b (t.offset + 3) [0#8]) ∈ e.outstanding ∧
          (ResultWrite.word, writeAt b (t.offset + 12) (leWord b.cap.stored)) ∈ e.outstanding) := by
  intro cause c
  let w := withdrawRequest (lossDraining b)
  have hsame : ∀ {x : Fld}, x ∉ [.fsu] → Agree (lossDraining b) w x := withdrawRequest_same _
  have hc : c = capFinish w := capStreamEnd_ends h hf
  have hcap : w.cap = (lossDraining b).cap := hsame (x := .cap) (by decide)
  have hple : w.ple = b.ple := hsame (x := .ple) (by decide)
  have hregs : w.regs = b.regs := hsame (x := .regs) (by decide)
  have hwrite : ∀ o d, writeAt w o d = writeAt b o d :=
    writeAt_congr (congrArg Regs.wbase hregs) (congrArg Regs.wlimit hregs)
  have hendCause : w.cap.endCause.getD .ok = cause := by rw [hcap]; rfl
  have hstored : w.cap.stored = b.cap.stored := by rw [hcap]; rfl
  have hfailed : failedCause cause = true := by
    unfold cause
    split <;> rfl
  have hcapCause : capCause w = if planCancelling b .capture then .ok else cause := by
    rw [capCause, planCancelling_congr hple, hendCause]
  refine ⟨?_, ?_, ?_, ?_, ?_, fun t ht => ⟨fun hr => ?_, fun hx => ?_⟩⟩
  · rw [hc, capFinish_cap, hcapCause, hcap]
    rfl
  · rw [hc, capFinish_exu]
  · rw [hc, capFinish_ntu]
  · rw [hc, (capFinish_marks w).1]
  · rw [hc, show (capFinish w).fsu = _ from capFinish_same w (f := .fsu) (by decide)]
    exact (withdrawRequest_fsu _).2
  · obtain ⟨e, he, hfin, hout, hword⟩ := capFinish_running ((takenOf_congr hple _).trans ht) hr
    rw [hendCause, hwrite] at hout
    rw [hstored, hwrite] at hword
    rw [hendCause, if_pos hfailed] at hfin
    exact ⟨e, hc ▸ he, hfin, hout, hword⟩
  · obtain ⟨e, he, hfin, hout, hword⟩ := capFinish_cancelling ((takenOf_congr hple _).trans ht) hx
    rw [hwrite] at hout
    rw [hstored, hwrite] at hword
    exact ⟨e, hc ▸ he, hfin, hout, hword⟩

end CapStreamEnd

/-! ### STOPPED and LOST -/

/-- What every end of the stream leaves, whatever it ends. -/
structure StreamEnded (b b' : Block) : Prop where
  ftu : b'.ftu =
    { b.ftu with
      stream := b'.ftu.stream, syncTimer := false, frame := none, pipeline := b'.ftu.pipeline
      dueEntry := b'.ftu.dueEntry, link := b'.ftu.link, stopWaiting := b'.ftu.stopWaiting }
  candidates : b'.afu.candidates = []
  windows : b'.sbu.windows = []
  notes : b'.fsu.notes = []

/-- The unit that stands by to stop or lose the stream: the frame is cut, the lists are empty. -/
def streamCut (x : StreamState) (b : Block) : Block := listsEmptied x (cutFrame b)

theorem streamCut_ended (x : StreamState) (b : Block) : StreamEnded b (streamCut x b) := by
  obtain ⟨hftu, hframe⟩ := cutFrame_ftu b
  have hx : (streamCut x b).ftu = { (cutFrame b).ftu with stream := x, syncTimer := false } := rfl
  refine ⟨?_, rfl, rfl, rfl⟩
  rw [hx, hftu, hframe]

theorem streamCut_same (x : StreamState) (b : Block) {f : Fld}
    (h : f ∉ [.regs, .ntu, .ftu, .stu, .exu, .afu, .sbu, .fsu, .due]) : Agree b (streamCut x b) f :=
  emptyWindowLists_frame (by simp [Among]) (setFtu_frame _ (by simp [Among])
    (cutFrame_frame (Among.refl _) (Changes.refl _ b))) f h

theorem streamCut_writeAt (x : StreamState) (b : Block) (o : Nat) (data : List Byte) :
    writeAt (streamCut x b) o data = writeAt b o data :=
  cutFrame_writeAt b o data

/-- The end of the stream as enterStopped makes it. -/
theorem enterStopped_ended (b : Block) : StreamEnded b (enterStopped (cutFrame b)) := by
  have hcut := streamCut_ended .stopped b
  have hsame : ∀ {f : Fld}, f ∉ [.ple, .zoom, .focus, .zmap, .afu, .due] →
      Agree (streamCut .stopped b) (enterStopped (cutFrame b)) f := enterStopped_same (cutFrame b)
  have hftu : (enterStopped (cutFrame b)).ftu = _ := hsame (f := .ftu) (by decide)
  refine ⟨?_, ?_, ?_, ?_⟩
  · rw [hftu]
    exact hcut.ftu
  · rw [enterStopped_eq]
    refine (searchStreamStopped_keeps _).2 ?_
    rw [show (swapTables none _).afu = _ from swapTables_same none _ (f := .afu) (by decide)]
    rfl
  · rw [show (enterStopped (cutFrame b)).sbu = _ from hsame (f := .sbu) (by decide)]
    exact hcut.windows
  · rw [show (enterStopped (cutFrame b)).fsu = _ from hsame (f := .fsu) (by decide)]
    exact hcut.notes

theorem enterStopped_takenOf {k : PlanKind} (ht : k ≠ .tables) (ha : k ≠ .afSearch) (b : Block) :
    takenOf (enterStopped b) k = takenOf b k := by
  rw [enterStopped_eq, searchStreamStopped_takenOf_other ha, swapTables_takenOf_other ht]
  rfl

end Sys2Proof.Machine
end

section
/-!
The sync timer's expiry (R21, R24) and the hand-over of a STREAM stop (R23).
-/

namespace Sys2Proof.Machine

section Ends
variable {b b' : Block}

/-- What an end of the stream leaves, and the stats-ready of the frame it cuts. -/
theorem StreamEnded.facts (h : StreamEnded b b') (hx : b'.exu.inbox = (cutFrame b).exu.inbox) :
    b'.ftu.syncTimer = false ∧ b'.ftu.frame = none ∧ b'.ftu.lineTime = b.ftu.lineTime ∧
      b'.ftu.frameNo = b.ftu.frameNo ∧ b'.ftu.frameStarts = b.ftu.frameStarts ∧ b'.ftu.fmt = b.ftu.fmt ∧
      b'.afu.candidates = [] ∧ b'.sbu.windows = [] ∧ b'.fsu.notes = [] ∧
      ∀ f sf g l, b.ftu.frame = some f → f.ended = false → b.stu.frame = some sf → b.stu.geom = some g →
        b.stu.latched = some l →
        ∃ r : StatsRecord, b'.exu.inbox = b.exu.inbox ++ [r] ∧ r.k = sf.k ∧ r.cut = true ∧ r.valid = false ∧
          r.lineCount = (f.short || f.linePx.any fun n => decide (n < (b.ftu.fmt.map (·.width)).getD 0)) := by
  refine ⟨?_, ?_, ?_, ?_, ?_, ?_, h.candidates, h.windows, h.notes, fun f sf g l hf he hsf hg hl => ?_⟩
  iterate 6 rw [h.ftu]
  obtain ⟨_, r, hr, hrest⟩ := cutFrame_raises hf he hsf hg hl
  exact ⟨r, hx.trans hr, hrest⟩

/-! ### LOST -/

/-- The block in which capture control hears that the stream is lost. -/
def streamLost (b : Block) : Block := setCond .syncLost true (streamCut .lost b)

theorem loseStream_eq (b : Block) : loseStream b = capStreamEnd (streamLost b) := rfl

theorem loseStream_ended (b : Block) : StreamEnded b (loseStream b) := by
  have hcut := streamCut_ended .lost b
  have hkept := capStreamEnd_streamEndKept (streamLost b)
  have hftu : (capStreamEnd (streamLost b)).ftu = (streamCut .lost b).ftu :=
    capStreamEnd_same (streamLost b) (f := .ftu) (by decide)
  have hsbu : (capStreamEnd (streamLost b)).sbu = (streamCut .lost b).sbu :=
    capStreamEnd_same (streamLost b) (f := .sbu) (by decide)
  rw [loseStream_eq]
  refine ⟨?_, hkept.candidates hcut.candidates, ?_, hkept.notes.trans hcut.notes⟩
  · rw [hftu]
    exact hcut.ftu
  · rw [hsbu]
    exact hcut.windows

/-- The entry to LOST. -/
theorem loseStream_spec (b : Block) :
    let cause : PlanOutcome := if b.cap.endCause = some .busError then .busError else .syncLost
    let runs := b.cap.state = .armed ∨ b.cap.state = .storing ∨ b.cap.state = .draining
    let b' := loseStream b
    (¬runs → b'.cap = b.cap) ∧
    (runs → b.cap.filling = true → b'.cap = { b.cap with state := .draining, endCause := some cause }) ∧
    (runs → b.cap.filling = false →
      b'.cap.state = .ended ∧ b'.cap.stored = b.cap.stored ∧ b'.exu.lock = false ∧ b'.ntu.slotWait = false ∧
      b'.afu.cafActive = false ∧ (∀ f, b'.fsu.cur = some f → f.slot ≠ none) ∧
      b'.cap.endCause = some (if planCancelling b .capture then .ok else cause) ∧
      ∀ t, takenOf b .capture = some t →
        (t.ending = .running →
          ∃ e, takenOf b' .capture = some { t with ending := .results e } ∧ e.fin = .failed ∧
            (ResultWrite.outcome, writeAt b (t.offset + 3) (leBytes 1 cause.code)) ∈ e.outstanding ∧
            (ResultWrite.word, writeAt b (t.offset + 12) (leWord b.cap.stored)) ∈ e.outstanding) ∧
        (t.ending = .cancelling →
          ∃ e, takenOf b' .capture = some { t with ending := .results e } ∧ e.fin = .cancelled ∧
            (ResultWrite.outcome, writeAt b (t.offset + 3) [0#8]) ∈ e.outstanding ∧
            (ResultWrite.word, writeAt b (t.offset + 12) (leWord b.cap.stored)) ∈ e.outstanding)) := by
  intro cause runs b'
  have hcap : (streamLost b).cap = b.cap := streamCut_same .lost b (f := .cap) (by decide)
  have hple : (streamLost b).ple = b.ple := streamCut_same .lost b (f := .ple) (by decide)
  have hwrite : ∀ o d, writeAt (streamLost b) o d = writeAt b o d := streamCut_writeAt .lost b
  have hruns : capRunning (streamLost b).cap = true ↔ runs := by rw [hcap, capRunning_iff]
  refine ⟨fun hn => ?_, fun hr hf => ?_, fun hr hf => ?_⟩
  · have hidle : capRunning (streamLost b).cap = false := Bool.eq_false_iff.2 fun hc => hn (hruns.1 hc)
    exact (congrArg Block.cap (capStreamEnd_idle hidle)).trans hcap
  · refine (congrArg Block.cap (capStreamEnd_filling (hruns.2 hr) (hcap ▸ hf))).trans ?_
    simp only [lossDraining, hcap]
    rfl
  · obtain ⟨hc, hlock, hwait, hcaf, hcur, htaken⟩ := capStreamEnd_ended (hruns.2 hr) (hcap ▸ hf)
    rw [hcap, planCancelling_congr hple] at hc
    refine ⟨(congrArg Cap.state hc).trans rfl, (congrArg Cap.stored hc).trans rfl, hlock, hwait, hcaf, hcur,
      (congrArg Cap.endCause hc).trans rfl, fun t ht => ?_⟩
    have ht' := htaken t ((takenOf_congr hple _).trans ht)
    simp only [hcap, hwrite] at ht'
    exact ht'

/-! ### A stream start without sync -/

/-- The block in which a STREAM start plan fails for want of sync. -/
def startFailed (b : Block) : Block := emptyPipeline (enterStopped (cutFrame b))

theorem startFailed_ended (b : Block) : StreamEnded b (startFailed b) := by
  have h := enterStopped_ended b
  refine ⟨?_, h.candidates, h.windows, h.notes⟩
  show { (enterStopped (cutFrame b)).ftu with pipeline := [], dueEntry := none, link := .idle } = _
  rw [h.ftu]
  rfl

theorem startFailed_same (b : Block) {f : Fld}
    (h : f ∉ [.regs, .ntu, .ple, .ftu, .stu, .exu, .zoom, .focus, .zmap, .afu, .sbu, .fsu, .due]) :
    Agree b (startFailed b) f :=
  emptyPipeline_frame (by simp [Among]) (enterStopped_frame (by simp [Among])
    (cutFrame_frame (by simp [Among]) (Changes.refl _ b))) f h

theorem enterStopped_cut_exu (b : Block) : (enterStopped (cutFrame b)).exu = (cutFrame b).exu :=
  enterStopped_same (cutFrame b) (f := .exu) (by decide)

theorem enterStopped_cut_writeAt (b : Block) (o : Nat) (data : List Byte) :
    writeAt (enterStopped (cutFrame b)) o data = writeAt b o data := by
  have hregs : (enterStopped (cutFrame b)).regs = (cutFrame b).regs :=
    enterStopped_same (cutFrame b) (f := .regs) (by decide)
  rw [← cutFrame_writeAt b]
  exact writeAt_congr (congrArg Regs.wbase hregs) (congrArg Regs.wlimit hregs) o data

theorem enterStopped_cut_takenOf {k : PlanKind} (ht : k ≠ .tables) (ha : k ≠ .afSearch) (b : Block) :
    takenOf (enterStopped (cutFrame b)) k = takenOf b k :=
  (enterStopped_takenOf ht ha _).trans (takenOf_congr (cutFrame_same b (x := .ple) (by decide)) k)

theorem noSync_spec {t : Taken} (ht : takenOf b .streamStart = some t) (hr : t.ending = .running) :
    ∃ e : EndingProg,
      (noSync b).ftu = (startFailed b).ftu ∧ (noSync b).exu.inbox = (cutFrame b).exu.inbox ∧
      StreamEnded b (noSync b) ∧ (noSync b).cap = b.cap ∧
      takenOf (noSync b) .streamStart = some { t with ending := .results e } ∧ e.fin = .failed ∧
      e.outstanding =
        [(.outcome, writeAt b (t.offset + 3) [10#8]), (.word, writeAt b (t.offset + 12) (List.replicate 4 0#8)),
         (.area, writeAt b (t.offset + 40) (List.replicate 24 0#8))] := by
  have hrep : noSync b = endPlan .streamStart .failed .noSync (reserved 4) (streamArea 0) (startFailed b) := rfl
  have hsame : ∀ {x : Fld}, x ∉ [.ple, .due] → Agree (startFailed b) (noSync b) x := by
    intro x hx
    rw [hrep]
    exact endPlan_same _ _ _ _ _ (startFailed b) hx
  have hftu : (noSync b).ftu = (startFailed b).ftu := hsame (x := .ftu) (by decide)
  have hended := startFailed_ended b
  have htaken : takenOf (startFailed b) .streamStart = some t :=
    (enterStopped_cut_takenOf (k := .streamStart) nofun nofun b).trans ht
  obtain ⟨e, he, hfin, hout⟩ := startEnding_takenOf htaken .failed .noSync (reserved 4) (streamArea 0)
  have hwrite : ∀ o d, writeAt (startFailed b) o d = writeAt b o d := enterStopped_cut_writeAt b
  refine ⟨e, hftu, ?_, ⟨?_, ?_, ?_, ?_⟩, ?_, ?_, hfin, ?_⟩
  · rw [show (noSync b).exu = _ from hsame (x := .exu) (by decide)]
    exact congrArg Exu.inbox (enterStopped_cut_exu b)
  · rw [hftu]
    exact hended.ftu
  · rw [show (noSync b).afu = _ from hsame (x := .afu) (by decide)]
    exact hended.candidates
  · rw [show (noSync b).sbu = _ from hsame (x := .sbu) (by decide)]
    exact hended.windows
  · rw [show (noSync b).fsu = _ from hsame (x := .fsu) (by decide)]
    exact hended.notes
  · exact Eq.trans (hsame (x := .cap) (by decide)) (startFailed_same b (f := .cap) (by decide))
  · rw [hrep, endPlan_running htaken hr]
    exact he
  · simp only [hout, hwrite]
    rfl

end Ends

/-- Settles O39. -/
theorem syncTimerExpires : Obligations.SyncTimerExpires := by
  intro s b hs hrun ended
  have hrunning : ∀ t, takenOf b .streamStart = some t → t.ending = .running → planRunning b .streamStart = true := by
    intro t ht hr
    simp [planRunning, ht, hr]
  refine ⟨fun h => ?_, fun t h ht hr => ?_⟩
  · have hlose : syncTimeout b = loseStream b := by
      unfold syncTimeout
      rw [if_pos hrun]
      rcases h with h | ⟨h, hp⟩
      · rw [h]
      · rw [h, hp]
        rfl
    have hftu : (loseStream b).ftu = (streamCut .lost b).ftu :=
      capStreamEnd_same (streamLost b) (f := .ftu) (by decide)
    have hkept := capStreamEnd_streamEndKept (streamLost b)
    refine ⟨loseStream b, (runs_syncTimerExpiry hs).of_eq hlose, ?_, ?_, ?_, loseStream_spec b⟩
    · rw [hftu]
      rfl
    · refine hkept.syncLost.trans ?_
      show (setCondIn .syncLost true _).syncLost = true
      unfold setCondIn setFlag
      split
      · split <;> rfl
      · rfl
    · exact (loseStream_ended b).facts hkept.inbox
  · have hstart : syncTimeout b = noSync b := by
      unfold syncTimeout
      rw [if_pos hrun]
      rcases h with h | h
      · rw [h]
      · rw [h]
        exact if_pos (hrunning t ht hr)
    obtain ⟨e, hftu, hinbox, hended, hcap, htaken, hfin, hout⟩ := noSync_spec ht hr
    have hstream : (enterStopped (cutFrame b)).ftu = (streamCut .stopped b).ftu :=
      enterStopped_same (cutFrame b) (f := .ftu) (by decide)
    refine ⟨noSync b, e, (runs_syncTimerExpiry hs).of_eq hstart, ?_, ?_, ?_, hended.facts hinbox, hcap, htaken, hfin,
      hout⟩
    · rw [hftu]
      exact (congrArg Ftu.stream hstream).trans rfl
    · rw [hftu]
      rfl
    · rw [hftu]
      rfl

/-! ### The hand-over of a STREAM stop (R23) -/

section StreamStop
variable {b : Block}

/-- The block in which capture control hears that the stream stops. -/
def streamStopping (b : Block) : Block :=
  setFtu (fun u => { u with link := .idle, stopWaiting := true }) (setCond .syncLost false (enterStopped (cutFrame b)))

theorem streamStopHandOver_running (h : b.ftu.stream ≠ .stopped) :
    streamStopHandOver b = stopIfFree (capStreamEnd (streamStopping b)) := by
  unfold streamStopHandOver
  split
  · next hs => exact absurd hs h
  · rfl

theorem streamStopHandOver_stopped (h : b.ftu.stream = .stopped) :
    streamStopHandOver b =
      endPlan .streamStop .done .ok (leWord b.ftu.frameStarts) (List.replicate 24 0#8) b := by
  unfold streamStopHandOver
  rw [h]
  rfl

theorem stopIfFree_marks (hw : b.ftu.stopWaiting = true) (hc : classBusy b .capture = false) (hd : .streamStop ∉ b.due) :
    stopIfFree b = { b with due := b.due ++ [.streamStop] } :=
  (if_pos ⟨hw, hc⟩).trans (markDue_new hd)

/-- A stop with nothing in progress. -/
theorem streamStopHandOver_quiet (h : b.ftu.stream ≠ .stopped) (hf : b.ftu.frame = none) (hc : b.cap.state = .none)
    (hs : b.afu.search = none) (hl : b.zmap.loading = .idle) (hfree : classBusy b .capture = false)
    (hd : .streamStop ∉ b.due) :
    streamStopHandOver b =
      { b with
        ftu := { b.ftu with stream := .stopped, syncTimer := false, link := .idle, stopWaiting := true }
        ntu := { b.ntu with syncLost := false }
        afu := { b.afu with candidates := [] }
        sbu := { b.sbu with windows := [] }
        fsu := { b.fsu with notes := [] }
        due := b.due ++ [.streamStop] } := by
  have hstopped : enterStopped (cutFrame b) = listsEmptied .stopped b := by
    have hswap : swapTables none (listsEmptied .stopped b) = listsEmptied .stopped b :=
      swapTables_waits (fun t ht => by cases hl.symm.trans ht) none
    have hsearch : searchStreamStopped (listsEmptied .stopped b) = listsEmptied .stopped b :=
      searchStreamStopped_none fun r hr => by cases hs.symm.trans hr
    rw [cutFrame_none hf, enterStopped_eq, hswap, hsearch]
  have hidle : capRunning (streamStopping b).cap = false := by
    have hcap : (streamStopping b).cap = b.cap := by
      unfold streamStopping
      rw [hstopped]
      rfl
    rw [hcap, capRunning, hc]
  rw [streamStopHandOver_running h, capStreamEnd_idle hidle, streamStopping, hstopped]
  exact stopIfFree_marks rfl hfree hd

theorem stopIfFree_same (b : Block) {f : Fld} (h : f ∉ [.due]) : Agree b (stopIfFree b) f :=
  stopIfFree_frame (Among.refl _) (Changes.refl _ b) f h

theorem streamStopping_same {f : Fld} (b : Block) (h : f ∉ [.ntu, .ple, .ftu, .zoom, .focus, .zmap, .afu, .due]) :
    Agree (streamCut .stopped b) (streamStopping b) f := by
  have hstopped : Changes [.ple, .zoom, .focus, .zmap, .afu, .due] (streamCut .stopped b) (enterStopped (cutFrame b)) :=
    fun _ hx => enterStopped_same (cutFrame b) hx
  have hmore := hstopped.mono (l := [.ntu, .ple, .ftu, .zoom, .focus, .zmap, .afu, .due]) (by simp [Among])
  exact setFtu_frame _ (by simp [Among]) (setCond_frame .syncLost false (by simp [Among]) hmore) f h

theorem streamStopping_ended (b : Block) : StreamEnded b (streamStopping b) := by
  have h := enterStopped_ended b
  refine ⟨?_, h.candidates, h.windows, h.notes⟩
  show { (enterStopped (cutFrame b)).ftu with link := .idle, stopWaiting := true } = _
  rw [h.ftu]
  rfl

theorem streamStopping_stream (b : Block) : (streamStopping b).ftu.stream = .stopped := by
  have hftu : (enterStopped (cutFrame b)).ftu = (streamCut .stopped b).ftu :=
    enterStopped_same (cutFrame b) (f := .ftu) (by decide)
  exact (congrArg Ftu.stream hftu).trans rfl

/-- A stop that finds a set of tables waiting swaps it. -/
theorem streamStopping_swaps {new : Tables} (h : b.zmap.loading = .ready new) :
    (streamStopping b).zmap.tables = some new ∧ (streamStopping b).zmap.loading = .idle ∧
    ∀ t, takenOf b .tables = some t → t.ending = .running →
      ∃ e, takenOf (streamStopping b) .tables = some { t with ending := .results e } ∧ e.fin = .done ∧
        (ResultWrite.area, writeAt b (t.offset + 40) (tablesArea false 0 0 0)) ∈ e.outstanding := by
  let c := streamCut .stopped b
  have hload : c.zmap.loading = .ready new :=
    (congrArg Zmap.loading (streamCut_same .stopped b (f := .zmap) (by decide))).trans h
  have hple : c.ple = b.ple := streamCut_same .stopped b (f := .ple) (by decide)
  have hzmap : (streamStopping b).zmap = (swapTables none c).zmap := (searchStreamStopped_keeps _).1
  have htaken : takenOf (streamStopping b) .tables = takenOf (swapTables none c) .tables :=
    searchStreamStopped_takenOf_other (k := .tables) nofun _
  obtain ⟨htables, _, hidle⟩ := swapTables_zmap hload none
  refine ⟨by rw [hzmap, htables], by rw [hzmap, hidle], fun t ht hr => ?_⟩
  obtain ⟨e, he, hfin, hout⟩ := swapTables_done hload ((takenOf_congr hple _).trans ht) hr none
  rw [streamCut_writeAt] at hout
  exact ⟨e, htaken.trans he, hfin, hout⟩

/-- A stop ends a search that has not ended. -/
theorem streamStopping_search {sr : Search} (h : b.afu.search = some sr) (he : sr.ended = none) :
    (b.afu.writes = [] → (streamStopping b).afu.search = none) ∧
    (b.afu.writes ≠ [] → (streamStopping b).afu.search =
      some { sr with moving := false, ended := some (.failed, .notStreaming, .notStreaming) }) := by
  let d := swapTables none (streamCut .stopped b)
  obtain ⟨l, hcut⟩ := cutFrame_afu b
  have hafu : d.afu = { b.afu with inbox := l, candidates := [] } := by
    rw [show d.afu = (streamCut .stopped b).afu from swapTables_same none _ (f := .afu) (by decide)]
    exact congrArg (fun a : Afu => { a with candidates := [] }) hcut
  obtain ⟨hnone, hsome⟩ := searchStreamStopped_search (b := d) (by rw [hafu]; exact h) he
  rw [hafu] at hnone hsome
  exact ⟨hnone, hsome⟩

/-- What a stop leaves of capture control. -/
theorem streamStopping_cap (b : Block) :
    (streamStopping b).cap = b.cap ∧ takenOf (streamStopping b) .capture = takenOf b .capture :=
  ⟨Eq.trans (streamStopping_same b (f := .cap) (by decide)) (streamCut_same .stopped b (f := .cap) (by decide)),
    enterStopped_cut_takenOf (k := .capture) nofun nofun b⟩

/-- A capture that runs without a cause ends with SYNC_LOST. -/
theorem streamStopping_capture (hstate : b.cap.state = .armed ∨ b.cap.state = .storing) (hcause : b.cap.endCause = none)
    (hcancel : planCancelling b .capture = false) :
    (capStreamEnd (streamStopping b)).cap.endCause = some .syncLost ∧
      (capStreamEnd (streamStopping b)).cap.state = if b.cap.filling then .draining else .ended := by
  obtain ⟨hcap, htaken⟩ := streamStopping_cap b
  have hruns : capRunning (streamStopping b).cap = true := by
    rw [hcap, capRunning_iff]
    exact hstate.imp id .inl
  cases hf : b.cap.filling with
  | true =>
    rw [capStreamEnd_filling hruns (hcap ▸ hf), lossDraining, hcap, hcause]
    exact ⟨rfl, rfl⟩
  | false =>
    obtain ⟨hc, _⟩ := capStreamEnd_ended hruns (hcap ▸ hf)
    have hnot : planCancelling (streamStopping b) .capture = false := by
      rw [← hcancel]
      unfold planCancelling
      rw [htaken]
    rw [hc, hcap, hcause, hnot]
    exact ⟨rfl, rfl⟩

theorem streamStopComplete_free (hw : b.ftu.stopWaiting = true) (hc : classBusy b .capture = false) :
    streamStopComplete b =
      endPlan .streamStop .done .ok (leWord b.ftu.frameStarts) (List.replicate 24 0#8)
        { b with
          ftu := { b.ftu with
            pipeline := [], dueEntry := none, link := .idle, lineMeasured := false, stopWaiting := false }
          due := b.due.filter (· ≠ .dueEntry) } := by
  unfold streamStopComplete
  rw [if_pos ⟨hw, hc⟩]
  unfold stopComplete emptyPipeline
  rw [dropDue_eq]
  rfl

end StreamStop

/-- Settles O26. -/
theorem streamStopHandOver_holds : Obligations.StreamStopHandOver := by
  refine ⟨fun b => streamStopHandOver_stopped, fun b h hf hc hs hl hfree hd => streamStopHandOver_quiet h hf hc hs hl hfree hd,
    fun b h => ?_, fun s b hd hb hw hc => (runs_streamStopComplete hd hb).of_eq (streamStopComplete_free hw hc)⟩
  intro b'
  let d := streamStopping b
  let c := capStreamEnd d
  have hb' : b' = stopIfFree c := streamStopHandOver_running h
  have hsame : ∀ {f : Fld}, f ∉ [.due] → Agree c b' f := by
    intro f hx
    rw [hb']
    exact stopIfFree_same c hx
  have hcd : ∀ {f : Fld}, f ∉ [.ntu, .ple, .exu, .focus, .zmap, .afu, .cap, .fsu, .due] → Agree d c f :=
    capStreamEnd_same d
  have hkept : StreamEndKept d c := capStreamEnd_streamEndKept d
  have hended : StreamEnded b d := streamStopping_ended b
  have hftu : b'.ftu = d.ftu := Eq.trans (hsame (f := .ftu) (by decide)) (hcd (f := .ftu) (by decide))
  have hntu : b'.ntu = c.ntu := hsame (f := .ntu) (by decide)
  have hafu : b'.afu = c.afu := hsame (f := .afu) (by decide)
  have hsbu : b'.sbu = d.sbu := Eq.trans (hsame (f := .sbu) (by decide)) (hcd (f := .sbu) (by decide))
  have hfsu : b'.fsu = c.fsu := hsame (f := .fsu) (by decide)
  have hexu : b'.exu.inbox = (cutFrame b).exu.inbox := by
    rw [show b'.exu = c.exu from hsame (f := .exu) (by decide), hkept.inbox]
    exact congrArg Exu.inbox (streamStopping_same b (f := .exu) (by decide))
  have hstu : b'.stu = (cutFrame b).stu :=
    Eq.trans (hsame (f := .stu) (by decide)) (Eq.trans (hcd (f := .stu) (by decide))
      (streamStopping_same b (f := .stu) (by decide)))
  have hzmap : b'.zmap = c.zmap := hsame (f := .zmap) (by decide)
  have htables : takenOf b' .tables = takenOf d .tables :=
    (takenOf_congr (hsame (f := .ple) (by decide)) _).trans (hkept.taken .tables nofun)
  have hb'ended : StreamEnded b b' := by
    refine ⟨?_, ?_, ?_, ?_⟩
    · rw [hftu]
      exact hended.ftu
    · rw [hafu]
      exact hkept.candidates hended.candidates
    · rw [hsbu]
      exact hended.windows
    · rw [hfsu]
      exact hkept.notes.trans hended.notes
  obtain ⟨htimer, hframe, htime, hno, hstarts, hfmt, hcand, hwin, hnotes, hraise⟩ := hb'ended.facts hexu
  refine ⟨?_, htimer, hframe, ?_, ?_, hstarts, hno, hfmt, htime, ?_, hcand, hwin, hnotes, ?_,
    fun f sf g l hf he hsf hg hl => ?_, fun f hf he => ?_, fun new hl => ?_, fun sr hsr he => ?_,
    fun hstate hcause hcancel => ?_⟩
  · rw [hftu]
    exact streamStopping_stream b
  · rw [hftu]
    rfl
  · rw [hftu]
    rfl
  · rw [hntu, hkept.syncLost]
    rfl
  · split
    · next hnone => rw [hstu, cutFrame_none hnone]
    · rfl
  · obtain ⟨r, hr, hk, hcut, hvalid, hcount⟩ := hraise f sf g l hf he hsf hg hl
    exact ⟨r, hr, hk, hcut, hvalid, hcount, by rw [hstu, (cutFrame_raises hf he hsf hg hl).1]⟩
  · rw [hexu, hstu, cutFrame_ended hf he]
    exact ⟨rfl, rfl⟩
  · obtain ⟨ht, hi, hp⟩ := streamStopping_swaps hl
    rw [hzmap, hkept.tables, hkept.loading, htables]
    exact ⟨ht, hi, hp⟩
  · rw [hafu, hkept.search]
    exact streamStopping_search hsr he
  · rw [show b'.cap = c.cap from hsame (f := .cap) (by decide)]
    exact streamStopping_capture hstate hcause hcancel

end Sys2Proof.Machine
end

section
/-!
The settings pipeline: the link (R34), creation and the due entry (R30, R32), releases (R33), window-open (R29), and the
order of the entries (R31).
-/

namespace Sys2Proof.Machine

/-! ### The link (R34) -/

section Link
variable {b : Block}

theorem startSend_waiting {e g : Nat} (h : b.ftu.link = .waiting e g) : startSend b = b := by
  unfold startSend
  rw [h]

theorem startSend_none (h : ∀ x ∈ b.ftu.pipeline, x.send ≠ .unsent) : startSend b = b := by
  unfold startSend
  split
  · rfl
  · rw [List.find?_eq_none.2 fun x hx => by simpa using h x hx]

theorem startSend_sends {x : Entry} (hl : b.ftu.link = .idle)
    (h : b.ftu.pipeline.find? (fun y => y.send == .unsent) = some x) :
    startSend b =
      { b with ftu := { b.ftu with
          link := .waiting x.e x.g
          pipeline := b.ftu.pipeline.map fun y => if y.send = .unsent ∧ y.k = x.k then { y with send := .sending } else y } } := by
  unfold startSend
  rw [hl]
  dsimp only
  rw [h]
  rfl

theorem startSend_length (b : Block) : (startSend b).ftu.pipeline.length = b.ftu.pipeline.length := by
  unfold startSend
  split
  · rfl
  · split
    · rfl
    · exact List.length_map _

/-- The entries after an ACK. -/
def ackedEntries (l : List Entry) : List Entry :=
  l.map fun x => if x.send = .sending then { x with send := .acknowledged } else x

/-- The send in flight is completed. -/
def sendCompleted (b : Block) : Block :=
  { b with ftu := { b.ftu with link := .idle, pipeline := ackedEntries b.ftu.pipeline } }

theorem acknowledge_idle (h : b.ftu.link = .idle) : acknowledge b = b := by
  unfold acknowledge
  rw [h]

theorem acknowledge_waiting {e g : Nat} (h : b.ftu.link = .waiting e g) :
    acknowledge b = if b.ftu.stream = .stopped then sendCompleted b else startSend (sendCompleted b) := by
  unfold acknowledge
  rw [h]
  rfl

theorem ackedEntries_unsent {l : List Entry} (h : ∀ x ∈ l, x.send ≠ .unsent) : ∀ x ∈ ackedEntries l, x.send ≠ .unsent := by
  intro x hx
  obtain ⟨y, hy, rfl⟩ := List.mem_map.1 hx
  split
  · exact nofun
  · exact h y hy

end Link

/-- Settles O40. -/
theorem ackCompletesSend : Obligations.AckCompletesSend := by
  intro s b hs
  refine ⟨fun h => (runs_settingsAck hs).of_eq (acknowledge_idle h), fun e g h => ?_⟩
  intro acked
  refine ⟨fun hquiet => (runs_settingsAck hs).of_eq ?_, fun x hstream hx => (runs_settingsAck hs).of_eq ?_⟩
  · rw [acknowledge_waiting h]
    rcases hquiet with hstop | hsent
    · exact if_pos hstop
    · rw [startSend_none (b := sendCompleted b) (ackedEntries_unsent hsent)]
      exact ite_self _
  · rw [acknowledge_waiting h, if_neg hstream]
    exact startSend_sends (b := sendCompleted b) rfl hx

/-! ### Creation (R30, R32) -/

theorem insertEntry_length (e : Entry) (l : List Entry) : (insertEntry e l).length = l.length + 1 := by
  induction l with
  | nil => rfl
  | cons x rest ih =>
    unfold insertEntry
    split
    · rfl
    · rw [List.length_cons, ih, List.length_cons]

section Creation
variable {b : Block} {fmt : StreamParams}

theorem callEntry_full (hf : b.ftu.fmt = some fmt) (h : fmt.latency < b.ftu.pipeline.length) (d : DueEntry) :
    callEntry d b = { b with ftu := { b.ftu with dueEntry := some d } } := by
  unfold callEntry
  rw [hf]
  exact if_neg (Nat.not_le.2 h)

theorem callEntry_room (hf : b.ftu.fmt = some fmt) (h : b.ftu.pipeline.length ≤ fmt.latency) (d : DueEntry) :
    callEntry d b = joinEntry fmt d b := by
  unfold callEntry
  rw [hf]
  exact if_pos h

theorem joinEntry_length (d : DueEntry) (b : Block) :
    (joinEntry fmt d b).ftu.pipeline.length = b.ftu.pipeline.length + 1 := by
  cases d with
  | create k => exact (startSend_length _).trans (insertEntry_length _ _)
  | copy e => exact insertEntry_length _ _

theorem makeDueEntry_room {d : DueEntry} (hd : b.ftu.dueEntry = some d) (hf : b.ftu.fmt = some fmt)
    (hs : b.ftu.stream ≠ .lost) (h : b.ftu.pipeline.length ≤ fmt.latency) :
    makeDueEntry b =
      if frameAbove d.key b.ftu.frameNo then
        lateWindowOpen (joinEntry fmt d { b with ftu := { b.ftu with dueEntry := none } })
      else { b with ftu := { b.ftu with dueEntry := none } } := by
  unfold makeDueEntry
  rw [hd, hf]
  exact if_neg fun hc => hc.elim hs (Nat.not_lt.2 h)

theorem lateWindowOpen_none (h : b.ftu.frame = none) : lateWindowOpen b = b := by
  unfold lateWindowOpen
  rw [h]

theorem makeEntry_first {e : Entry} (hs : b.ftu.stream = .measuring) (hm : b.ftu.lineMeasured = false)
    (h : b.ftu.first = some e) (k : Word) : makeEntry b fmt k = { e with k := k, send := .unsent } := by
  unfold makeEntry
  rw [if_pos ⟨hs, hm⟩]
  unfold firstEntry
  rw [h]

theorem makeEntry_program (h : b.ftu.stream ≠ .measuring ∨ b.ftu.lineMeasured = true) (k : Word) :
    makeEntry b fmt k = programEntry b fmt k := by
  refine if_neg fun hc => ?_
  rcases h with h | h
  · exact h hc.1
  · exact Bool.false_ne_true (hc.2.symm.trans h)

end Creation

/-! ### The late acknowledge (R35) -/

section Late
variable {b : Block} {fmt : StreamParams} {k : Word}

/-- The entries after the late ones are re-keyed by l frames. -/
def rekeyed (k l : Word) (es : List Entry) : List Entry :=
  es.map fun e => if e.send = .acknowledged then e else { e with k := k + l }

theorem rekeyed_eq (k l : Word) (es : List Entry) :
    (es.map fun e => if e.isLate then { e with k := k + l } else e) = rekeyed k l es := by
  refine List.map_congr_left fun e _ => ?_
  by_cases h : e.send = .acknowledged <;> simp [Entry.isLate, h]

/-- The block in which the copy for a late entry is called for. -/
def lateRekeyed (k l : Word) (b : Block) : Block :=
  { b with ftu := { b.ftu with pipeline := rekeyed k l b.ftu.pipeline } }

theorem rekeyLate_eq (hf : b.ftu.fmt = some fmt) (k : Word) :
    let l := BitVec.ofNat 32 fmt.latency
    rekeyLate k b =
      match entryOf b (k + l - 2) with
      | none => lateRekeyed k l b
      | some e => callEntry (.copy (copyEntry e (k + l - 1))) (lateRekeyed k l b) := by
  have hl : latencyOf b = fmt.latency := by
    unfold latencyOf
    rw [hf]
    rfl
  intro l
  unfold rekeyLate lateRekeyed
  rw [hl, ← rekeyed_eq]
  rfl

theorem rekeyLate_cases (hf : b.ftu.fmt = some fmt) :
    let l := BitVec.ofNat 32 fmt.latency
    let keyed := b.ftu.pipeline.map fun e => if e.send = .acknowledged then e else { e with k := k + l }
    (entryOf b (k + l - 2) = none → rekeyLate k b = { b with ftu := { b.ftu with pipeline := keyed } }) ∧
    ∀ e, entryOf b (k + l - 2) = some e →
      let copy :=
        { e with k := k + l - 1, late := true, role := .pending, meterReleased := false, recordReleased := false }
      (fmt.latency < b.ftu.pipeline.length →
        rekeyLate k b = { b with ftu := { b.ftu with pipeline := keyed, dueEntry := some (.copy copy) } }) ∧
      (b.ftu.pipeline.length ≤ fmt.latency →
        rekeyLate k b = { b with ftu := { b.ftu with pipeline := insertEntry copy keyed } }) := by
  intro l keyed
  have hlen : keyed.length = b.ftu.pipeline.length := List.length_map _
  refine ⟨fun h => ?_, fun e h => ⟨fun hroom => ?_, fun hroom => ?_⟩⟩
  · rw [rekeyLate_eq hf, h]
    rfl
  · rw [rekeyLate_eq hf, h]
    exact callEntry_full (b := lateRekeyed k l b) hf (hlen.symm ▸ hroom) _
  · rw [rekeyLate_eq hf, h]
    exact (callEntry_room (b := lateRekeyed k l b) hf (hlen.symm ▸ hroom) _).trans rfl

end Late

/-! ### Releases (R33) -/

section Releases
variable {b : Block}

/-- An entry that is not closing with both releases. -/
def entryStays (e : Entry) : Bool := decide (¬(e.role = .closing ∧ e.meterReleased = true ∧ e.recordReleased = true))

theorem entryStays_eq (e : Entry) : (!e.retired) = entryStays e := by
  rw [Bool.eq_iff_iff]
  simp [entryStays, Entry.retired, or_assoc]

/-- Retiring, with the list of entries before and the list after. -/
theorem retire_quiet (h : b.ftu.dueEntry = none ∨ b.ftu.stream = .lost ∨
      (b.ftu.pipeline.filter entryStays).length = b.ftu.pipeline.length) :
    retire b = { b with ftu := { b.ftu with pipeline := b.ftu.pipeline.filter entryStays } } := by
  have hl : (b.ftu.pipeline.filter fun e => !e.retired) = b.ftu.pipeline.filter entryStays :=
    List.filter_congr fun e _ => entryStays_eq e
  unfold retire setFtu
  dsimp only
  rw [hl]
  refine if_neg fun hc => ?_
  obtain ⟨hd, hs, _, hlt⟩ := hc
  rcases h with h | h | h
  · rw [h] at hd
    cases hd
  · exact hs h
  · exact Nat.lt_irrefl _ (h ▸ hlt)

theorem retire_marks {fmt : StreamParams} (hd : b.ftu.dueEntry ≠ none) (hs : b.ftu.stream ≠ .lost)
    (hf : b.ftu.fmt = some fmt) (hlen : b.ftu.pipeline.length ≤ fmt.latency + 1)
    (hlt : (b.ftu.pipeline.filter entryStays).length < b.ftu.pipeline.length) (hnew : .dueEntry ∉ b.due) :
    retire b =
      { b with ftu := { b.ftu with pipeline := b.ftu.pipeline.filter entryStays }, due := b.due ++ [.dueEntry] } := by
  have hl : (b.ftu.pipeline.filter fun e => !e.retired) = b.ftu.pipeline.filter entryStays :=
    List.filter_congr fun e _ => entryStays_eq e
  unfold retire setFtu latencyOf
  dsimp only
  rw [hl, hf]
  refine (if_pos ⟨Option.isSome_iff_ne_none.2 hd, hs, ?_, hlt⟩).trans (markDue_new hnew)
  exact Nat.le_of_lt_succ (Nat.lt_of_lt_of_le hlt hlen)

/-- The release of an entry by a change g of the entries of a frame. -/
theorem release_cases (g : Entry → Entry) (b : Block) :
    let l := (b.ftu.pipeline.map g).filter entryStays
    let r := retire { b with ftu := { b.ftu with pipeline := b.ftu.pipeline.map g } }
    (b.ftu.dueEntry = none ∨ b.ftu.stream = .lost ∨ l.length = b.ftu.pipeline.length →
      r = { b with ftu := { b.ftu with pipeline := l } }) ∧
    (∀ fmt, b.ftu.dueEntry ≠ none → b.ftu.stream ≠ .lost → b.ftu.fmt = some fmt →
      b.ftu.pipeline.length ≤ fmt.latency + 1 → l.length < b.ftu.pipeline.length → .dueEntry ∉ b.due →
      r = { b with ftu := { b.ftu with pipeline := l }, due := b.due ++ [.dueEntry] }) := by
  intro l r
  have hlen : (b.ftu.pipeline.map g).length = b.ftu.pipeline.length := List.length_map g
  refine ⟨fun h => ?_, fun fmt hd hs hf hle hlt hnew => ?_⟩
  · refine retire_quiet ?_
    exact h.imp id (.imp id fun heq => heq.trans hlen.symm)
  · exact retire_marks (b := { b with ftu := { b.ftu with pipeline := b.ftu.pipeline.map g } }) hd hs hf
      (hlen.symm ▸ hle) (hlen.symm ▸ hlt) hnew

end Releases

/-! ### Window-open (R29) -/

section WindowOpen
variable {b : Block} {fmt : StreamParams} {f : FrameProg} {e : Entry}

theorem dropOldest_eq {α : Type} (l : List α) :
    (if l.length < Config.listLimit then l else l.drop 1) = l.drop (if l.length < 4 then 0 else 1) := by
  by_cases h : l.length < 4
  · rw [if_pos h]
    exact if_pos h
  · rw [if_neg h]
    exact if_neg h

/-- The block after a window-open of the frame that follows f. -/
def windowOpened (f : FrameProg) (b : Block) : Block :=
  { b with
    ftu := { b.ftu with frame := some { f with opened := true } }
    afu := { b.afu with
      candidates := b.afu.candidates.drop (if b.afu.candidates.length < 4 then 0 else 1) ++
        [{ k := f.k + 1, still := decide (b.focus.state = .idle) }] }
    sbu := { b.sbu with
      windows := b.sbu.windows.drop (if b.sbu.windows.length < 4 then 0 else 1) ++
        [{ k := f.k + 1, peak := max b.sbu.pitch.s.natAbs b.sbu.yaw.s.natAbs }] }
    fsu := { b.fsu with
      notes := b.fsu.notes.drop (if b.fsu.notes.length < 4 then 0 else 1) ++
        [{ k := f.k + 1, focus := position b.focus }] } }

theorem raiseWindowOpen_eq (f : FrameProg) (b : Block) : raiseWindowOpen f b = windowOpened f b := by
  have hidle : (b.focus.state == .idle) = decide (b.focus.state = .idle) := beq_eq_decide _ _
  unfold windowOpened
  rw [← dropOldest_eq, ← dropOldest_eq, ← dropOldest_eq, ← hidle]
  rfl

theorem lineWindowOpen_cases (h : b.ftu.frame = some f) (he : entryOf b (f.k + 1) = some e) (j : Nat) :
    lineWindowOpen fmt j b = if f.opened = false ∧ fmt.lines - e.e = j then windowOpened f b else b := by
  unfold lineWindowOpen
  rw [h]
  dsimp only
  rw [he, ← raiseWindowOpen_eq]
  rfl

theorem lateWindowOpen_cases (hf : b.ftu.fmt = some fmt) (h : b.ftu.frame = some f) (he : entryOf b (f.k + 1) = some e) :
    lateWindowOpen b = if f.opened = false ∧ fmt.lines - e.e < f.ls then windowOpened f b else b := by
  unfold lateWindowOpen
  rw [h, hf]
  dsimp only
  rw [he, ← raiseWindowOpen_eq]
  rfl

end WindowOpen

/-! ### The order of the entries (R31) -/

/-- Within half the number space above a base, a frame is above another as its distance from the base is greater. -/
theorem frameAbove_iff {base x y : Word} (hx : (x - base).toNat < 2147483648) (hy : (y - base).toNat < 2147483648) :
    frameAbove y x = true ↔ (x - base).toNat < (y - base).toNat := by
  have hsub : (y - x).toNat = ((y - base) - (x - base)).toNat := by
    rw [sub_sub_sub_cancel_right]
  have hne : y ≠ x ↔ (y - base).toNat ≠ (x - base).toNat := by
    rw [not_iff_not]
    constructor
    · rintro rfl
      rfl
    · intro h
      exact sub_left_injective (BitVec.eq_of_toNat_eq h)
  unfold frameAbove
  rw [Bool.and_eq_true, bne_iff_ne, decide_eq_true_iff, hne, hsub,
    BitVec.toNat_sub (y - base) (x - base)]
  generalize (y - base).toNat = n at *
  generalize (x - base).toNat = m at *
  omega

/-- An entry that joins keeps the order. -/
theorem insertEntry_pairwise {base : Word} {e : Entry} {l : List Entry}
    (hbase : ∀ x ∈ e :: l, (x.k - base).toNat < 2147483648) (hne : ∀ x ∈ l, x.k ≠ e.k)
    (hl : l.Pairwise fun x y => frameAbove y.k x.k = true) :
    (insertEntry e l).Pairwise fun x y => frameAbove y.k x.k = true := by
  have hmem : ∀ (l : List Entry) (y : Entry), y ∈ insertEntry e l → y = e ∨ y ∈ l := by
    intro l y hy
    induction l with
    | nil => exact .inl (List.mem_singleton.1 hy)
    | cons x rest ih =>
      unfold insertEntry at hy
      split at hy
      · exact List.mem_cons.1 hy
      · rcases List.mem_cons.1 hy with rfl | hy
        · exact .inr (.head _)
        · exact (ih hy).imp id (.tail _)
  have he : (e.k - base).toNat < 2147483648 := hbase e (.head _)
  induction l with
  | nil => exact List.pairwise_singleton _ _
  | cons x rest ih =>
    obtain ⟨hx, hrest⟩ := List.pairwise_cons.1 hl
    have hxb : (x.k - base).toNat < 2147483648 := hbase x (.tail _ (.head _))
    unfold insertEntry
    split
    · next habove =>
      refine List.pairwise_cons.2 ⟨fun y hy => ?_, hl⟩
      rcases List.mem_cons.1 hy with rfl | hy
      · exact habove
      · have hyb : (y.k - base).toNat < 2147483648 := hbase y (.tail _ (.tail _ hy))
        rw [frameAbove_iff he hyb]
        exact Nat.lt_trans ((frameAbove_iff he hxb).1 habove) ((frameAbove_iff hxb hyb).1 (hx y hy))
    · next hbelow =>
      have hex : frameAbove e.k x.k = true := by
        rw [frameAbove_iff hxb he]
        have hle := Nat.le_of_not_lt (mt (frameAbove_iff he hxb).2 hbelow)
        refine Nat.lt_of_le_of_ne hle fun heq => hne x (.head _) ?_
        exact sub_left_injective (BitVec.eq_of_toNat_eq heq)
      refine List.pairwise_cons.2 ⟨fun y hy => ?_, ih (fun y hy => hbase y ?_) (fun y hy => hne y (.tail _ hy)) hrest⟩
      · rcases hmem rest y hy with rfl | hy
        · exact hex
        · exact hx y hy
      · rcases List.mem_cons.1 hy with rfl | hy
        · exact .head _
        · exact .tail _ (.tail _ hy)

/-- Settles O41. -/
theorem entryCalls : Obligations.EntryCalls := by
  refine ⟨fun b d fmt hf => ⟨fun h => callEntry_full hf h d, fun h => ⟨?_, fun k hd => ?_, fun e hd => ?_⟩⟩,
    fun s b k fmt hd hb hdue hf hs hroom => ⟨fun habove => ?_, fun habove => ?_, fun c => ⟨lateWindowOpen_none,
      fun e g => startSend_waiting⟩⟩,
    fun b fmt k => ⟨fun e hs hm h => makeEntry_first hs hm h k, fun h => makeEntry_program h k⟩,
    fun b k fmt hf => rekeyLate_cases hf, fun b k => ?_, fun b fmt f e hf h he => ?_,
    fun base e l hbase hne hl => insertEntry_pairwise hbase hne hl⟩
  · rw [callEntry_room hf h]
    exact joinEntry_length d b
  · rw [callEntry_room hf h, hd]
    rfl
  · rw [callEntry_room hf h, hd]
    rfl
  · refine (runs_dueEntryCreate hd hb).of_eq ((makeDueEntry_room hdue hf hs hroom).trans ?_)
    exact if_neg (by simp [DueEntry.key, habove])
  · refine (runs_dueEntryCreate hd hb).of_eq ((makeDueEntry_room hdue hf hs hroom).trans ?_)
    exact if_pos habove
  · intro stays metered recorded x hx
    rcases List.mem_pair.1 hx with rfl | rfl
    · exact release_cases (fun e => if e.k = k then { e with meterReleased := true } else e) b
    · exact release_cases (fun e => if e.k = k then { e with recordReleased := true } else e) b
  · intro opened
    refine ⟨fun j ho hj => ?_, fun j hno => ?_, fun ho hlt => ?_, fun hno => ?_⟩
    · rw [lineWindowOpen_cases h he]
      exact if_pos ⟨ho, hj.symm⟩
    · rw [lineWindowOpen_cases h he]
      refine if_neg fun hc => ?_
      exact hno.elim (fun ht => Bool.false_ne_true (hc.1.symm.trans ht)) fun hj => hj hc.2.symm
    · rw [lateWindowOpen_cases hf h he]
      exact if_pos ⟨ho, hlt⟩
    · rw [lateWindowOpen_cases hf h he]
      refine if_neg fun hc => ?_
      exact hno.elim (fun ht => Bool.false_ne_true (hc.1.symm.trans ht)) fun hle => Nat.not_lt.2 hle hc.2

end Sys2Proof.Machine
end

section
/-!
The step conversions (R49, R50), rounding, and the values of the zoom map (R95, R96, R103, R108).
-/

namespace Sys2Proof.Machine

/-! ### Steps (R49, R50) -/

theorem lg16_eq {n k : Nat} (hlo : 2 ^ k ≤ n) (hhi : n < 2 ^ (k + 1)) : lg16 n = 16 * k + 16 * (n - 2 ^ k) / 2 ^ k := by
  have hn : n ≠ 0 := Nat.ne_of_gt (Nat.lt_of_lt_of_le (Nat.two_pow_pos k) hlo)
  have hlog : Nat.log2 n = k := (Nat.log2_eq_iff hn).2 ⟨hlo, hhi⟩
  unfold lg16
  rw [hlog]

/-- The sixteenths of a step lie below 16. -/
theorem lg16_fraction_lt {n k : Nat} (hlo : 2 ^ k ≤ n) (hhi : n < 2 ^ (k + 1)) : 16 * (n - 2 ^ k) / 2 ^ k < 16 := by
  rw [Nat.div_lt_iff_lt_mul (Nat.two_pow_pos k)]
  rw [Nat.pow_succ] at hhi
  omega

theorem ex16_of {k q : Nat} (h : q < 16) : ex16 (16 * k + q) = (16 + q) * 2 ^ k / 16 := by
  have hmod : (16 * k + q) % 16 = q := by omega
  have hdiv : (16 * k + q) / 16 = k := by omega
  unfold ex16
  rw [hmod, hdiv]

/-- Turning lines into steps and back never gives more lines, and at least one. -/
theorem ex16_lg16 {n : Nat} (hn : 1 ≤ n) : 1 ≤ ex16 (lg16 n) ∧ ex16 (lg16 n) ≤ n := by
  obtain ⟨hlo, hhi⟩ := (Nat.log2_eq_iff (Nat.ne_of_gt hn)).1 rfl
  generalize Nat.log2 n = k at hlo hhi
  have hpos : 0 < 2 ^ k := Nat.two_pow_pos k
  have hmul : 16 * (n - 2 ^ k) / 2 ^ k * 2 ^ k ≤ 16 * (n - 2 ^ k) := Nat.div_mul_le_self _ _
  rw [lg16_eq hlo hhi, ex16_of (lg16_fraction_lt hlo hhi), Nat.add_mul]
  omega

theorem lg16_le {n : Nat} (hn : 1 ≤ n) (h : n ≤ 65535) : lg16 n ≤ 255 := by
  obtain ⟨hlo, hhi⟩ := (Nat.log2_eq_iff (Nat.ne_of_gt hn)).1 rfl
  have hk : Nat.log2 n < 16 := (Nat.log2_lt (Nat.ne_of_gt hn)).2 (by omega)
  have hq := lg16_fraction_lt hlo hhi
  rw [lg16_eq hlo hhi]
  omega

theorem ex16_le_succ (s : Nat) : ex16 s ≤ ex16 (s + 1) := by
  obtain ⟨k, q, hq, rfl⟩ : ∃ k q, q < 16 ∧ s = 16 * k + q := ⟨s / 16, s % 16, by omega, by omega⟩
  rw [ex16_of hq]
  by_cases hlast : q = 15
  · have hnext : 16 * k + q + 1 = 16 * (k + 1) + 0 := by omega
    rw [hnext, ex16_of (by omega), hlast, Nat.pow_succ]
    omega
  · rw [Nat.add_assoc, ex16_of (by omega)]
    exact Nat.div_le_div_right (Nat.mul_le_mul_right _ (by omega))

theorem ex16_mono {s t : Nat} (h : s ≤ t) : ex16 s ≤ ex16 t := monotone_nat_of_le_succ ex16_le_succ h

/-! ### Rounding -/

/-- The quotient of magnitudes, rounded half up, is at most half off, and above the value where it is half off. -/
theorem roundHalfUp_spec {a d : Nat} (hd : 0 < d) :
    let q := (2 * a + d) / (2 * d)
    2 * ((a : Int) - q * d).natAbs ≤ d ∧ (2 * ((a : Int) - q * d).natAbs = d → a < q * d) := by
  intro q
  have hle : q * (2 * d) ≤ 2 * a + d := Nat.div_mul_le_self _ _
  have hlt : 2 * a + d < (q + 1) * (2 * d) := by
    have := Nat.lt_mul_div_succ (2 * a + d) (show 0 < 2 * d by omega)
    rw [Nat.mul_comm (q + 1)]
    exact this
  have hmul : q * (2 * d) = 2 * (q * d) := by rw [Nat.mul_left_comm]
  have hsucc : (q + 1) * (2 * d) = 2 * (q * d) + 2 * d := by rw [Nat.add_mul, hmul, Nat.one_mul]
  rw [← Nat.cast_mul]
  omega

theorem roundHalfAway_nonneg {num den : Int} (hd : 0 < den) (hn : 0 ≤ num) :
    roundHalfAway num den = ((2 * num.natAbs + den.natAbs) / (2 * den.natAbs) : Nat) := by
  refine if_pos ?_
  rw [eq_iff_iff]
  omega

theorem roundHalfAway_neg {num den : Int} (hd : 0 < den) (hn : num < 0) :
    roundHalfAway num den = -((2 * num.natAbs + den.natAbs) / (2 * den.natAbs) : Nat) := by
  refine if_neg ?_
  rw [eq_iff_iff]
  omega

theorem roundHalfAway_spec {num den : Int} (hd : 0 < den) :
    let r := roundHalfAway num den
    2 * (num - r * den).natAbs ≤ den ∧ (2 * (num - r * den).natAbs = den → num.natAbs < (r * den).natAbs) := by
  intro r
  obtain ⟨hle, hhalf⟩ := roundHalfUp_spec (a := num.natAbs) (d := den.natAbs) (by omega)
  have hden : (den.natAbs : Int) = den := Int.natAbs_of_nonneg (Int.le_of_lt hd)
  rcases Int.lt_or_le num 0 with hneg | hnn
  · have hr : r = _ := roundHalfAway_neg hd hneg
    rw [hr, Int.neg_mul]
    generalize (2 * num.natAbs + den.natAbs) / (2 * den.natAbs) = q at *
    rw [hden] at hle hhalf
    rw [← Nat.cast_lt (α := Int), Nat.cast_mul, hden] at hhalf
    generalize (q : Int) * den = x at *
    omega
  · have hr : r = _ := roundHalfAway_nonneg hd hnn
    rw [hr]
    generalize (2 * num.natAbs + den.natAbs) / (2 * den.natAbs) = q at *
    rw [hden] at hle hhalf
    rw [← Nat.cast_lt (α := Int), Nat.cast_mul, hden] at hhalf
    generalize (q : Int) * den = x at *
    omega

/-- Rounding depends on the quotient alone. -/
theorem roundHalfAway_neg_neg {num den : Int} (hd : 0 < den) : roundHalfAway (-num) (-den) = roundHalfAway num den := by
  rcases lt_trichotomy num 0 with hneg | rfl | hpos
  · rw [roundHalfAway_neg hd hneg]
    refine (if_neg ?_).trans (by simp only [Int.natAbs_neg])
    rw [eq_iff_iff]
    omega
  · have hzero : (2 * (0 : Int).natAbs + den.natAbs) / (2 * den.natAbs) = 0 := Nat.div_eq_of_lt (by omega)
    rw [roundHalfAway_nonneg hd (Int.le_refl 0), hzero]
    refine (if_neg ?_).trans ?_
    · rw [eq_iff_iff]
      omega
    · rw [Int.natAbs_neg, Int.natAbs_neg, hzero]
      rfl
  · rw [roundHalfAway_nonneg hd (Int.le_of_lt hpos)]
    refine (if_pos ?_).trans (by simp only [Int.natAbs_neg])
    rw [eq_iff_iff]
    omega

/-! ### The zoom map (R95, R96) -/

theorem bracket_eq {ns : List Node} {z : Int} {j : Nat} {a c : Node} (hns : ns.Pairwise fun x y => x.p < y.p)
    (ha : ns[j]? = some a) (hc : ns[j + 1]? = some c) (hlo : a.p ≤ z) (hhi : z < c.p ∨ ns[j + 2]? = none) :
    bracket ns z = some (a, c) := by
  induction j generalizing ns with
  | zero =>
    match ns, ha, hc with
    | x :: y :: rest, ha, hc =>
      cases ha
      cases hc
      exact if_pos (hhi.imp id fun h => by simpa using h)
  | succ j ih =>
    match ns, ha, hc with
    | [x], ha, _ => simp at ha
    | x :: y :: rest, ha, hc =>
      obtain ⟨_, hrest⟩ := List.pairwise_cons.1 hns
      have hya : y.p ≤ a.p := by
        rcases List.mem_cons.1 (List.mem_of_getElem? (show (y :: rest)[j]? = some a from ha)) with rfl | hmem
        · exact Int.le_refl _
        · exact Int.le_of_lt ((List.pairwise_cons.1 hrest).1 a hmem)
      have hne : rest ≠ [] := by
        rintro rfl
        simp at hc
      refine (if_neg ?_).trans (ih hrest ha hc hhi)
      rintro (h | h)
      · exact absurd (Int.lt_of_lt_of_le h (Int.le_trans hya hlo)) (Int.lt_irrefl _)
      · exact hne h

/-- The least value over the nodes is that of a node. -/
theorem minOver_spec (v : Node → Int) {ns : List Node} (h : ns ≠ []) :
    ∃ n ∈ ns, minOver v ns = v n ∧ ∀ m ∈ ns, v n ≤ v m := by
  match ns with
  | x :: rest =>
    have hfold : ∀ (l : List Node) (y : Node), ∃ n ∈ y :: l,
        l.foldl (fun acc m => min acc (v m)) (v y) = v n ∧ ∀ m ∈ y :: l, v n ≤ v m := by
      intro l
      induction l with
      | nil => exact fun y => ⟨y, .head _, rfl, fun m hm => by rw [List.mem_singleton.1 hm]⟩
      | cons z l ih =>
        intro y
        rcases Int.le_total (v y) (v z) with hyz | hzy
        · obtain ⟨n, hn, heq, hle⟩ := ih y
          refine ⟨n, ?_, ?_, fun m hm => ?_⟩
          · exact (List.mem_cons.1 hn).elim (fun e => e ▸ .head _) fun hm => .tail _ (.tail _ hm)
          · rw [List.foldl_cons, min_eq_left hyz, heq]
          · rcases List.mem_cons.1 hm with rfl | hm
            · exact hle _ (.head _)
            · rcases List.mem_cons.1 hm with rfl | hm
              · exact Int.le_trans (hle y (.head _)) hyz
              · exact hle m (.tail _ hm)
        · obtain ⟨n, hn, heq, hle⟩ := ih z
          refine ⟨n, .tail _ hn, ?_, fun m hm => ?_⟩
          · rw [List.foldl_cons, min_eq_right hzy, heq]
          · rcases List.mem_cons.1 hm with rfl | hm
            · exact Int.le_trans (hle z (.head _)) hzy
            · exact hle m hm
    exact hfold rest x

/-- The greatest value over the nodes is the least of the negated values. -/
theorem maxOver_eq (v : Node → Int) (ns : List Node) : maxOver v ns = -minOver (fun n => -v n) ns := by
  match ns with
  | [] => rfl
  | x :: rest =>
    have hfold : ∀ (l : List Node) (y : Int),
        l.foldl (fun acc m => max acc (v m)) y = -l.foldl (fun acc m => min acc (-v m)) (-y) := by
      intro l
      induction l with
      | nil => exact fun y => (Int.neg_neg y).symm
      | cons z l ih =>
        intro y
        rw [List.foldl_cons, List.foldl_cons, ih, min_neg_neg]
    exact hfold rest (v x)

theorem maxOver_spec (v : Node → Int) {ns : List Node} (h : ns ≠ []) :
    ∃ n ∈ ns, maxOver v ns = v n ∧ ∀ m ∈ ns, v m ≤ v n := by
  obtain ⟨n, hn, heq, hle⟩ := minOver_spec (fun n => -v n) h
  refine ⟨n, hn, ?_, fun m hm => Int.neg_le_neg_iff.1 (hle m hm)⟩
  rw [maxOver_eq, heq, Int.neg_neg]

section Interpolation
variable {ns : List Node} {z : Int} {j : Nat} {a c : Node}

theorem bracketAt_eq (hns : ns.Pairwise fun x y => x.p < y.p) (ha : ns[j]? = some a) (hc : ns[j + 1]? = some c)
    (hlo : a.p ≤ clamp z (firstPos ns) (lastPos ns)) (hhi : clamp z (firstPos ns) (lastPos ns) < c.p ∨ ns[j + 2]? = none) :
    bracketAt ns z = some (a, c, clamp z (firstPos ns) (lastPos ns)) := by
  unfold bracketAt
  dsimp only
  rw [bracket_eq hns ha hc hlo hhi]
  rfl

theorem interpolate_eq {zc : Int} (h : bracketAt ns z = some (a, c, zc)) (v : Node → Int) :
    interpolate v ns z = v a + roundHalfAway ((v c - v a) * (zc - a.p)) (c.p - a.p) := by
  unfold interpolate
  rw [h]

theorem conservative_eq {zc : Int} (h : bracketAt ns z = some (a, c, zc)) (v : Node → Nat) :
    conservative v ns z = min (v a) (v c) := by
  unfold conservative
  rw [h]

end Interpolation

/-! ### The values of a block's map -/

section Map
variable {b : Block} {t : Tables}

theorem nodesOf_some (h : b.zmap.tables = some t) : nodesOf b = t.nodes := by
  unfold nodesOf
  rw [h]
  rfl

theorem mapValues_none (h : b.zmap.tables = none) (z : Int) :
    infAt b z = 0 ∧ nearAt b z = 0 ∧ focalAt b z = 0 ∧ gainAt b z = 0 ∧ handLimit b = none ∧ irisMax b = 0 ∧
      focusLimits b = { lo := -32768, hi := 32767 } := by
  have hn : nodesOf b = [] := by
    unfold nodesOf
    rw [h]
    rfl
  unfold infAt nearAt focalAt gainAt handLimit irisMax focusLimits
  rw [hn, h]
  exact ⟨rfl, rfl, rfl, rfl, rfl, rfl, rfl⟩

theorem mapValues_some (h : b.zmap.tables = some t) (z : Int) :
    infAt b z = interpolate (·.inf) t.nodes z ∧ nearAt b z = interpolate (·.near) t.nodes z ∧
      focalAt b z = interpolate (·.focal) t.nodes z ∧ gainAt b z = interpolate (·.gain) t.nodes z := by
  unfold infAt nearAt focalAt gainAt
  rw [nodesOf_some h]
  exact ⟨rfl, rfl, rfl, rfl⟩

/-- With a zoom reference the conservative values and the limits are those at the zoom position. -/
theorem mapLimits_referenced (h : b.zmap.tables = some t) (hr : b.zoom.referenced = true) :
    let here := position b.zoom
    handLimit b = some (conservative (·.hand) t.nodes here) ∧ irisMax b = conservative (·.cMax) t.nodes here ∧
    focusLimits b =
      { lo := clamp16 (min (infAt b here) (nearAt b here) - b.zmap.margin)
        hi := clamp16 (max (infAt b here) (nearAt b here) + b.zmap.margin) } := by
  intro here
  unfold handLimit irisMax focusLimits
  rw [h, hr]
  exact ⟨rfl, rfl, rfl⟩

/-- Without one they are those over all nodes. -/
theorem mapLimits_unreferenced (h : b.zmap.tables = some t) (hr : b.zoom.referenced = false) (hn : t.nodes ≠ []) :
    ∃ x ∈ t.nodes, ∃ y ∈ t.nodes, ∃ l ∈ t.nodes, ∃ u ∈ t.nodes,
      handLimit b = some x.hand ∧ irisMax b = y.cMax ∧
      focusLimits b =
        { lo := clamp16 (min l.inf l.near - b.zmap.margin), hi := clamp16 (max u.inf u.near + b.zmap.margin) } ∧
      ∀ n ∈ t.nodes, x.hand ≤ n.hand ∧ y.cMax ≤ n.cMax ∧ min l.inf l.near ≤ min n.inf n.near ∧
        max n.inf n.near ≤ max u.inf u.near := by
  obtain ⟨x, hx, hxe, hxl⟩ := minOver_spec (fun n => (n.hand : Int)) hn
  obtain ⟨y, hy, hye, hyl⟩ := minOver_spec (fun n => (n.cMax : Int)) hn
  obtain ⟨l, hl, hle, hll⟩ := minOver_spec (fun n => min n.inf n.near) hn
  obtain ⟨u, hu, hue, hul⟩ := maxOver_spec (fun n => max n.inf n.near) hn
  refine ⟨x, hx, y, hy, l, hl, u, hu, ?_, ?_, ?_, fun n hm =>
    ⟨Int.ofNat_le.1 (hxl n hm), Int.ofNat_le.1 (hyl n hm), hll n hm, hul n hm⟩⟩
  · unfold handLimit
    rw [h, hr, Option.map_some, if_neg Bool.false_ne_true, hxe]
    rfl
  · unfold irisMax
    rw [h]
    dsimp only
    rw [hr, if_neg Bool.false_ne_true, hye]
    rfl
  · unfold focusLimits
    rw [h]
    dsimp only
    rw [hr, if_neg Bool.false_ne_true, hle, hue]

theorem recomputeU_stays (h : nearAt b (position b.zoom) = infAt b (position b.zoom) ∨ b.zoom.referenced = false) :
    recomputeU b = b := by
  have hu : fractionOf b = b.zmap.u := if_pos h
  unfold recomputeU
  rw [hu]

theorem recomputeU_moves (hn : nearAt b (position b.zoom) ≠ infAt b (position b.zoom))
    (hr : b.zoom.referenced = true) :
    recomputeU b = { b with zmap := { b.zmap with
      u := (max 0 (min (roundHalfAway ((position b.focus - infAt b (position b.zoom)) * 1024)
        (nearAt b (position b.zoom) - infAt b (position b.zoom))) 1024)).toNat } } := by
  have hu : fractionOf b = _ := if_neg fun hc => hc.elim hn fun hf => Bool.false_ne_true (hf.symm.trans hr)
  unfold recomputeU
  rw [hu]
  rfl

end Map

/-- Settles O42. -/
theorem stepConversions : Obligations.StepConversions := by
  refine ⟨fun n hn h => ⟨(ex16_lg16 hn).1, (ex16_lg16 hn).2, lg16_le hn h⟩, fun n k => lg16_eq, fun s t => ex16_mono,
    fun s => rfl, fun num den hd => ⟨(roundHalfAway_spec hd).1, (roundHalfAway_spec hd).2, roundHalfAway_neg_neg hd⟩,
    fun ns z j a c hns ha hc => ?_, fun b z h => mapValues_none h z, fun b t z h => ?_,
    fun b => ⟨recomputeU_stays, recomputeU_moves⟩⟩
  · intro zc hlo hhi
    have hb : bracketAt ns z = some (a, c, zc) := bracketAt_eq hns ha hc hlo hhi
    exact ⟨interpolate_eq hb, conservative_eq hb⟩
  · intro whole here
    obtain ⟨hinf, hnear, hfocal, hgain⟩ := mapValues_some h z
    exact ⟨hinf, hnear, hfocal, hgain, mapLimits_referenced h, mapLimits_unreferenced h⟩

end Sys2Proof.Machine
end

section
/-!
The program line (R64 to R68): its values as the manual writes them, and their bounds.
-/

namespace Sys2Proof.Machine

section ProgramLine
variable (i : LineIn)

theorem irisTarget_nonneg : 0 ≤ irisTarget i := by
  unfold irisTarget
  split
  · omega
  · split <;> omega

/-- The iris goes below no less than 0, whatever the slew. -/
theorem irisApplied_bounds : 0 ≤ irisApplied i ∧ irisApplied i ≤ i.cMax := by
  have ht := irisTarget_nonneg i
  unfold irisApplied irisChange clamp
  omega

theorem shutterLimit_le_frame : shutterLimit i ≤ lg16 i.eMax := by
  unfold shutterLimit
  split
  · exact Nat.le_refl _
  · exact Nat.min_le_left _ _

theorem shutterOf_bounds : 0 ≤ shutterOf i ∧ shutterOf i ≤ lg16 i.eMax := by
  have hle := shutterLimit_le_frame i
  unfold shutterOf clamp
  split <;> omega

theorem gainOf_bounds : 0 ≤ gainOf i ∧ gainOf i ≤ i.prm.gMax := by
  unfold gainOf clamp
  omega

/-- Outside MANUAL the shutter keeps within the handheld limit. -/
theorem shutterOf_le_hand {h : Nat} (hm : i.mode ≠ .manual) (hh : i.hand = some h) :
    shutterOf i ≤ lg16 (handLines i h) := by
  have hlim : shutterLimit i ≤ lg16 (handLines i h) := by
    unfold shutterLimit handSteps
    rw [if_neg hm, hh]
    exact Nat.min_le_right _ _
  unfold shutterOf clamp
  rw [if_neg hm]
  omega

/-- The exposure time of a program line lies between one line and the frame. -/
theorem programLine_lines (hpos : 1 ≤ i.eMax) :
    1 ≤ ex16 (programLine i).s ∧ ex16 (programLine i).s ≤ i.eMax := by
  have hs : (programLine i).s ≤ lg16 i.eMax := Int.toNat_le.2 (shutterOf_bounds i).2
  constructor
  · exact Nat.le_trans (show 1 ≤ ex16 0 by decide) (ex16_mono (Nat.zero_le _))
  · exact Nat.le_trans (ex16_mono hs) (ex16_lg16 hpos).2

end ProgramLine

/-! ### The inputs of a block -/

section Inputs
variable (b : Block) (fmt : StreamParams)

theorem lineInputs_limit :
    shutterLimit (lineInputs b fmt) =
      if effectiveMode b.exu = .manual then lg16 (fmt.lines - fmt.margin)
      else min (lg16 (fmt.lines - fmt.margin))
        ((((handLimit b).map (handLines (lineInputs b fmt))).map lg16).getD 255) := by
  have hsteps : handSteps (lineInputs b fmt) =
      (((handLimit b).map (handLines (lineInputs b fmt))).map lg16).getD 255 := by
    unfold handSteps
    rw [show (lineInputs b fmt).hand = handLimit b from rfl]
    cases handLimit b <;> rfl
  unfold shutterLimit
  rw [hsteps]
  rfl

theorem prevIris_eq :
    prevIris b = (b.ftu.pipeline.getLast?.map (·.c)).getD (if b.iris.referenced then b.iris.position else 0) := by
  unfold prevIris
  cases b.ftu.pipeline.getLast? <;> rfl

end Inputs

/-- Settles O43. -/
theorem programEntryBounds : Obligations.ProgramEntryBounds := by
  intro b fmt k hmargin hlines p manual frame bonus hands limit floor x cPrev cTarget change c s g e
  let i := lineInputs b fmt
  have hlimit : shutterLimit i = limit := lineInputs_limit b fmt
  have hfloor : floorSteps i = floor := by
    unfold floorSteps
    rw [hlimit]
    rfl
  have hx : requested i = x := rfl
  have hcPrev : i.cPrev = cPrev := prevIris_eq b
  have hcTarget : irisTarget i = cTarget := by
    unfold irisTarget
    rw [hfloor, hx]
    rfl
  have hchange : irisChange i = change := by
    unfold irisChange
    rw [hcTarget, hcPrev]
    rfl
  have hc : irisApplied i = c := by
    unfold irisApplied
    rw [hchange, hcPrev]
    rfl
  have hs : shutterOf i = s := by
    unfold shutterOf
    rw [hc, hlimit, hx]
    rfl
  have hg : gainOf i = g := by
    unfold gainOf
    rw [hc, hs, hx]
    rfl
  have hcb := irisApplied_bounds i
  have hgb := gainOf_bounds i
  have hsb := shutterOf_bounds i
  have hxApp : e.xApp = s + g - c := by
    rw [← hs, ← hg, ← hc]
    rfl
  have heg : (e.g : Int) = g := by
    rw [← hg]
    exact Int.toNat_of_nonneg hgb.1
  have hec : (e.c : Int) = c := by
    rw [← hc]
    exact Int.toNat_of_nonneg hcb.1
  obtain ⟨hone, hmost⟩ := programLine_lines i (show 1 ≤ fmt.lines - fmt.margin by omega)
  refine ⟨rfl, ?_, heg, hec, rfl, hxApp, decide_eq_true_iff, decide_eq_true_iff, ?_, hone, hmost, ?_, ?_,
    fun h hm hh => ?_, rfl, rfl, rfl, rfl, rfl, rfl, rfl, rfl⟩
  · rw [← hs]
    rfl
  · rw [← hchange, ← hcTarget, ← hcPrev]
    exact decide_eq_true_iff
  · exact Int.toNat_le.2 hgb.2
  · exact Int.toNat_le.2 hcb.2
  · obtain ⟨n, hn, rfl⟩ := Option.map_eq_some_iff.1 hh
    rw [← hs]
    exact shutterOf_le_hand i hm hn

end Sys2Proof.Machine
end

section
/-!
Publication of a record (R169, R170), and metering (R55 to R62).
-/

namespace Sys2Proof.Machine

/-! ### Publication -/

section Publish
variable {b : Block} {f : StoreFrame}

theorem ready_iff (f : StoreFrame) :
    f.ready = true ↔ f.frameEnded = true ∧ f.statsHandled = true ∧ f.metered = true ∧ f.answered = true := by
  simp [StoreFrame.ready, and_assoc]

theorem tryPublish_waits (hc : b.fsu.cur = some f) (h : f.slot = none ∨ f.ready = false ∨ b.fsu.recWrite ≠ none) :
    tryPublish b = b := by
  unfold tryPublish
  rw [hc]
  dsimp only
  split
  · rfl
  · next slot hs =>
    refine if_neg fun hp => ?_
    rw [Bool.and_eq_true, Option.isNone_iff_eq_none] at hp
    rcases h with h | h | h
    · rw [h] at hs
      cases hs
    · exact Bool.false_ne_true (h.symm.trans hp.1)
    · exact h hp.2

theorem tryPublish_publishes {slot : Nat} (hc : b.fsu.cur = some f) (hs : f.slot = some slot) (hr : f.ready = true)
    (hw : b.fsu.recWrite = none) :
    tryPublish b = { b with fsu := { b.fsu with
      recWrite := some (writeAt b (0x800 + 64 * slot) (frameRecord b f)) } } := by
  unfold tryPublish
  rw [hc]
  dsimp only
  rw [hs]
  refine if_pos ?_
  rw [hr, hw]
  rfl

/-- A record depends on the entry of its frame but not on its metering release. -/
theorem frameRecord_congr {a b : Block} (f : StoreFrame) (htag : a.fsu.tag = b.fsu.tag) (hlines : a.fsu.lines = b.fsu.lines)
    (hcrc : a.fsu.crc = b.fsu.crc) (hz : a.zmap = b.zmap)
    (he : ∃ v, recordEntry a f = { recordEntry b f with meterReleased := v }) : frameRecord a f = frameRecord b f := by
  obtain ⟨v, hv⟩ := he
  have hfocal : ∀ z, focalAt a z = focalAt b z := by
    intro z
    unfold focalAt nodesOf
    rw [hz]
  unfold frameRecord
  rw [hv, htag, hlines, hcrc]
  dsimp only
  rw [hfocal]
  rfl

end Publish

/-! ### The metering release at the frame store -/

/-- The frame that is stored, metered with M and e. -/
def meteredFrame (f : StoreFrame) (m : Nat) (e : Int) : StoreFrame := { f with m := m, e := e, metered := true }

/-- What a metering release with its result does to the frame store. -/
def MeteredStored (b : Block) (k : Word) (m : Nat) (e : Int) (b' : Block) : Prop :=
  ((∀ f, b.fsu.cur = some f → f.k ≠ k) → b'.fsu = b.fsu) ∧
  ∀ f, b.fsu.cur = some f → f.k = k →
    let last := f.frameEnded = true ∧ f.statsHandled = true ∧ f.answered = true ∧ b.fsu.recWrite = none
    (¬last ∨ f.slot = none → b'.fsu = { b.fsu with cur := some (meteredFrame f m e) }) ∧
    ∀ slot, f.slot = some slot → last → (f.entry ≠ none ∨ ∀ en, entryOf b k = some en → en.recordReleased = false) →
      b'.fsu = { b.fsu with
        cur := some (meteredFrame f m e)
        recWrite := some (writeAt b (0x800 + 64 * slot) (frameRecord b (meteredFrame f m e))) }

section Metered
variable {b : Block} {k : Word}

theorem storeMetered_other (h : ∀ f, b.fsu.cur = some f → f.k ≠ k) (m : Nat) (e : Int) : storeMetered k m e b = b := by
  unfold storeMetered
  split
  · next f hf => exact if_neg (h f hf)
  · rfl

theorem storeMetered_frame_of {f : StoreFrame} (hc : b.fsu.cur = some f) (hk : f.k = k) (m : Nat) (e : Int) :
    storeMetered k m e b = tryPublish { b with fsu := { b.fsu with cur := some (meteredFrame f m e) } } := by
  unfold storeMetered
  rw [hc]
  exact if_pos hk

theorem storeMetered_same (k : Word) (m : Nat) (e : Int) (b : Block) {f : Fld} (h : f ∉ [.fsu]) :
    Agree b (storeMetered k m e b) f :=
  storeMetered_frame k m e (Among.refl _) (Changes.refl _ b) f h

theorem meterRelease_same (k : Word) (b : Block) {f : Fld} (h : f ∉ [.ftu, .due]) : Agree b (meterRelease k b) f :=
  meterRelease_frame k (Among.refl _) (Changes.refl _ b) f h

/-- The entry a record is built from, after the metering release of its frame. -/
theorem recordEntry_meterRelease {f : StoreFrame}
    (h : f.entry ≠ none ∨ ∀ en, entryOf b f.k = some en → en.recordReleased = false) (u : Fsu) :
    ∃ v, recordEntry { meterRelease f.k b with fsu := u } f = { recordEntry b f with meterReleased := v } := by
  unfold recordEntry
  cases he : f.entry with
  | some en => exact ⟨en.meterReleased, rfl⟩
  | none =>
    rcases h with h | h
    · exact absurd he h
    have hmap : entryOf { meterRelease f.k b with fsu := u } f.k =
        (entryOf b f.k).map fun e => { e with meterReleased := true } := entryOf_meterRelease h
    cases hn : entryOf b f.k with
    | none =>
      rw [hn] at hmap
      exact ⟨false, by rw [hmap]; rfl⟩
    | some en =>
      rw [hn] at hmap
      exact ⟨true, by rw [hmap]; rfl⟩

/-- The metering release reaches the frame store. -/
theorem storeMetered_stored (k : Word) (m : Nat) (e : Int) (b : Block) :
    MeteredStored b k m e (storeMetered k m e (meterRelease k b)) := by
  have hfsu : (meterRelease k b).fsu = b.fsu := meterRelease_fsu k b
  have hregs : (meterRelease k b).regs = b.regs := meterRelease_same k b (f := .regs) (by decide)
  have hz : (meterRelease k b).zmap = b.zmap := meterRelease_same k b (f := .zmap) (by decide)
  refine ⟨fun h => ?_, fun f hc hk => ⟨fun h => ?_, fun slot hs hlast hentry => ?_⟩⟩
  · rw [storeMetered_other (by rw [hfsu]; exact h), hfsu]
  · rw [storeMetered_frame_of (hfsu ▸ hc) hk, hfsu]
    refine congrArg Block.fsu (tryPublish_waits (b := { meterRelease k b with fsu := _ }) rfl ?_)
    rcases h with h | h
    · refine .inr ?_
      by_cases hr : (meteredFrame f m e).ready = true
      · obtain ⟨he, hst, _, ha⟩ := (ready_iff _).1 hr
        exact .inr fun hw => h ⟨he, hst, ha, hw⟩
      · exact .inl (Bool.eq_false_iff.2 hr)
    · exact .inl h
  · obtain ⟨hend, hst, hans, hw⟩ := hlast
    subst hk
    rw [storeMetered_frame_of (hfsu ▸ hc) rfl, hfsu]
    have hpub := tryPublish_publishes (b := { meterRelease f.k b with fsu := { b.fsu with cur := some (meteredFrame f m e) } })
      (f := meteredFrame f m e) rfl hs ((ready_iff _).2 ⟨hend, hst, rfl, hans⟩) hw
    refine (congrArg Block.fsu hpub).trans ?_
    rw [frameRecord_congr (a := { meterRelease f.k b with fsu := { b.fsu with cur := some (meteredFrame f m e) } })
      (b := b) (meteredFrame f m e) rfl rfl rfl hz
      (recordEntry_meterRelease (f := meteredFrame f m e) hentry _)]
    have hwrite : ∀ d, writeAt { meterRelease f.k b with fsu := { b.fsu with cur := some (meteredFrame f m e) } }
        (0x800 + 64 * slot) d = writeAt b (0x800 + 64 * slot) d :=
      fun d => writeAt_congr (congrArg Regs.wbase hregs) (congrArg Regs.wlimit hregs) _ d
    rw [hwrite]

/-- After the metering release of a frame, its entry carries it. -/
theorem meterRelease_released (k : Word) (b : Block) :
    ∀ x ∈ (meterRelease k b).ftu.pipeline, x.k = k → x.meterReleased = true := by
  intro x hx hk
  rw [meterRelease_ftu] at hx
  obtain ⟨y, _, rfl⟩ := List.mem_map.1 (List.mem_filter.1 hx).1
  split
  · rfl
  · next hne =>
    rw [if_neg hne] at hk
    exact absurd hk hne

/-- The release with its result changes nothing else of what the statement speaks of. -/
theorem metering_releases {b' c : Block} {x : Exu} {m : Nat} {e : Int} (hc : c = { b with exu := x })
    (hb' : b' = storeMetered k m e (meterRelease k c)) :
    b'.exu = x ∧ (∀ y ∈ b'.ftu.pipeline, y.k = k → y.meterReleased = true) ∧ MeteredStored b k m e b' ∧
      b'.zoom = b.zoom ∧ b'.focus = b.focus ∧ b'.sbu = b.sbu ∧ b'.regs = b.regs := by
  have hsame : ∀ {f : Fld}, f ∉ [.ftu, .fsu, .due] → Agree c b' f := by
    intro f hf
    rw [hb']
    exact storeMetered_frame k m e (by simp [Among]) (meterRelease_frame k (by simp [Among]) (Changes.refl _ c)) f hf
  have hftu : b'.ftu = (meterRelease k c).ftu := by
    rw [hb']
    exact storeMetered_same k m e _ (f := .ftu) (by decide)
  subst hc
  refine ⟨hsame (f := .exu) (by decide), ?_, ?_, hsame (f := .zoom) (by decide), hsame (f := .focus) (by decide),
    hsame (f := .sbu) (by decide), hsame (f := .regs) (by decide)⟩
  · rw [hftu]
    exact meterRelease_released k _
  · rw [hb']
    exact storeMetered_stored k m e { b with exu := x }

end Metered

/-! ### Metering -/

section Metering
variable {b : Block} {r : StatsRecord} {rest : List StatsRecord} {en : Entry}

/-- The block in which the oldest stats-ready has left the exposure unit's list. -/
def meterTaken (rest : List StatsRecord) (b : Block) : Block := { b with exu := { b.exu with inbox := rest } }

theorem metering_old (h : b.exu.inbox = r :: rest) (ho : r.old = true) : metering b = meterTaken rest b := by
  unfold metering
  rw [h]
  exact if_pos ho

theorem metering_eq (h : b.exu.inbox = r :: rest) (ho : r.old = false) :
    metering b =
      match entryOf (meterTaken rest b) r.k with
      | some en =>
        if r.valid && en.role == .closing then
          storeMetered r.k (meterFrame (meterTaken rest b) r en).lastM (meterFrame (meterTaken rest b) r en).lastE
            (meterRelease r.k { b with exu := meterFrame (meterTaken rest b) r en })
        else storeMetered r.k 0 0 (meterRelease r.k (meterTaken rest b))
      | none => storeMetered r.k 0 0 (meterRelease r.k (meterTaken rest b)) := by
  unfold metering
  rw [h]
  refine (if_neg fun hc => Bool.false_ne_true (ho.symm.trans hc)).trans ?_
  rfl

theorem metering_valid (h : b.exu.inbox = r :: rest) (ho : r.old = false) (he : entryOf b r.k = some en)
    (hr : en.role = .closing) (hv : r.valid = true) :
    metering b =
      storeMetered r.k (meterFrame (meterTaken rest b) r en).lastM (meterFrame (meterTaken rest b) r en).lastE
        (meterRelease r.k { b with exu := meterFrame (meterTaken rest b) r en }) := by
  rw [metering_eq h ho, show entryOf (meterTaken rest b) r.k = some en from he]
  refine if_pos ?_
  rw [hv, hr]
  rfl

theorem metering_passed (h : b.exu.inbox = r :: rest) (ho : r.old = false)
    (hp : r.valid = false ∨ ∀ en, entryOf b r.k = some en → en.role ≠ .closing) :
    metering b = storeMetered r.k 0 0 (meterRelease r.k (meterTaken rest b)) := by
  rw [metering_eq h ho]
  split
  · next en hen =>
    refine if_neg fun hc => ?_
    rw [Bool.and_eq_true, beq_iff_eq] at hc
    exact hp.elim (fun hv => Bool.false_ne_true (hv.symm.trans hc.1)) fun hr => hr en hen hc.2
  · rfl

theorem holdTest_iff (l : List Entry) (en : Entry) :
    holdTest l en = true ↔ ∀ x ∈ l, frameAbove x.k en.k = true → x.xTarget = en.xTarget := by
  simp [holdTest, imp_iff_not_or]

theorem correction_cases (p : ExpParams) (clipped : Nat) (e : Int) :
    let c : Int := max (-(p.stepMax : Int)) (min ((e * p.response).tdiv 4) p.stepMax)
    (e.natAbs ≤ p.deadband → correction p clipped e = 0) ∧
    (p.deadband < e.natAbs → p.guardZones < clipped → 0 < c → correction p clipped e = 0) ∧
    (p.deadband < e.natAbs → (clipped ≤ p.guardZones ∨ c ≤ 0) → correction p clipped e = c) := by
  intro c
  have hout : p.deadband < e.natAbs → correction p clipped e = if p.guardZones < clipped ∧ 0 < c then 0 else c :=
    fun h => if_neg (Nat.not_le.2 h)
  refine ⟨fun h => if_pos h, fun h hg hc => (hout h).trans (if_pos ⟨hg, hc⟩), fun h hn => (hout h).trans (if_neg ?_)⟩
  omega

theorem weightsOf_none (h : b.zmap.tables = none) : weightsOf b = List.replicate 64 1 := by
  unfold weightsOf
  rw [h]

theorem weightsOf_some {t : Tables} {l : List Nat} (h : b.zmap.tables = some t)
    (hl : t.weights[b.exu.prm.table]? = some l) : weightsOf b = l := by
  unfold weightsOf
  rw [h]
  exact (List.getD_eq_getElem?_getD ..).trans (by rw [hl]; rfl)

end Metering

/-- Settles O44. -/
theorem meteringUpdatesExposure : Obligations.MeteringUpdatesExposure := by
  refine ⟨fun s b r rest en hs h ho he hr hv => ?_, fun b => ⟨weightsOf_none, fun t l => weightsOf_some⟩,
    correction_cases, fun s b r rest hs h => ⟨fun ho => (runs_metering hs).of_eq (metering_old h ho), fun ho hp => ?_⟩⟩
  · intro wt m e hold
    let x := meterFrame (meterTaken rest b) r en
    obtain ⟨hexu, hrel, hstored, hzoom, hfocus, hsbu, hregs⟩ :=
      metering_releases (b := b) rfl (metering_valid h ho he hr hv)
    have hm : x.lastM = m := rfl
    have happly : x.xTarget =
        if effectiveMode b.exu == .auto && holdTest b.ftu.pipeline en then en.xApp + correction b.exu.prm r.clipped e
        else b.exu.xTarget := rfl
    refine ⟨_, runs_metering hs, ?_, ?_, ?_, ?_, ?_, ?_, fun hauto hh => ?_, fun hn => ?_, hrel, hstored, hzoom, hfocus,
      hsbu, hregs⟩
    iterate 5 rw [hexu]; rfl
    · rw [hexu]
      exact decide_eq_true_iff
    · rw [hexu]
      refine happly.trans (if_pos ?_)
      rw [hauto, (holdTest_iff _ _).2 hh]
      rfl
    · rw [hexu]
      refine happly.trans (if_neg fun hc => ?_)
      rw [Bool.and_eq_true, beq_iff_eq, holdTest_iff] at hc
      exact hn.elim (fun hne => hne hc.1) fun hnh => hnh hc.2
  · obtain ⟨hexu, hrel, hstored, hzoom, hfocus, hsbu, hregs⟩ :=
      metering_releases (b := b) (x := { b.exu with inbox := rest }) rfl (metering_passed h ho hp)
    exact ⟨_, runs_metering hs, hexu, hrel, hstored, hzoom, hfocus, hsbu, hregs⟩

end Sys2Proof.Machine
end

section
/-!
Stats-ready at the frame store and the focus search unit, and the sums of the statistics unit (R37 to R47).
-/

namespace Sys2Proof.Machine

/-! ### The frame store (R169) -/

section StoreStats
variable {b : Block} {r : StatsRecord} {rest : List StatsRecord}

/-- The frame that is stored, with the values of a stats-ready. -/
def statsFrame (f : StoreFrame) (r : StatsRecord) : StoreFrame :=
  { f with clipped := r.clipped, focusValue := r.focus, lineCount := r.lineCount, statsHandled := true }

theorem storeStats_passes (h : b.fsu.inbox = r :: rest) (hp : ∀ f, b.fsu.cur = some f → f.k ≠ r.k ∨ r.old = true) :
    storeStats b = { b with fsu := { b.fsu with inbox := rest } } := by
  unfold storeStats
  rw [h]
  dsimp only [setFsu]
  split
  · next f hf =>
    refine if_neg fun hc => ?_
    exact (hp f hf).elim (fun hk => hk hc.1) fun ho => Bool.false_ne_true (hc.2.symm.trans ho)
  · rfl

theorem storeStats_collects {f : StoreFrame} (h : b.fsu.inbox = r :: rest) (hc : b.fsu.cur = some f) (hk : f.k = r.k)
    (ho : r.old = false) :
    storeStats b = tryPublish { b with fsu := { b.fsu with inbox := rest, cur := some (statsFrame f r) } } := by
  unfold storeStats
  rw [h]
  dsimp only [setFsu]
  rw [hc]
  exact if_pos ⟨hk, ho⟩

theorem storeStats_cases {f : StoreFrame} (h : b.fsu.inbox = r :: rest) (hc : b.fsu.cur = some f) (hk : f.k = r.k)
    (ho : r.old = false) :
    let last := f.frameEnded = true ∧ f.metered = true ∧ f.answered = true ∧ b.fsu.recWrite = none
    (¬last ∨ f.slot = none →
      storeStats b = { b with fsu := { b.fsu with inbox := rest, cur := some (statsFrame f r) } }) ∧
    ∀ slot, f.slot = some slot → last →
      storeStats b = { b with fsu := { b.fsu with
        inbox := rest, cur := some (statsFrame f r)
        recWrite := some (writeAt b (0x800 + 64 * slot) (frameRecord b (statsFrame f r))) } } := by
  intro last
  rw [storeStats_collects h hc hk ho]
  refine ⟨fun hn => ?_, fun slot hs hl => ?_⟩
  · refine tryPublish_waits (f := statsFrame f r) rfl ?_
    rcases hn with hn | hn
    · refine .inr ?_
      by_cases hr : (statsFrame f r).ready = true
      · obtain ⟨he, _, hm, ha⟩ := (ready_iff _).1 hr
        exact .inr fun hw => hn ⟨he, hm, ha, hw⟩
      · exact .inl (Bool.eq_false_iff.2 hr)
    · exact .inl hn
  · obtain ⟨he, hm, ha, hw⟩ := hl
    exact (tryPublish_publishes (b := { b with fsu := { b.fsu with inbox := rest, cur := some (statsFrame f r) } })
      (f := statsFrame f r) rfl hs ((ready_iff _).2 ⟨he, rfl, hm, ha⟩) hw).trans rfl

end StoreStats

/-! ### The focus search unit (R114) -/

section AfuStats
variable {b : Block} {r : StatsRecord} {rest : List StatsRecord} (m : Msense)

/-- A frame is clean (R114). -/
def FrameClean (b : Block) (r : StatsRecord) : Prop :=
  r.old = false ∧ r.valid = true ∧ ∃ c ∈ b.afu.candidates, c.k = r.k ∧ c.still = true

theorem isClean_iff (b : Block) (r : StatsRecord) : isClean b r = true ↔ FrameClean b r := by
  simp [isClean, FrameClean, and_assoc]

/-- The block in which the oldest stats-ready has left the lists of the focus search unit. -/
def afuSeen (m : Msense) (r : StatsRecord) (rest : List StatsRecord) (b : Block) : Block :=
  { b with
    ldu := { b.ldu with msense := m }
    afu := { b.afu with inbox := rest, candidates := b.afu.candidates.filter fun c => r.old || frameAbove c.k r.k } }

theorem afuHandle_eq (h : b.afu.inbox = r :: rest) :
    afuHandle (setMsense m b) = if isClean b r then cleanFrame r (afuSeen m r rest b) else afuSeen m r rest b := by
  unfold afuHandle
  rw [show (setMsense m b).afu.inbox = r :: rest from h]
  rfl

theorem afuHandle_unclean (h : b.afu.inbox = r :: rest) (hc : ¬FrameClean b r) :
    afuHandle (setMsense m b) = afuSeen m r rest b := by
  rw [afuHandle_eq m h]
  exact if_neg (mt (isClean_iff b r).1 hc)

theorem afuHandle_clean (h : b.afu.inbox = r :: rest) (hc : FrameClean b r) :
    afuHandle (setMsense m b) = cleanFrame r (afuSeen m r rest b) := by
  rw [afuHandle_eq m h]
  exact if_pos ((isClean_iff b r).2 hc)

theorem cleanFrame_noSearch (h : b.afu.search = none) :
    cleanFrame r b = if b.afu.cafActive then cafFrame r.focus b else b := by
  unfold cleanFrame
  rw [h]

theorem cleanFrame_search {sr : Search} (h : b.afu.search = some sr) :
    cleanFrame r b = if sr.moving = false ∧ sr.ended = none then searchSample sr r b else b := by
  unfold cleanFrame
  rw [h]

theorem cafFrame_first (h : b.afu.cafLast = none) (v : Nat) :
    cafFrame v b = { b with afu := { b.afu with cafLast := some v } } := by
  unfold cafFrame
  rw [h]

end AfuStats

/-! ### Sums over a line (R40, R42) -/

theorem sum_map_range (f : Nat → Nat) (n : Nat) : ((List.range n).map f).sum = ∑ k ∈ Finset.range n, f k := by
  induction n with
  | zero => rfl
  | succ n ih => rw [List.range_succ, List.map_append, List.sum_append, ih, Finset.sum_range_succ, List.map_singleton,
      List.sum_singleton]

/-- Pixel n of a line as the taps take it. -/
def tappedPixel (width : Nat) (px : List Pixel) (n : Nat) : Nat := if n < width then (px.getD n 0#12).toNat else 0

/-- A stretch of the line that lies within the width. -/
theorem takeLine_stretch {width lo n : Nat} (h : lo + n ≤ width) (px : List Pixel) :
    ((takeLine width px).drop lo).take n = (List.range n).map fun k => px.getD (lo + k) 0#12 := by
  refine List.ext_getElem? fun x => ?_
  by_cases hx : x < n
  · rw [List.getElem?_take_of_lt hx, List.getElem?_drop, takeLine_getElem? (by omega), List.getElem?_map,
      List.getElem?_range hx]
    rfl
  · rw [List.getElem?_eq_none (by simp; omega), List.getElem?_eq_none (by simp; omega)]

theorem columnSum_eq {width zw i : Nat} (h : zw * 8 ≤ width) (hi : i < 8) (px : List Pixel) :
    columnSum zw (takeLine width px) i = ∑ n ∈ Finset.range zw, tappedPixel width px (i * zw + n) := by
  have hle : i * zw + zw ≤ width := by
    have hmul : (i + 1) * zw ≤ 8 * zw := Nat.mul_le_mul_right _ hi
    rw [Nat.add_mul, Nat.one_mul] at hmul
    omega
  unfold columnSum
  rw [takeLine_stretch hle, List.map_map, sum_map_range]
  refine Finset.sum_congr rfl fun n hn => ?_
  have hlt : i * zw + n < width := by
    have := Finset.mem_range.1 hn
    omega
  exact (if_pos hlt).symm

/-- The coring of a difference of two pixels. -/
def coredDifference (coring : Nat) (p q : Nat) : Nat :=
  if coring ≤ ((p : Int) - q).natAbs then ((p : Int) - q).natAbs else 0

theorem focusTerm_eq (coring : Nat) (p q : Pixel) : focusTerm coring p q = coredDifference coring p.toNat q.toNat := by
  have hd : max (p.toNat - q.toNat) (q.toNat - p.toNat) = ((p.toNat : Int) - q.toNat).natAbs := by omega
  unfold focusTerm coredDifference
  rw [hd]

/-- The differences of pixels two apart over a stretch of the line. -/
theorem zipWith_stretch {width lo n : Nat} (hlo : 2 ≤ lo) (h : lo + n ≤ width) (coring : Nat) (px : List Pixel) :
    List.zipWith (focusTerm coring) (((takeLine width px).drop lo).take n) ((takeLine width px).drop (lo - 2)) =
      (List.range n).map fun k =>
        coredDifference coring (tappedPixel width px (lo + k)) (tappedPixel width px (lo + k - 2)) := by
  rw [takeLine_stretch h]
  refine List.ext_getElem? fun x => ?_
  rw [List.getElem?_zipWith, List.getElem?_map, List.getElem?_map]
  by_cases hx : x < n
  · have hback : lo - 2 + x = lo + x - 2 := by omega
    rw [List.getElem?_range hx, List.getElem?_drop, hback, takeLine_getElem? (by omega)]
    simp only [Option.map_some, tappedPixel, focusTerm_eq]
    rw [if_pos (by omega), if_pos (by omega)]
  · rw [List.getElem?_eq_none (by simp; omega)]
    rfl

theorem focusSum_eq {width zw : Nat} {w : AfWindow} (h : zw * 8 ≤ width) (hx : w.x1 ≤ 7) (coring : Nat) (px : List Pixel) :
    focusSum zw w coring (takeLine width px) =
      min 4294967295 (∑ n ∈ Finset.Ico (max 2 (w.x0 * zw)) ((w.x1 + 1) * zw),
        coredDifference coring (tappedPixel width px n) (tappedPixel width px (n - 2))) := by
  have hle : (w.x1 + 1) * zw ≤ width := by
    have hmul : (w.x1 + 1) * zw ≤ 8 * zw := Nat.mul_le_mul_right _ (by omega)
    omega
  unfold focusSum
  dsimp only
  generalize hlo : max 2 (w.x0 * zw) = lo
  generalize (w.x1 + 1) * zw = hi at hle
  have htwo : 2 ≤ lo := hlo ▸ Nat.le_max_left _ _
  rw [Finset.sum_Ico_eq_sum_range]
  by_cases hlt : lo ≤ hi
  · rw [zipWith_stretch htwo (by omega), sum_map_range]
    rfl
  · rw [Nat.sub_eq_zero_of_le (by omega : hi ≤ lo)]
    rfl

/-! ### The statistics unit -/

section Statistics
variable {b : Block} {g : Geom} {l : Latched} {f : StuFrame}

theorem statsLineBegin_eq (hg : b.stu.geom = some g) (hl : b.stu.latched = some l) (hf : b.stu.frame = some f)
    (j : Nat) (px : List Pixel) :
    statsLineBegin j px b = { b with stu := { b.stu with line := lineAccOf g l j (takeLine g.width px) } } := by
  unfold statsLineBegin
  rw [hg, hl, hf]
  rfl

/-- The accumulators of a counted line. -/
theorem lineAccOf_spec (g : Geom) (l : Latched) {j : Nat} (px : List Pixel) (hw : g.zw * 8 ≤ g.width)
    (hx : l.window.x1 ≤ 7) (hrow : j / g.zh < 8) :
    ∃ a : LineAcc, lineAccOf g l j (takeLine g.width px) = some a ∧ a.row = j / g.zh ∧
      (∀ i, i < 8 → a.sums.getD i 0 = ∑ n ∈ Finset.range g.zw, tappedPixel g.width px (i * g.zw + n)) ∧
      (l.window.y0 ≤ a.row → a.row ≤ l.window.y1 →
        a.focus = min 4294967295
          (∑ n ∈ Finset.Ico (max 2 (l.window.x0 * g.zw)) ((l.window.x1 + 1) * g.zw),
            coredDifference l.coring (tappedPixel g.width px n) (tappedPixel g.width px (n - 2)))) ∧
      (a.row < l.window.y0 ∨ l.window.y1 < a.row → a.focus = 0) := by
  refine ⟨_, if_pos hrow, rfl, fun i hi => ?_, fun h0 h1 => ?_, fun hout => ?_⟩
  · rw [List.getD_eq_getElem?_getD, List.getElem?_map, List.getElem?_range hi]
    exact columnSum_eq hw hi px
  · exact (if_pos ⟨h0, h1⟩).trans (focusSum_eq hw hx l.coring px)
  · refine if_neg fun hc => ?_
    dsimp only at hout
    omega

theorem lineAccOf_uncounted (g : Geom) (l : Latched) {j : Nat} (line : List Pixel) (h : 8 ≤ j / g.zh) :
    lineAccOf g l j line = none := if_neg (Nat.not_lt.2 h)

theorem statsLineEnd_none (h : b.stu.line = none) : statsLineEnd b = b := by
  unfold statsLineEnd
  rw [h]

theorem statsLineEnd_some {a : LineAcc} (h : b.stu.line = some a) :
    statsLineEnd b =
      { b with stu := { b.stu with
          zoneSums := addRow b.stu.zoneSums a, focusAcc := min 4294967295 (b.stu.focusAcc + a.focus), line := none } } := by
  unfold statsLineEnd
  rw [h]
  rfl

theorem addRow_getElem? (sums : List Nat) (a : LineAcc) (z : Nat) :
    (addRow sums a)[z]? = sums[z]?.map fun v => if z / 8 = a.row then v + a.sums.getD (z % 8) 0 else v :=
  List.getElem?_mapIdx

/-- The level of a zone, written with signed numbers. -/
theorem zoneLevel_eq (g : Geom) (black sum : Nat) :
    (zoneLevel g black sum : Int) = max 0 (min ((((sum / (g.zw * g.zh) : Nat) : Int) - black) / 16) 255) := by
  unfold zoneLevel
  generalize sum / (g.zw * g.zh) = q
  omega

theorem statsRecord_spec (u : Stu) (g : Geom) (l : Latched) (f : StuFrame) (lineCount cut : Bool) :
    let r := statsRecord u g l f lineCount cut
    r.k = f.k ∧ r.levels.length = u.zoneSums.length ∧
    (∀ (z v : Nat), u.zoneSums[z]? = some v →
      ∃ level : Nat, r.levels[z]? = some level ∧
        (level : Int) = max 0 (min ((((v / (g.zw * g.zh) : Nat) : Int) - l.black) / 16) 255)) ∧
    r.clipped = r.levels.countP (fun v => decide (l.clip ≤ v)) ∧ r.focus = u.focusAcc ∧
    (r.valid = true ↔ f.untimed = false ∧ lineCount = false ∧ cut = false) ∧ r.untimed = f.untimed ∧
    r.periodJump = f.periodJump ∧ r.lineCount = lineCount ∧ r.cut = cut ∧ r.old = false := by
  intro r
  refine ⟨rfl, List.length_map _, fun z v hv => ⟨zoneLevel g l.black v, ?_, zoneLevel_eq g l.black v⟩, ?_, rfl, ?_, rfl, rfl,
    rfl, rfl, rfl⟩
  · exact (List.getElem?_map ..).trans (by rw [hv]; rfl)
  · exact (List.countP_eq_length_filter ..).symm
  · simp [r, statsRecord, and_assoc]

end Statistics

/-- Settles O45. -/
theorem statsReachConsumers : Obligations.StatsReachConsumers := by
  refine ⟨fun s b r rest hs h => ⟨fun hp => (runs_fsuStatsReady hs).of_eq (storeStats_passes h hp), fun f hc hk ho => ?_⟩,
    fun s b m r rest hs h => ?_, fun b k jump untimed => statsFrameStart_eq k jump untimed b,
    fun b g l f j px hg hl hf hw hx => ?_, fun b => ⟨statsLineEnd_none, fun a ha => ?_⟩,
    fun b g l f lineCount cut hg hl hf => ?_⟩
  · obtain ⟨hwait, hpub⟩ := storeStats_cases h hc hk ho
    exact ⟨fun hn => (runs_fsuStatsReady hs).of_eq (hwait hn),
      fun slot hslot hlast => (runs_fsuStatsReady hs).of_eq (hpub slot hslot hlast)⟩
  · intro seen clean
    have hrun := runs_afuStatsReady m hs
    refine ⟨fun hc => hrun.of_eq (afuHandle_unclean m h hc), fun hc hs hcaf => hrun.of_eq ?_,
      fun hc hs hcaf hl => hrun.of_eq ?_, fun last hc hs hcaf hl => hrun.of_eq ?_, fun sr hc hsr hbusy => hrun.of_eq ?_,
      fun sr hc hsr hm he => hrun.of_eq ?_⟩
    · rw [afuHandle_clean m h hc, cleanFrame_noSearch (b := afuSeen m r rest b) hs]
      exact if_neg fun ht => Bool.false_ne_true (hcaf.symm.trans ht)
    · rw [afuHandle_clean m h hc, cleanFrame_noSearch (b := afuSeen m r rest b) hs]
      exact (if_pos hcaf).trans (cafFrame_first (b := afuSeen m r rest b) hl _)
    · rw [afuHandle_clean m h hc, cleanFrame_noSearch (b := afuSeen m r rest b) hs]
      exact if_pos hcaf
    · rw [afuHandle_clean m h hc, cleanFrame_search (b := afuSeen m r rest b) hsr]
      refine if_neg fun hn => ?_
      exact hbusy.elim (fun ht => Bool.false_ne_true (hn.1.symm.trans ht)) fun he => he hn.2
    · rw [afuHandle_clean m h hc, cleanFrame_search (b := afuSeen m r rest b) hsr]
      exact if_pos ⟨hm, he⟩
  · intro p term
    rw [statsLineBegin_eq hg hl hf]
    refine ⟨fun hrow => ?_, fun hrow => ?_⟩
    · rw [lineAccOf_uncounted g l _ hrow]
    · obtain ⟨a, ha, hspec⟩ := lineAccOf_spec g l px hw hx hrow
      exact ⟨a, by rw [ha], hspec⟩
  · exact ⟨addRow b.stu.zoneSums a, statsLineEnd_some ha, addRow_getElem? b.stu.zoneSums a⟩
  · exact ⟨statsRecord b.stu g l f lineCount cut, (statsFrameEnd_raises hg hl hf lineCount cut).trans rfl,
      statsRecord_spec b.stu g l f lineCount cut⟩

end Sys2Proof.Machine
end

section
/-!
PROOFS. The PWM period, the iris steps and the stages they count (R76, R91, R92), with the facts about the lens that the
proofs about inputs, expiries and searches share.
-/

namespace Sys2Proof.Machine

/-! ### What the shared lens operations do -/

/-- Without a move on the focus axis, tracking that changes is a change of the zoom map alone. -/
theorem retrack_noMove {b : Block} (t : Bool) (h : b.focus.move = none) : ∃ z, retrack t b = { b with zmap := z } := by
  have hstop : ∀ c : Block, c.focus.move = none → stopTracking c = c :=
    fun c hc => stopTracking_other fun m hm => nomatch hc.symm.trans hm
  by_cases hw : trackWanted b = true
  · cases ha : b.zmap.trackActive with
    | true => exact ⟨_, retrack_stays_active hw ha t⟩
    | false => exact ⟨_, retrack_begins hw ha t⟩
  · cases ha : b.zmap.trackActive with
    | false => exact ⟨_, retrack_stays_inactive hw ha t⟩
    | true =>
      rw [retrack_ends hw ha]
      cases t
      · exact ⟨_, hstop { b with zmap := { b.zmap with trackActive := false } } h⟩
      · exact ⟨_, rfl⟩

/-- The reference of an axis follows no move: neither the candidates nor any other unit but the zoom map and the focus
target changes. -/
theorem referenceChanged_noMove {b : Block} (ax : Axis) (h : b.focus.move = none) :
    ∃ z t, referenceChanged ax b = { b with zmap := z, focus := { b.focus with target := t } } := by
  cases ax with
  | zoom =>
    obtain ⟨z, hz⟩ := retrack_noMove (b := updateFocusLimits b) false h
    exact ⟨z, _, hz⟩
  | focus =>
    obtain ⟨z, hz⟩ := retrack_noMove (b := b) false h
    exact ⟨z, b.focus.target, hz⟩

theorem supplyIsLow_iff (b : Block) (ax : Axis) :
    supplyIsLow b ax = true ↔ b.ldu.msense.val ≤ ((blockOf b ax).map (·.supplyLevel)).getD 0 := decide_eq_true_iff

/-- The end of a REFERENCE plan. -/
theorem refEnd_eq (r : RefPlan) (fin : FinalState) (o : PlanOutcome) (b : Block) :
    refEnd r fin o b =
      endPlan .reference fin o (leInt 4 (position b.zoom))
        (referenceArea (position b.focus) (r.zoomEdge.getD b.zoom.counter) (r.focusEdge.getD b.focus.counter)
          r.zoomTravel r.focusTravel)
        { b with ldu := { b.ldu with refPlan := none } } := rfl

theorem refFail_running {b : Block} {r : RefPlan} (h : b.ldu.refPlan = some r) (o : PlanOutcome) :
    refFail o b = refEnd r .failed o { b with ntu := setFlag .lensFault b.ntu } := by
  unfold refFail
  rw [h]
  rfl

theorem startSearch_supplyLow {b : Block} {ax : Axis} (hr : b.ldu.refPlan ≠ none) (h : supplyIsLow b ax = true) :
    startSearch ax b = refFail .supplyLow b := by
  unfold startSearch
  cases hp : b.ldu.refPlan with
  | none => exact absurd hp hr
  | some r => exact if_pos h

theorem startSearch_started {b : Block} {ax : Axis} {r : RefPlan} (hr : b.ldu.refPlan = some r)
    (h : ¬supplyIsLow b ax = true) :
    startSearch ax b = referenceChanged ax (putAxis ax (searchStarted (axisOf b ax) (refSetOf b ax r.prm)) b) := by
  unfold startSearch
  rw [hr]
  exact if_neg h

/-! ### The iris (R91, R92) -/

section IrisStep

variable {b : Block}

theorem irisStep_scheduled (h : b.iris.stage = none) : irisStep b = { b with iris := irisScheduled b.iris } := by
  unfold irisStep
  rw [h]

theorem irisStep_counts {n : Nat} {r : RefPlan} (h : b.iris.stage = some n) (hr : b.ldu.refPlan = some r) (hn : 1 < n) :
    irisStep b = { b with iris := { b.iris with stage := some (n - 1) } } := by
  unfold irisStep
  rw [h, hr]
  exact if_neg (Nat.not_le.2 hn)

theorem irisStep_last {n : Nat} {r : RefPlan} (h : b.iris.stage = some n) (hr : b.ldu.refPlan = some r) (hn : n ≤ 1) :
    irisStep b =
      startSearch .focus
        (setRef (some { r with stage := .focus }) { b with iris := irisReferenced b.iris r.prm.cTravel }) := by
  unfold irisStep
  rw [h, hr]
  exact if_pos hn

end IrisStep

section Scheduled

variable {i : Iris}

theorem irisScheduled_closes (h : 0 < i.steps) (hp : i.position < i.cTravel) :
    irisScheduled i = { i with position := i.position + 1, steps := i.steps - 1 } := by
  unfold irisScheduled
  rw [if_pos h, if_pos hp]

theorem irisScheduled_opens (h : i.steps < 0) (hp : 0 < i.position) :
    irisScheduled i = { i with position := i.position - 1, steps := i.steps + 1 } := by
  unfold irisScheduled
  rw [if_neg (by omega), if_pos h, if_pos hp]

/-- No step remains, or the next one would pass an end of the travel. -/
theorem irisScheduled_drops
    (h : i.steps = 0 ∨ 0 < i.steps ∧ i.cTravel ≤ i.position ∨ i.steps < 0 ∧ i.position = 0) :
    irisScheduled i = { i with steps := 0 } := by
  unfold irisScheduled
  rcases h with h | ⟨h, hp⟩ | ⟨h, hp⟩
  · rw [if_neg (by omega), if_neg (by omega), ← h]
  · rw [if_pos h, if_neg (by omega)]
  · rw [if_neg (by omega), if_pos h, if_neg (by omega)]

end Scheduled

/-- The focus search that follows the iris stage: the limits stay, and no unit but the axis, the plan, the zoom map and the
candidates changes. -/
theorem startSearch_focus_started {b : Block} {r : RefPlan} (hr : b.ldu.refPlan = some r)
    (h : ¬supplyIsLow b .focus = true) :
    let c := startSearch .focus b
    c.focus = searchStarted b.focus (refSetOf b .focus r.prm) ∧ c.iris = b.iris ∧ c.ldu = b.ldu ∧ c.zoom = b.zoom ∧
      c.ntu = b.ntu ∧ (b.focus.state = .idle → ∀ x ∈ c.afu.candidates, x.still = false) := by
  have hmove : ∀ x, (putAxis .focus (searchStarted b.focus x) b).focus.move = none :=
    fun x => congrArg AxisUnit.move (axisOf_putAxis .focus (searchStarted b.focus x) b)
  obtain ⟨z, hz⟩ := retrack_noMove false (hmove (refSetOf b .focus r.prm))
  have hkeep := fun a => putAxis_focus_frame (b := b) (l := [.focus, .afu]) a (Among.refl _) (Changes.refl _ b)
  intro c
  have hc : c = _ := (startSearch_started hr h).trans hz
  rw [hc]
  refine ⟨axisOf_putAxis .focus (searchStarted b.focus _) b, hkeep _ .iris (by decide), hkeep _ .ldu (by decide),
    hkeep _ .zoom (by decide), hkeep _ .ntu (by decide), fun hi x hx => ?_⟩
  have hafu := congrArg Afu.candidates
    (putAxis_focus_afu (a := searchStarted b.focus (refSetOf b .focus r.prm)) nofun b)
  rw [if_pos hi] at hafu
  obtain ⟨y, -, hy⟩ := List.mem_map.1 (hafu ▸ hx)
  exact hy ▸ rfl

/-- Settles O50. -/
theorem pwmAndIrisSteps : Obligations.PwmAndIrisSteps := by
  intro s b hs
  refine ⟨fun ax => runs_pwmPeriodStart ax hs, fun ms => ?_⟩
  intro bm
  have hrun := runs_irisStep ms hs
  refine ⟨fun h hp ht => hrun.of_eq ?_, fun h hn hp => hrun.of_eq ?_, fun h hd => hrun.of_eq ?_, fun n r hn hr => ?_⟩
  · exact (irisStep_scheduled (b := bm) h).trans (congrArg (fun i => { bm with iris := i }) (irisScheduled_closes hp ht))
  · exact (irisStep_scheduled (b := bm) h).trans (congrArg (fun i => { bm with iris := i }) (irisScheduled_opens hn hp))
  · exact (irisStep_scheduled (b := bm) h).trans (congrArg (fun i => { bm with iris := i }) (irisScheduled_drops hd))
  · have hlast := fun h1 => irisStep_last (b := bm) hn hr h1
    refine ⟨fun h1 => hrun.of_eq (irisStep_counts (b := bm) hn hr h1), fun h1 hsup => ?_, fun h1 hlow => hrun.of_eq ?_⟩
    · have hnot : ¬supplyIsLow
          (setRef (some { r with stage := .focus }) { bm with iris := irisReferenced bm.iris r.prm.cTravel })
          .focus = true := fun hc => absurd ((supplyIsLow_iff _ _).1 hc) (Nat.not_le.2 hsup)
      obtain ⟨hf, hi, hl, hz, hnt, hcand⟩ := startSearch_focus_started rfl hnot
      exact ⟨_, hrun.of_eq (hlast h1), hi, hf, congrArg Ldu.refPlan hl, hz, hnt, hcand⟩
    · refine (hlast h1).trans ((startSearch_supplyLow (Option.some_ne_none _) ((supplyIsLow_iff _ _).2 hlow)).trans ?_)
      exact (refFail_running (r := { r with stage := .focus }) rfl _).trans rfl

end Sys2Proof.Machine
end

section
/-!
PROOFS. The encoder and reference inputs of an axis: what a change of a phase counts, and an illegal transition
(R71 to R73).
-/

namespace Sys2Proof.Machine

/-! ### The part of an axis that its inputs make -/

/-- An axis unit with what drives and stops it blanked: the accepted levels, the counts and the reference remain. -/
def encoderPart (a : AxisUnit) : AxisUnit :=
  { a with
    state := .idle, target := 0, move := none, moveTimer := none, braking := 0, stopFaulted := false, output := .off,
    search := none }

theorem encoderPart_fields {a a' : AxisUnit} (h : encoderPart a' = encoderPart a) :
    a'.refCount = a.refCount ∧ a'.counter = a.counter ∧ a'.referenced = a.referenced ∧ a'.phaseA = a.phaseA ∧
    a'.phaseB = a.phaseB :=
  ⟨(congrArg AxisUnit.refCount h :), (congrArg AxisUnit.counter h :), (congrArg AxisUnit.referenced h :),
    (congrArg AxisUnit.phaseA h :), (congrArg AxisUnit.phaseB h :)⟩

theorem brake_encoderPart (ax : Axis) (v : Bool) (b : Block) :
    encoderPart (axisOf (brake ax v b) ax) = encoderPart (axisOf b ax) := by
  rw [axisOf_brake]
  rfl

theorem retrack_encoderPart (t : Bool) (b : Block) : encoderPart (retrack t b).focus = encoderPart b.focus := by
  have hstop : ∀ c : Block, encoderPart (stopTracking c).focus = encoderPart c.focus := by
    intro c
    unfold stopTracking
    split
    · exact brake_encoderPart .focus false c
    · rfl
  by_cases hw : trackWanted b = true
  · cases ha : b.zmap.trackActive with
    | true => rw [retrack_stays_active hw ha]
    | false => rw [retrack_begins hw ha]
  · cases ha : b.zmap.trackActive with
    | false => rw [retrack_stays_inactive hw ha]
    | true =>
      rw [retrack_ends hw ha]
      cases t
      · exact hstop { b with zmap := { b.zmap with trackActive := false } }
      · rfl

theorem referenceChanged_encoderPart (ax : Axis) (b : Block) :
    encoderPart (axisOf (referenceChanged ax b) ax) = encoderPart (axisOf b ax) := by
  cases ax with
  | zoom => rw [axisOf_referenceChanged (.inl rfl)]
  | focus => exact retrack_encoderPart false b

theorem setAxis_setAxis (ax : Axis) (a a' : AxisUnit) (b : Block) : setAxis ax a (setAxis ax a' b) = setAxis ax a b := by
  cases ax <;> rfl

/-! ### The effect of an illegal transition, by the state of the axis -/

section IllegalEffect
variable {ax : Axis} {b : Block}

theorem illegalEffect_moving (h : (axisOf b ax).state = .moving ∨ (axisOf b ax).state = .settling) :
    illegalEffect ax b = failMove ax .encoderFault .encoderFault b := by
  unfold illegalEffect
  rcases h with h | h <;> simp only [h]

theorem illegalEffect_referencing (h : (axisOf b ax).state = .referencing) :
    illegalEffect ax b = searchFail ax .encoderFault b := by
  unfold illegalEffect
  simp only [h]

theorem illegalEffect_braking (h : (axisOf b ax).state = .braking) :
    illegalEffect ax b = if inStageOf ax b then refFail .encoderFault b else b := by
  unfold illegalEffect
  simp only [h]

/-- An axis that stands becomes UNREFERENCED; one that is so already keeps its state by the same change. -/
theorem illegalEffect_standing
    (h : (axisOf b ax).state = .idle ∨ (axisOf b ax).state = .faulted ∨ (axisOf b ax).state = .unreferenced) :
    illegalEffect ax b = putAxis ax { axisOf b ax with state := .unreferenced } b := by
  unfold illegalEffect
  rcases h with h | h | h
  · simp only [h]
  · simp only [h]
  · simp only [h]
    cases ax with
    | zoom => rw [putAxis_zoom, ← h]; rfl
    | focus => rw [putAxis_focus (.inl fun hc => nomatch h.symm.trans hc), ← h]; rfl

theorem failMove_noMove (h : (axisOf b ax).move = none) (o d : PlanOutcome) : failMove ax o d b = b := by
  unfold failMove
  simp only [h]

theorem searchFail_noSearch (h : (axisOf b ax).search = none) (o : PlanOutcome) : searchFail ax o b = b := by
  unfold searchFail
  rw [h]

theorem searchFail_search (h : (axisOf b ax).search ≠ none) (o : PlanOutcome) :
    searchFail ax o b = refFail o (brake ax false b) := by
  unfold searchFail
  cases hs : (axisOf b ax).search with
  | none => exact absurd hs h
  | some _ => rfl

theorem failMove_encoderPart (o d : PlanOutcome) :
    encoderPart (axisOf (failMove ax o d b) ax) = encoderPart (axisOf b ax) := by
  cases h : (axisOf b ax).move with
  | none => rw [failMove_noMove h]
  | some m =>
    rw [failMove_axis h]
    rfl

theorem searchFail_encoderPart (o : PlanOutcome) :
    encoderPart (axisOf (searchFail ax o b) ax) = encoderPart (axisOf b ax) := by
  cases h : (axisOf b ax).search with
  | none => rw [searchFail_noSearch h]
  | some r =>
    rw [searchFail_axis h]
    rfl

theorem illegalEffect_braking_axis (h : (axisOf b ax).state = .braking) :
    axisOf (illegalEffect ax b) ax = axisOf b ax := by
  rw [illegalEffect_braking h]
  split
  · exact axisOf_refFail ..
  · rfl

theorem illegalEffect_encoderPart : encoderPart (axisOf (illegalEffect ax b) ax) = encoderPart (axisOf b ax) := by
  have hput : illegalEffect ax b = putAxis ax { axisOf b ax with state := .unreferenced } b →
      encoderPart (axisOf (illegalEffect ax b) ax) = encoderPart (axisOf b ax) := by
    intro h
    rw [h, axisOf_putAxis]
    rfl
  cases h : (axisOf b ax).state with
  | moving => rw [illegalEffect_moving (.inl h), failMove_encoderPart]
  | settling => rw [illegalEffect_moving (.inr h), failMove_encoderPart]
  | referencing => rw [illegalEffect_referencing h, searchFail_encoderPart]
  | braking => rw [illegalEffect_braking_axis h]
  | idle => exact hput (illegalEffect_standing (.inl h))
  | faulted => exact hput (illegalEffect_standing (.inr (.inl h)))
  | unreferenced => exact hput (illegalEffect_standing (.inr (.inr h)))

/-- An axis with no search, or in one that its state shows, has none after the effect. -/
theorem illegalEffect_search (h : (axisOf b ax).search = none ∨ (axisOf b ax).state = .referencing) :
    (axisOf (illegalEffect ax b) ax).search = none := by
  have hput : illegalEffect ax b = putAxis ax { axisOf b ax with state := .unreferenced } b →
      (axisOf (illegalEffect ax b) ax).search = (axisOf b ax).search := by
    intro h
    rw [h, axisOf_putAxis]
  cases hst : (axisOf b ax).state with
  | moving =>
    rw [illegalEffect_moving (.inl hst)]
    cases hm : (axisOf b ax).move with
    | none => rw [failMove_noMove hm, h.resolve_right fun hc => nomatch hst.symm.trans hc]
    | some m =>
      rw [failMove_axis hm]
      rfl
  | settling =>
    rw [illegalEffect_moving (.inr hst)]
    cases hm : (axisOf b ax).move with
    | none => rw [failMove_noMove hm, h.resolve_right fun hc => nomatch hst.symm.trans hc]
    | some m =>
      rw [failMove_axis hm]
      rfl
  | referencing =>
    rw [illegalEffect_referencing hst]
    cases hs : (axisOf b ax).search with
    | none => rw [searchFail_noSearch hs, hs]
    | some r =>
      rw [searchFail_axis hs]
      rfl
  | braking => rw [illegalEffect_braking_axis hst, h.resolve_right fun hc => nomatch hst.symm.trans hc]
  | idle =>
    exact (hput (illegalEffect_standing (.inl hst))).trans (h.resolve_right fun hc => nomatch hst.symm.trans hc)
  | faulted =>
    exact (hput (illegalEffect_standing (.inr (.inl hst)))).trans (h.resolve_right fun hc => nomatch hst.symm.trans hc)
  | unreferenced =>
    exact (hput (illegalEffect_standing (.inr (.inr hst)))).trans (h.resolve_right fun hc => nomatch hst.symm.trans hc)

end IllegalEffect

theorem refFail_lensFault {b : Block} (o : PlanOutcome) (h : flagOf b.ntu .lensFault = true) :
    flagOf (refFail o b).ntu .lensFault = true := by
  cases hr : b.ldu.refPlan with
  | none =>
    unfold refFail
    rw [hr]
    exact h
  | some r =>
    have hntu : (refFail o b).ntu = setFlag .lensFault b.ntu := by
      rw [refFail_running hr]
      exact refEnd_frame r .failed o (Among.refl _) (Changes.refl _ _) .ntu (by decide)
    rw [hntu]
    exact flagOf_setFlag_mono h

/-- LENS_FAULT that is raised stays raised through the effect. -/
theorem illegalEffect_lensFault {ax : Axis} {b : Block} (h : flagOf b.ntu .lensFault = true) :
    flagOf (illegalEffect ax b).ntu .lensFault = true := by
  have hput : illegalEffect ax b = putAxis ax { axisOf b ax with state := .unreferenced } b →
      flagOf (illegalEffect ax b).ntu .lensFault = true := by
    intro hp
    rw [hp, putAxis_ntu]
    exact h
  have hmove : flagOf (failMove ax .encoderFault .encoderFault b).ntu .lensFault = true := by
    cases hm : (axisOf b ax).move with
    | none => rwa [failMove_noMove hm]
    | some m =>
      rw [failMove_ntu hm]
      exact flagOf_setFlag_mono h
  cases hst : (axisOf b ax).state with
  | moving => rwa [illegalEffect_moving (.inl hst)]
  | settling => rwa [illegalEffect_moving (.inr hst)]
  | referencing =>
    rw [illegalEffect_referencing hst]
    by_cases hs : (axisOf b ax).search = none
    · rwa [searchFail_noSearch hs]
    · rw [searchFail_search hs]
      exact refFail_lensFault _ ((brake_ntu ax false b).symm ▸ h)
  | braking =>
    rw [illegalEffect_braking hst]
    split
    · exact refFail_lensFault _ h
    · exact h
  | idle => exact hput (illegalEffect_standing (.inl hst))
  | faulted => exact hput (illegalEffect_standing (.inr (.inl hst)))
  | unreferenced => exact hput (illegalEffect_standing (.inr (.inr hst)))

/-! ### The counts of a sample -/

/-- The block after the levels of a sample, the reference edge apart. -/
def phasesTaken (ax : Axis) (pa pb ref : Option Bool) (b : Block) : Block :=
  let a := axisOf b ax
  let b1 := setAxis ax (acceptLevels pa pb ref a) b
  if illegalTransition a pa pb then illegal ax b1
  else
    match countOf a pa pb with
    | none => b1
    | some d => addTravel ax (setAxis ax { acceptLevels pa pb ref a with counter := a.counter + d } b)

theorem filterAccept_eq (ax : Axis) (pa pb ref : Option Bool) (b : Block) :
    filterAccept ax pa pb ref b =
      match edgeFound { axisOf (phasesTaken ax pa pb ref b) ax with refLevel := (axisOf b ax).refLevel } ref with
      | none => phasesTaken ax pa pb ref b
      | some set => takeEdge ax set (phasesTaken ax pa pb ref b) := by
  unfold filterAccept phasesTaken
  simp only [axisOf_setAxis, setAxis_setAxis]
  rfl

section Sample
variable {ax : Axis} {pa pb ref : Option Bool} {b : Block} {x y : Bool}

theorem changed_none (o : Option Bool) : changed o none = false := by cases o <;> rfl

theorem changed_flip (x : Bool) : changed (some x) (some !x) = true := by cases x <;> rfl

theorem changed_same (x : Bool) : changed (some x) (some x) = false := by cases x <;> rfl

theorem edgeFound_noSearch {a : AxisUnit} (h : a.search = none) (ref : Option Bool) : edgeFound a ref = none := by
  unfold edgeFound
  rw [h]

theorem edgeFound_noLevel (a : AxisUnit) : edgeFound a none = none := by
  unfold edgeFound
  cases a.search with
  | none => rfl
  | some s => simp [changed_none]

theorem filterAccept_noEdge (h : ref = none ∨ (axisOf (phasesTaken ax pa pb ref b) ax).search = none) :
    filterAccept ax pa pb ref b = phasesTaken ax pa pb ref b := by
  have hedge :
      edgeFound { axisOf (phasesTaken ax pa pb ref b) ax with refLevel := (axisOf b ax).refLevel } ref = none := by
    rcases h with h | h
    · rw [h, edgeFound_noLevel]
    · exact edgeFound_noSearch (a := { axisOf (phasesTaken ax pa pb ref b) ax with refLevel := (axisOf b ax).refLevel }) h _
  rw [filterAccept_eq, hedge]

theorem phasesTaken_illegal (ha : (axisOf b ax).phaseA = some x) (hb : (axisOf b ax).phaseB = some y) :
    phasesTaken ax (some !x) (some !y) ref b =
      illegal ax (setAxis ax (acceptLevels (some !x) (some !y) ref (axisOf b ax)) b) := by
  have hill : illegalTransition (axisOf b ax) (some !x) (some !y) = true := by
    unfold illegalTransition
    rw [ha, hb, changed_flip, changed_flip]
    rfl
  exact if_pos hill

theorem phasesTaken_still (hi : illegalTransition (axisOf b ax) pa pb = false) (hc : countOf (axisOf b ax) pa pb = none) :
    phasesTaken ax pa pb ref b = setAxis ax (acceptLevels pa pb ref (axisOf b ax)) b := by
  unfold phasesTaken
  simp only [hi, hc]
  rfl

theorem phasesTaken_counts {d : BitVec 16} (hi : illegalTransition (axisOf b ax) pa pb = false)
    (hc : countOf (axisOf b ax) pa pb = some d) :
    phasesTaken ax pa pb ref b =
      addTravel ax (setAxis ax { acceptLevels pa pb ref (axisOf b ax) with counter := (axisOf b ax).counter + d } b) := by
  unfold phasesTaken
  simp only [hi, hc]
  rfl

/-- Phase A alone changes. -/
theorem countOf_phaseA {a : AxisUnit} (ha : a.phaseA = some x) (hb : a.phaseB = some y) :
    illegalTransition a (some !x) none = false ∧
    countOf a (some !x) none = some (if x = y then 1#16 else -1#16) := by
  unfold illegalTransition countOf
  rw [ha, hb]
  cases x <;> cases y <;> decide

/-- Phase B alone changes. -/
theorem countOf_phaseB {a : AxisUnit} (ha : a.phaseA = some x) (hb : a.phaseB = some y) :
    illegalTransition a none (some !y) = false ∧
    countOf a none (some !y) = some (if x = y then -1#16 else 1#16) := by
  unfold illegalTransition countOf
  rw [ha, hb]
  cases x <;> cases y <;> decide

/-- The levels that stand change nothing. -/
theorem countOf_same {a : AxisUnit} (ha : a.phaseA = some x) (hb : a.phaseB = some y) :
    illegalTransition a (some x) (some y) = false ∧ countOf a (some x) (some y) = none := by
  unfold illegalTransition countOf
  simp [ha, hb, changed_same]

theorem acceptLevels_same {a : AxisUnit} (ha : a.phaseA = some x) (hb : a.phaseB = some y) :
    acceptLevels (some x) (some y) none a = { a with filter := { a.filter with a := none, b := none } } := by
  change { a with phaseA := some x, phaseB := some y, filter := { a.filter with a := none, b := none } } = _
  rw [← ha, ← hb]

theorem countOf_noPhase (a : AxisUnit) : illegalTransition a none none = false ∧ countOf a none none = none := by
  unfold illegalTransition countOf
  rw [changed_none]
  cases a.phaseA <;> cases a.phaseB <;> exact ⟨rfl, rfl⟩

/-- The first level that an input takes is no change. -/
theorem countOf_first {a : AxisUnit} (h : a.phaseA = none ∧ pb = none ∨ a.phaseB = none ∧ pa = none) :
    illegalTransition a pa pb = false ∧ countOf a pa pb = none := by
  unfold illegalTransition countOf
  rcases h with ⟨h, hp⟩ | ⟨h, hp⟩
  · rw [h]
    exact ⟨rfl, rfl⟩
  · rw [h, hp, changed_none]
    cases a.phaseA <;> exact ⟨rfl, rfl⟩

theorem addTravel_idle (h : (axisOf b ax).search = none) : addTravel ax b = b := by
  unfold addTravel
  rw [h]
  cases b.ldu.refPlan <;> rfl

theorem travelOf_zoom {r : RefPlan} (h : b.ldu.refPlan = some r) : travelOf b .zoom = r.zoomTravel := by
  unfold travelOf
  rw [h]

theorem travelOf_focus {r : RefPlan} (h : b.ldu.refPlan = some r) : travelOf b .focus = r.focusTravel := by
  unfold travelOf
  rw [h]

/-- The REFERENCE plan with one more count used by the search of an axis. -/
def oneMore (ax : Axis) (r : RefPlan) : RefPlan :=
  match ax with
  | .zoom => { r with zoomTravel := r.zoomTravel + 1 }
  | .focus => { r with focusTravel := r.focusTravel + 1 }

theorem addTravel_search {r : RefPlan} (hr : b.ldu.refPlan = some r) (h : (axisOf b ax).search ≠ none) :
    addTravel ax b = setRef (some (oneMore ax r)) b := by
  unfold addTravel
  cases hs : (axisOf b ax).search with
  | none => exact absurd hs h
  | some srch =>
    rw [hr]
    cases ax <;> rfl

theorem axisOf_setRef (ax : Axis) (r : Option RefPlan) (b : Block) : axisOf (setRef r b) ax = axisOf b ax := by
  cases ax <;> rfl

theorem travelOf_oneMore {r : RefPlan} (hr : b.ldu.refPlan = some r) (c : Block) :
    travelOf (setRef (some (oneMore ax r)) c) ax = travelOf b ax + 1 := by
  cases ax with
  | zoom => rw [travelOf_zoom (r := oneMore .zoom r) rfl, travelOf_zoom hr]; rfl
  | focus => rw [travelOf_focus (r := oneMore .focus r) rfl, travelOf_focus hr]; rfl

end Sample

/-! ### The obligation -/

/-- A legal change of one phase: the axis counts `d`, and in a search the travel too. -/
theorem filterAccept_counts {ax : Axis} {pa pb : Option Bool} {b : Block} {d : BitVec 16}
    (h : illegalTransition (axisOf b ax) pa pb = false ∧ countOf (axisOf b ax) pa pb = some d) :
    let a := axisOf b ax
    let c := setAxis ax { acceptLevels pa pb none a with counter := a.counter + d } b
    (a.search = none → filterAccept ax pa pb none b = c) ∧
    (∀ r, a.search ≠ none → b.ldu.refPlan = some r → filterAccept ax pa pb none b = setRef (some (oneMore ax r)) c) := by
  intro a c
  have hc : filterAccept ax pa pb none b = addTravel ax c :=
    (filterAccept_noEdge (.inl rfl)).trans (phasesTaken_counts h.1 h.2)
  have hs : (axisOf c ax).search = a.search := by
    rw [axisOf_setAxis]
    rfl
  refine ⟨fun hn => hc.trans (addTravel_idle (hs.trans hn)),
    fun r hn hr => hc.trans (addTravel_search ?_ fun hc => hn (hs.symm.trans hc))⟩
  rw [setAxis_ldu]
  exact hr

/-- A change of one phase in a search. -/
theorem filterAccept_counts_search {s : State} {b : Block} {ax : Axis} {pa pb : Option Bool} {d : BitVec 16} {r : RefPlan}
    (hs : Settles s b) (h : illegalTransition (axisOf b ax) pa pb = false ∧ countOf (axisOf b ax) pa pb = some d)
    (hn : (axisOf b ax).search ≠ none) (hr : b.ldu.refPlan = some r) :
    ∃ b' : Block,
      Runs (.inputFilterAccept ax pa pb none) s b' ∧ travelOf b' ax = travelOf b ax + 1 ∧
      axisOf b' ax = { acceptLevels pa pb none (axisOf b ax) with counter := (axisOf b ax).counter + d } :=
  ⟨_, (runs_inputFilterAccept ax pa pb none hs).of_eq ((filterAccept_counts h).2 r hn hr), travelOf_oneMore hr _,
    (axisOf_setRef ..).trans (axisOf_setAxis ..)⟩

theorem legalInputsCount (s : State) (b : Block) (ax : Axis) (hs : Settles s b) :
    let a := axisOf b ax
    (∀ x y : Bool, a.phaseA = some x → a.phaseB = some y → a.search = none →
      Runs (.inputFilterAccept ax (some !x) none none) s
        (setAxis ax
          { a with
            phaseA := some !x, counter := a.counter + (if x = y then 1#16 else -1#16), filter := { a.filter with a := none } }
          b) ∧
      Runs (.inputFilterAccept ax none (some !y) none) s
        (setAxis ax
          { a with
            phaseB := some !y, counter := a.counter + (if x = y then -1#16 else 1#16), filter := { a.filter with b := none } }
          b) ∧
      Runs (.inputFilterAccept ax (some x) (some y) none) s
        (setAxis ax { a with filter := { a.filter with a := none, b := none } } b)) ∧
    (∀ v : Bool, a.search = none →
      Runs (.inputFilterAccept ax none none (some v)) s
        (setAxis ax { a with refLevel := some v, filter := { a.filter with ref := none } } b)) := by
  intro a
  refine ⟨fun x y hx hy hn => ⟨?_, ?_, ?_⟩, fun v hn => ?_⟩
  · exact (runs_inputFilterAccept ax _ _ _ hs).of_eq ((filterAccept_counts (countOf_phaseA hx hy)).1 hn)
  · exact (runs_inputFilterAccept ax _ _ _ hs).of_eq ((filterAccept_counts (countOf_phaseB hx hy)).1 hn)
  · have hc := countOf_same hx hy
    exact (runs_inputFilterAccept ax _ _ _ hs).of_eq
      ((filterAccept_noEdge (.inl rfl)).trans
        ((phasesTaken_still hc.1 hc.2).trans (congrArg (setAxis ax · b) (acceptLevels_same hx hy))))
  · have hc := countOf_noPhase a
    have hb := phasesTaken_still (ref := some v) hc.1 hc.2
    refine (runs_inputFilterAccept ax _ _ _ hs).of_eq ((filterAccept_noEdge (.inr ?_)).trans hb)
    rw [hb, axisOf_setAxis]
    exact hn

/-- The first level of a phase. -/
theorem firstLevels (s : State) (b : Block) (ax : Axis) (hs : Settles s b) :
    let a := axisOf b ax
    (∀ v : Bool, a.phaseA = none →
      Runs (.inputFilterAccept ax (some v) none none) s
        (setAxis ax { a with phaseA := some v, filter := { a.filter with a := none } } b)) ∧
    (∀ v : Bool, a.phaseB = none →
      Runs (.inputFilterAccept ax none (some v) none) s
        (setAxis ax { a with phaseB := some v, filter := { a.filter with b := none } } b)) := by
  intro a
  refine ⟨fun v h => ?_, fun v h => ?_⟩
  · have hc := countOf_first (a := a) (pa := some v) (pb := none) (.inl ⟨h, rfl⟩)
    exact (runs_inputFilterAccept ax _ _ _ hs).of_eq
      ((filterAccept_noEdge (.inl rfl)).trans (phasesTaken_still hc.1 hc.2))
  · have hc := countOf_first (a := a) (pa := none) (pb := some v) (.inr ⟨h, rfl⟩)
    exact (runs_inputFilterAccept ax _ _ _ hs).of_eq
      ((filterAccept_noEdge (.inl rfl)).trans (phasesTaken_still hc.1 hc.2))

/-! ### An illegal transition -/

section Illegal
variable {ax : Axis} {b : Block}

/-- The block in which the effect of an illegal transition is made. -/
def illegalSeen (ax : Axis) (b : Block) : Block :=
  raise .lensFault (setAxis ax { axisOf b ax with referenced := false } b)

theorem illegal_eq (ax : Axis) (b : Block) :
    illegal ax b = referenceChanged ax (illegalEffect ax (illegalSeen ax b)) := rfl

theorem axisOf_illegalSeen (ax : Axis) (b : Block) :
    axisOf (illegalSeen ax b) ax = { axisOf b ax with referenced := false } := by
  rw [illegalSeen, axisOf_raise, axisOf_setAxis]

theorem illegal_encoderPart (ax : Axis) (b : Block) :
    encoderPart (axisOf (illegal ax b) ax) = encoderPart { axisOf b ax with referenced := false } := by
  rw [illegal_eq, referenceChanged_encoderPart, illegalEffect_encoderPart, axisOf_illegalSeen]

theorem illegal_search (h : (axisOf b ax).search = none ∨ (axisOf b ax).state = .referencing) :
    (axisOf (illegal ax b) ax).search = none := by
  obtain ⟨-, -, -, -, hkeep, -⟩ := referenceChanged_sameReference ax (illegalEffect ax (illegalSeen ax b))
  refine hkeep (illegalEffect_search ?_)
  rw [axisOf_illegalSeen]
  exact h

theorem illegal_lensFault (h : levelOf b.ntu .lensFault ≠ 0) : flagOf (illegal ax b).ntu .lensFault = true := by
  have hseen : flagOf (illegalSeen ax b).ntu .lensFault = true := by
    rw [illegalSeen, raise_ntu, setAxis_ntu]
    exact flagOf_setFlag h
  rw [illegal_eq, referenceChanged_ntu]
  exact illegalEffect_lensFault hseen

theorem illegal_regs (ax : Axis) (b : Block) : (illegal ax b).regs = b.regs :=
  illegal_frame ax (Among.refl _) (Changes.refl _ b) .regs (by decide)

/-- The axis after the effect, when it is left with no move: following the reference leaves it. -/
theorem illegal_axis {a : AxisUnit} (h : axisOf (illegalEffect ax (illegalSeen ax b)) ax = a) (hm : a.move = none) :
    axisOf (illegal ax b) ax = a := by
  rw [illegal_eq, axisOf_referenceChanged, h]
  cases ax with
  | zoom => exact .inl rfl
  | focus => exact .inr ((congrArg AxisUnit.move h).trans hm)

/-- An illegal transition brakes a move. -/
theorem illegal_moving (hst : (axisOf b ax).state = .moving ∨ (axisOf b ax).state = .settling)
    (hm : (axisOf b ax).move ≠ none) :
    axisOf (illegal ax b) ax = braked (illegalSeen ax b) ax false := by
  have ha := axisOf_illegalSeen ax b
  obtain ⟨m, hm⟩ := Option.ne_none_iff_exists'.1 hm
  refine illegal_axis ?_ rfl
  rw [illegalEffect_moving (by rw [ha]; exact hst)]
  exact failMove_axis (by rw [ha]; exact hm) _ _

/-- An illegal transition brakes a reference search. -/
theorem illegal_referencing (hst : (axisOf b ax).state = .referencing) (hs : (axisOf b ax).search ≠ none) :
    axisOf (illegal ax b) ax = braked (illegalSeen ax b) ax false := by
  have ha := axisOf_illegalSeen ax b
  obtain ⟨r, hs⟩ := Option.ne_none_iff_exists'.1 hs
  refine illegal_axis ?_ rfl
  rw [illegalEffect_referencing (by rw [ha]; exact hst)]
  exact searchFail_axis (by rw [ha]; exact hs) _

/-- An axis that stands with no move becomes UNREFERENCED. -/
theorem illegal_standing
    (hst : (axisOf b ax).state = .idle ∨ (axisOf b ax).state = .faulted ∨ (axisOf b ax).state = .unreferenced)
    (hm : (axisOf b ax).move = none) :
    axisOf (illegal ax b) ax = { axisOf b ax with referenced := false, state := .unreferenced } := by
  have ha := axisOf_illegalSeen ax b
  refine illegal_axis ?_ hm
  rw [illegalEffect_standing (by rw [ha]; exact hst), axisOf_putAxis, ha]

/-- The focus axis that leaves IDLE by an illegal transition takes the still marks. -/
theorem illegal_spoils (hst : b.focus.state = .idle) (hm : b.focus.move = none) :
    ∀ c ∈ (illegal .focus b).afu.candidates, c.still = false := by
  have heff := illegalEffect_standing (ax := .focus) (b := illegalSeen .focus b) (.inl hst)
  have hmove : (illegalEffect .focus (illegalSeen .focus b)).focus.move = none := by
    rw [heff]
    exact (congrArg AxisUnit.move (axisOf_putAxis .focus _ _)).trans hm
  obtain ⟨z, t, hz⟩ := referenceChanged_noMove .focus hmove
  have hafu : (illegal .focus b).afu.candidates = b.afu.candidates.map fun c => { c with still := false } := by
    rw [illegal_eq, hz, heff]
    exact (congrArg Afu.candidates (putAxis_focus_afu (by nofun) _)).trans (if_pos hst)
  intro c hc
  rw [hafu] at hc
  obtain ⟨d, -, hd⟩ := List.mem_map.1 hc
  exact hd ▸ rfl

theorem illegal_braking (h : (axisOf b ax).state = .braking) : (axisOf (illegal ax b) ax).state = .braking := by
  have ha := axisOf_illegalSeen ax b
  obtain ⟨-, -, -, -, -, hkeep⟩ := referenceChanged_sameReference ax (illegalEffect ax (illegalSeen ax b))
  refine hkeep ?_
  rw [illegalEffect_braking_axis (by rw [ha]; exact h), ha]
  exact h

end Illegal

/-- Both phases change at one sample, and the reference edge is not looked at. -/
theorem filterAccept_illegal {ax : Axis} {b : Block} {x y : Bool} {ref : Option Bool}
    (hx : (axisOf b ax).phaseA = some x) (hy : (axisOf b ax).phaseB = some y)
    (h : ref = none ∨ (axisOf b ax).search = none ∨ (axisOf b ax).state = .referencing) :
    filterAccept ax (some !x) (some !y) ref b =
      illegal ax (setAxis ax (acceptLevels (some !x) (some !y) ref (axisOf b ax)) b) := by
  have hill := phasesTaken_illegal (ref := ref) hx hy
  refine (filterAccept_noEdge (h.imp_right fun hs => ?_)).trans hill
  rw [hill]
  refine illegal_search ?_
  rw [axisOf_setAxis]
  exact hs

/-- Settles O46. -/
theorem encoderInputsCount : Obligations.EncoderInputsCount := by
  refine ⟨fun s b ax hs => ?_, fun s b ax x y hs => ?_⟩
  · intro a
    obtain ⟨hlegal, href⟩ := legalInputsCount s b ax hs
    obtain ⟨hfa, hfb⟩ := firstLevels s b ax hs
    exact ⟨hlegal, href, fun x y r srch hx hy hn hr =>
      ⟨filterAccept_counts_search hs (countOf_phaseA hx hy) (hn ▸ Option.some_ne_none _) hr,
        filterAccept_counts_search hs (countOf_phaseB hx hy) (hn ▸ Option.some_ne_none _) hr⟩, hfa, hfb⟩
  · intro a ref hx hy href
    have ha : axisOf (setAxis ax (acceptLevels (some !x) (some !y) ref a) b) ax = acceptLevels (some !x) (some !y) ref a :=
      axisOf_setAxis ..
    have hpart := illegal_encoderPart ax (setAxis ax (acceptLevels (some !x) (some !y) ref a) b)
    rw [ha] at hpart
    obtain ⟨hcount, hctr, hrefd, hpa, hpb⟩ := encoderPart_fields hpart
    refine ⟨_, (runs_inputFilterAccept ax _ _ _ hs).of_eq (filterAccept_illegal hx hy href),
      hcount, hctr, hrefd, hpa, hpb, fun h => illegal_lensFault ?_,
      (illegal_regs ..).trans (setAxis_regs ..), fun hst hm => ?_, fun hst hn => ?_, fun hst hm => ?_,
      fun hax hst hm => ?_, fun hst => illegal_braking (ha.symm ▸ hst)⟩
    · rwa [setAxis_ntu]
    · rw [illegal_moving (ha.symm ▸ hst) (ha.symm ▸ hm)]
      exact ⟨rfl, rfl, rfl⟩
    · rw [illegal_referencing (ha.symm ▸ hst) (ha.symm ▸ hn)]
      exact ⟨rfl, rfl, rfl⟩
    · rw [illegal_standing (ha.symm ▸ hst) (ha.symm ▸ hm), ha]
      exact ⟨rfl, rfl⟩
    · subst hax
      exact illegal_spoils hst hm

end Sys2Proof.Machine
end

section
/-!
PROOFS. A control-period expiry of an axis, whatever it finds there, and the expiry of a reference search (R75, R79, R90).
-/

namespace Sys2Proof.Machine

/-! ### LENS_FAULT stays raised while the zoom map follows the zoom axis -/

theorem startMove_lensFault {b : Block} (ax : Axis) (g : Giver) (t : Int) (h : flagOf b.ntu .lensFault = true) :
    flagOf (startMove ax g t b).1.ntu .lensFault = true := by
  by_cases hr : (axisOf b ax).referenced = false
  · rwa [startMove_not_referenced hr]
  · have hr := Bool.eq_true_of_not_eq_false hr
    cases hs : supplyIsLow b ax with
    | true =>
      rw [startMove_supply_low hr hs]
      exact flagOf_setFlag_mono h
    | false =>
      rw [startMove_started hr hs, putAxis_ntu]
      exact h

theorem trackTarget_lensFault {b : Block} (h : flagOf b.ntu .lensFault = true) :
    flagOf (trackTarget b).ntu .lensFault = true := by
  by_cases ht : focusAtFraction b (position b.zoom) b.zmap.u = b.focus.target
  · rwa [trackTarget_reached ht]
  · rw [trackTarget_moves ht]
    dsimp only
    have hmove := startMove_lensFault (b := { b with zmap := { b.zmap with zLast := position b.zoom } }) .focus .tracking
      (focusAtFraction b (position b.zoom) b.zmap.u) h
    split
    · exact hmove
    · rw [trackFailed_frame (Among.refl _) (Changes.refl _ _) .ntu (by decide)]
      exact hmove

theorem zoomMoved_lensFault {b : Block} (h : flagOf b.ntu .lensFault = true) :
    flagOf (zoomMoved b).ntu .lensFault = true := by
  unfold zoomMoved
  dsimp only
  split
  · exact trackTarget_lensFault (b := updateFocusLimits b) h
  · exact h

/-! ### A control-period expiry (R75, R79) -/

/-- The block with the timer of the axis restarted. -/
def timerRestarted (ax : Axis) (b : Block) : Block := setAxis ax { axisOf b ax with period := periodOf b ax } b

/-- The block in which the position of the expiry is stored. -/
def positionStored (ax : Axis) (b : Block) : Block :=
  setAxis ax { axisOf b ax with lastPos := position (axisOf b ax) } b

/-- The block after the axis has acted on its expiry, before the zoom map is told. -/
def expired (ax : Axis) (first : MoveCheck) (b : Block) : Block :=
  positionStored ax (axisExpiry ax first (timerRestarted ax b))

theorem controlExpiry_eq (ax : Axis) (first : MoveCheck) (b : Block) :
    controlExpiry ax first b =
      if ax = .zoom ∧ position (axisOf (axisExpiry ax first (timerRestarted ax b)) ax) ≠ (axisOf b ax).lastPos then
        zoomMoved (expired ax first b)
      else expired ax first b := rfl

theorem axisOf_timerRestarted (ax : Axis) (b : Block) :
    axisOf (timerRestarted ax b) ax = { axisOf b ax with period := periodOf b ax } := axisOf_setAxis ..

theorem axisOf_positionStored (ax : Axis) (b : Block) :
    axisOf (positionStored ax b) ax = { axisOf b ax with lastPos := position (axisOf b ax) } := axisOf_setAxis ..

theorem controlExpiry_focus (first : MoveCheck) (b : Block) :
    controlExpiry .focus first b = expired .focus first b := by
  rw [controlExpiry_eq, if_neg fun h => nomatch h.1]

theorem axisOf_controlExpiry (ax : Axis) (first : MoveCheck) (b : Block) :
    axisOf (controlExpiry ax first b) ax = axisOf (expired ax first b) ax := by
  cases ax with
  | zoom =>
    rw [controlExpiry_eq]
    split
    · exact zoomMoved_frame (Among.refl _) (Changes.refl _ _) .zoom (by decide)
    · rfl
  | focus => rw [controlExpiry_focus]

/-- What the zoom map does at an expiry leaves the other units. -/
theorem controlExpiry_same (ax : Axis) (first : MoveCheck) (b : Block) {f : Fld} (hf : f ∉ [.ntu, .focus, .zmap, .afu]) :
    Agree (expired ax first b) (controlExpiry ax first b) f := by
  have h : Changes [.ntu, .focus, .zmap, .afu] (expired ax first b) (controlExpiry ax first b) := by
    rw [controlExpiry_eq]
    split
    · exact zoomMoved_frame (Among.refl _) (Changes.refl _ _)
    · exact Changes.refl _ _
  exact h f hf

theorem controlExpiry_lensFault {ax : Axis} {first : MoveCheck} {b : Block}
    (h : flagOf (expired ax first b).ntu .lensFault = true) :
    flagOf (controlExpiry ax first b).ntu .lensFault = true := by
  rw [controlExpiry_eq]
  split
  · exact zoomMoved_lensFault h
  · exact h

/-- The step that an expiry leaves as the axis's own keeps the other units too. -/
theorem positionStored_same (ax : Axis) (b : Block) {f : Fld} (hf : f ∉ [.zoom, .focus]) :
    Agree b (positionStored ax b) f :=
  setAxis_frame ax _ (Among.refl _) (Changes.refl _ b) f hf

theorem timerRestarted_same (ax : Axis) (b : Block) {f : Fld} (hf : f ∉ [.zoom, .focus]) :
    Agree b (timerRestarted ax b) f :=
  setAxis_frame ax _ (Among.refl _) (Changes.refl _ b) f hf

/-! ### The checks of an expiry, in the part's order (R79, R85) -/

section Checks
variable {first : MoveCheck} {stall limit supply : Bool}

theorem stoppedBy_passes (hs : stall = false) (hl : limit = false) (hp : supply = false) :
    stoppedBy first stall limit supply = none := by
  subst hs hl hp
  cases first <;> rfl

theorem stoppedBy_limit (hl : limit = true) (h : first = .limit ∨ stall = false ∧ supply = false) :
    stoppedBy first stall limit supply = some .limit := by
  subst hl
  rcases h with rfl | ⟨rfl, rfl⟩
  · rfl
  · cases first <;> rfl

theorem stoppedBy_stall (hs : stall = true) (hl : limit = false) (hp : supply = false) :
    stoppedBy first stall limit supply = some .stall := by
  subst hs hl hp
  cases first <;> rfl

theorem stoppedBy_supply (hs : stall = false) (hl : limit = false) (hp : supply = true) :
    stoppedBy first stall limit supply = some .supply := by
  subst hs hl hp
  cases first <;> rfl

end Checks

theorem supplyCount_eq (b : Block) (ax : Axis) :
    supplyCount b ax =
      if b.ldu.msense.val ≤ ((blockOf b ax).map (·.supplyLevel)).getD 0 then (axisOf b ax).supplyLow + 1 else 0 := by
  by_cases h : b.ldu.msense.val ≤ ((blockOf b ax).map (·.supplyLevel)).getD 0
  · exact (if_pos ((supplyIsLow_iff b ax).2 h)).trans (if_pos h).symm
  · exact (if_neg fun hc => h ((supplyIsLow_iff b ax).1 hc)).trans (if_neg h).symm

theorem supplyCount_timerRestarted (ax : Axis) (b : Block) : supplyCount (timerRestarted ax b) ax = supplyCount b ax := by
  cases ax <;> rfl

/-! ### The expiry of a reference search (R90) -/

section SearchExpiry
variable {ax : Axis} {first : MoveCheck} {b : Block} {srch : RefSearch}

/-- The search after its motion is looked at. -/
def motionSeen (a : AxisUnit) (srch : RefSearch) : RefSearch :=
  { srch with lastCounter := a.counter, still := if a.counter = srch.lastCounter then srch.still + 1 else 0 }

/-- The axis of a search after its supply sample and its motion. -/
def searchSampled (b : Block) (ax : Axis) (srch : RefSearch) : AxisUnit :=
  { axisOf b ax with supplyLow := supplyCount b ax, search := some (motionSeen (axisOf b ax) srch) }

theorem axisExpiry_search (h : (axisOf b ax).search = some srch) (hst : (axisOf b ax).state = .referencing) :
    axisExpiry ax first b = searchExpiry ax first srch b := by
  unfold axisExpiry
  simp only [h, hst]

theorem searchExpiry_eq :
    searchExpiry ax first srch b =
      match stoppedBy first (decide (63 ≤ (motionSeen (axisOf b ax) srch).still))
          (decide (srch.set.travel < travelOf b ax)) (decide (3 ≤ supplyCount b ax)) with
      | some .stall => markDue (.noMotion ax) (setAxis ax (searchSampled b ax srch) b)
      | some .supply => markDue (.supply ax) (setAxis ax (searchSampled b ax srch) b)
      | some .limit => searchFail ax .refFail (setAxis ax (searchSampled b ax srch) b)
      | none => setAxis ax (leaveStep (searchSampled b ax srch) (motionSeen (axisOf b ax) srch)) b := rfl

theorem searchExpiry_passes (hm : (motionSeen (axisOf b ax) srch).still < 63) (ht : travelOf b ax ≤ srch.set.travel)
    (hp : supplyCount b ax < 3) :
    searchExpiry ax first srch b =
      setAxis ax (leaveStep (searchSampled b ax srch) (motionSeen (axisOf b ax) srch)) b := by
  rw [searchExpiry_eq, stoppedBy_passes (decide_eq_false (Nat.not_le.2 hm)) (decide_eq_false (Nat.not_lt.2 ht))
    (decide_eq_false (Nat.not_le.2 hp))]

theorem searchExpiry_noMotion (hm : 63 ≤ (motionSeen (axisOf b ax) srch).still) (ht : travelOf b ax ≤ srch.set.travel)
    (hp : supplyCount b ax < 3) :
    searchExpiry ax first srch b = markDue (.noMotion ax) (setAxis ax (searchSampled b ax srch) b) := by
  rw [searchExpiry_eq, stoppedBy_stall (decide_eq_true hm) (decide_eq_false (Nat.not_lt.2 ht))
    (decide_eq_false (Nat.not_le.2 hp))]

theorem searchExpiry_supply (hm : (motionSeen (axisOf b ax) srch).still < 63) (ht : travelOf b ax ≤ srch.set.travel)
    (hp : 3 ≤ supplyCount b ax) :
    searchExpiry ax first srch b = markDue (.supply ax) (setAxis ax (searchSampled b ax srch) b) := by
  rw [searchExpiry_eq, stoppedBy_supply (decide_eq_false (Nat.not_le.2 hm)) (decide_eq_false (Nat.not_lt.2 ht))
    (decide_eq_true hp)]

theorem searchExpiry_travel (ht : srch.set.travel < travelOf b ax)
    (h : first = .limit ∨ (motionSeen (axisOf b ax) srch).still < 63 ∧ supplyCount b ax < 3) :
    searchExpiry ax first srch b = searchFail ax .refFail (setAxis ax (searchSampled b ax srch) b) := by
  rw [searchExpiry_eq, stoppedBy_limit (decide_eq_true ht) (h.imp_right fun ⟨hm, hp⟩ =>
    ⟨decide_eq_false (Nat.not_le.2 hm), decide_eq_false (Nat.not_le.2 hp)⟩)]

/-- The leave leg reverses once the level has returned. -/
theorem leaveStep_eq (a : AxisUnit) (s : RefSearch) :
    let back := s.leaving = true ∧ a.refLevel ≠ some s.set.rising
    leaveStep a s =
      { a with
        search := some { s with leaving := if back then false else s.leaving }
        output := if back then .drive s.set.duty s.set.positive else a.output } := by
  intro back
  unfold leaveStep
  by_cases h : back
  · rw [if_pos h, if_pos h, if_pos h]
  · rw [if_neg h, if_neg h, if_neg h]

end SearchExpiry

/-! ### A REFERENCE plan that fails -/

theorem refFail_ends {b c : Block} {r : RefPlan} (hr : c.ldu.refPlan = some r) (hple : c.ple = b.ple)
    (hregs : c.regs = b.regs) (o : PlanOutcome) :
    (refFail o c).ldu.refPlan = none ∧
    ∀ t, takenOf b .reference = some t → t.ending = .running →
      ∃ e, takenOf (refFail o c) .reference = some { t with ending := .results e } ∧ e.fin = .failed ∧
        e.outstanding =
          [(.outcome, writeAt b (t.offset + 3) (leBytes 1 o.code)),
           (.word, writeAt b (t.offset + 12) (leInt 4 (position c.zoom))),
           (.area, writeAt b (t.offset + 40)
             (referenceArea (position c.focus) (r.zoomEdge.getD c.zoom.counter) (r.focusEdge.getD c.focus.counter)
               r.zoomTravel r.focusTravel))] := by
  have hfail : refFail o c = _ := (refFail_running hr o).trans (refEnd_eq ..)
  have hwrite : ∀ n data, writeAt c n data = writeAt b n data :=
    writeAt_congr (congrArg Regs.wbase hregs) (congrArg Regs.wlimit hregs)
  rw [hfail]
  refine ⟨congrArg Ldu.refPlan (endPlan_frame _ _ _ _ _ (Among.refl _) (Changes.refl _ _) .ldu (by decide)),
    fun t ht he => ?_⟩
  have htaken : takenOf { c with ntu := setFlag .lensFault c.ntu, ldu := { c.ldu with refPlan := none } } .reference =
      some t := (takenOf_congr hple _).trans ht
  obtain ⟨e, hte, hfin, hout⟩ := startEnding_takenOf htaken .failed o (leInt 4 (position c.zoom))
    (referenceArea (position c.focus) (r.zoomEdge.getD c.zoom.counter) (r.focusEdge.getD c.focus.counter) r.zoomTravel
      r.focusTravel)
  refine ⟨e, (congrArg (takenOf · .reference) (endPlan_running htaken he _ _ _ _)).trans hte, hfin, hout.trans ?_⟩
  rw [← hwrite, ← hwrite, ← hwrite]
  rfl

theorem refFail_raises {b : Block} {r : RefPlan} (hr : b.ldu.refPlan = some r) (o : PlanOutcome)
    (h : levelOf b.ntu .lensFault ≠ 0) : flagOf (refFail o b).ntu .lensFault = true := by
  have hntu : (refFail o b).ntu = setFlag .lensFault b.ntu := by
    rw [refFail_running hr]
    exact refEnd_frame r .failed o (Among.refl _) (Changes.refl _ _) .ntu (by decide)
  rw [hntu]
  exact flagOf_setFlag h

/-- A stop of an axis that is not IDLE changes the axis alone. -/
theorem brake_of_not_idle {ax : Axis} {b : Block} (h : (axisOf b ax).state ≠ .idle) (v : Bool) :
    brake ax v b = setAxis ax (braked b ax v) b := by
  cases ax with
  | zoom => rfl
  | focus => exact brake_focus h v

end Sys2Proof.Machine
end

section
/-!
PROOFS. Reference searches: the edge, an illegal transition, the expiries and the stages of the plan (R90, R91).
-/

namespace Sys2Proof.Machine

/-! ### The reference edge -/

section TakeEdge
variable {ax : Axis} {b : Block} {r : RefPlan} {srch : RefSearch}

/-- The block after a reference edge, the plan's record of it apart. -/
def edgeTaken (ax : Axis) (set : RefSet) (b : Block) : Block :=
  referenceChanged ax (clampTarget ax (putAxis ax (atEdge b ax set) b))

/-- The REFERENCE plan with the count of the edge of an axis. -/
def withEdge (ax : Axis) (count : BitVec 16) (r : RefPlan) : RefPlan :=
  match ax with
  | .zoom => { r with zoomEdge := some count }
  | .focus => { r with focusEdge := some count }

theorem edgeTaken_frame (ax : Axis) (set : RefSet) (b : Block) :
    Changes [.zoom, .focus, .zmap, .afu] b (edgeTaken ax set b) :=
  referenceChanged_frame ax (by simp [Among]) (clampTarget_frame ax (by simp [Among])
    (putAxis_frame ax _ (by simp [Among]) (Changes.refl _ b)))

theorem axisOf_clampTarget (ax : Axis) (b : Block) :
    axisOf (clampTarget ax b) ax =
      { axisOf b ax with target := clamp (axisOf b ax).target (limitsOf b ax).lo (limitsOf b ax).hi } := axisOf_setAxis ..

theorem axisOf_edgeTaken (ax : Axis) (set : RefSet) (b : Block) :
    ∃ t, axisOf (edgeTaken ax set b) ax = { atEdge b ax set with target := t } := by
  have hput := axisOf_putAxis ax (atEdge b ax set) b
  obtain ⟨t, ht⟩ : ∃ t, axisOf (clampTarget ax (putAxis ax (atEdge b ax set) b)) ax =
      { atEdge b ax set with target := t } := by
    let l := limitsOf (putAxis ax (atEdge b ax set) b) ax
    refine ⟨clamp (atEdge b ax set).target l.lo l.hi, ?_⟩
    rw [axisOf_clampTarget, hput]
  refine ⟨t, (axisOf_referenceChanged ?_).trans ht⟩
  cases ax with
  | zoom => exact .inl rfl
  | focus => exact .inr (congrArg AxisUnit.move ht)

theorem takeEdge_eq (hr : b.ldu.refPlan = some r) (set : RefSet) :
    takeEdge ax set b = setRef (some (withEdge ax (axisOf b ax).counter r)) (edgeTaken ax set b) := by
  have hr' : (edgeTaken ax set b).ldu.refPlan = some r :=
    (congrArg Ldu.refPlan (edgeTaken_frame ax set b .ldu (by decide))).trans hr
  have hcount : (axisOf (edgeTaken ax set b) ax).refCount = (axisOf b ax).counter := by
    obtain ⟨t, ht⟩ := axisOf_edgeTaken ax set b
    rw [ht]
    rfl
  rw [← hcount]
  unfold takeEdge
  dsimp only
  rw [show (referenceChanged ax (clampTarget ax (putAxis ax (atEdge b ax set) b))).ldu.refPlan = some r from hr']
  cases ax <;> rfl

/-- A change of the reference level to the one that follows the edge, in the approach, is the edge. -/
theorem filterAccept_edge {pa pb : Option Bool}
    (h : (axisOf (phasesTaken ax pa pb (some srch.set.rising) b) ax).search = some srch) (hl : srch.leaving = false)
    (href : (axisOf b ax).refLevel = some !srch.set.rising) :
    filterAccept ax pa pb (some srch.set.rising) b =
      takeEdge ax srch.set (phasesTaken ax pa pb (some srch.set.rising) b) := by
  have hchange : changed (some !srch.set.rising) (some srch.set.rising) = true := by
    cases srch.set.rising <;> rfl
  have hedge : edgeFound
      { axisOf (phasesTaken ax pa pb (some srch.set.rising) b) ax with refLevel := (axisOf b ax).refLevel }
      (some srch.set.rising) = some srch.set := by
    unfold edgeFound
    simp [h, hl, href, hchange]
  rw [filterAccept_eq, hedge]

end TakeEdge

/-! ### The obligation, case by case -/

section Cases
variable {s : State} {b : Block} {r : RefPlan} {ax : Axis} {srch : RefSearch}

/-- The edge alone. -/
theorem edge_stored (hr : b.ldu.refPlan = some r) (hs : Settles s b) (hn : (axisOf b ax).search = some srch)
    (hl : srch.leaving = false) (href : (axisOf b ax).refLevel = some !srch.set.rising) :
    ∃ b' : Block,
      Runs (.inputFilterAccept ax none none (some srch.set.rising)) s b' ∧
      (axisOf b' ax).refCount = (axisOf b ax).counter ∧ (axisOf b' ax).counter = (axisOf b ax).counter ∧
      (axisOf b' ax).refOffset = BitVec.ofInt 16 srch.set.offset ∧ (axisOf b' ax).referenced = true ∧
      (axisOf b' ax).state = .braking ∧ (axisOf b' ax).output = .brake ∧ (axisOf b' ax).search = none ∧
      (axisOf b' ax).refLevel = some srch.set.rising ∧ b'.regs = b.regs ∧ b'.ntu = b.ntu := by
  let c := setAxis ax (acceptLevels none none (some srch.set.rising) (axisOf b ax)) b
  have hcount := countOf_noPhase (axisOf b ax)
  have hc : phasesTaken ax none none (some srch.set.rising) b = c := phasesTaken_still hcount.1 hcount.2
  have hax : axisOf c ax = acceptLevels none none (some srch.set.rising) (axisOf b ax) := axisOf_setAxis ..
  have hplan : c.ldu.refPlan = some r := by
    rw [setAxis_ldu]
    exact hr
  have hedge : filterAccept ax none none (some srch.set.rising) b = takeEdge ax srch.set c := by
    rw [← hc]
    exact filterAccept_edge (by rw [hc, hax]; exact hn) hl href
  obtain ⟨t, ht⟩ := axisOf_edgeTaken ax srch.set c
  refine ⟨_, (runs_inputFilterAccept ax _ _ _ hs).of_eq (hedge.trans (takeEdge_eq hplan _)), ?_⟩
  rw [axisOf_setRef, ht]
  refine ⟨?_, ?_, rfl, rfl, rfl, rfl, rfl, ?_, ?_, ?_⟩
  · exact (congrArg AxisUnit.counter hax :)
  · exact (congrArg AxisUnit.counter hax :)
  · exact (congrArg AxisUnit.refLevel hax :)
  · exact (edgeTaken_frame ax srch.set c .regs (by decide)).trans (setAxis_regs ..)
  · exact (edgeTaken_frame ax srch.set c .ntu (by decide)).trans (setAxis_ntu ..)

/-- The edge with a count of one phase: the count comes first. -/
theorem edge_counted (hr : b.ldu.refPlan = some r) (hs : Settles s b) {pa pb : Option Bool} {d : BitVec 16}
    (hcount : illegalTransition (axisOf b ax) pa pb = false ∧ countOf (axisOf b ax) pa pb = some d)
    (hn : (axisOf b ax).search = some srch) (hl : srch.leaving = false)
    (href : (axisOf b ax).refLevel = some !srch.set.rising) :
    let c := (axisOf b ax).counter + d
    ∃ b' : Block,
      Runs (.inputFilterAccept ax pa pb (some srch.set.rising)) s b' ∧
      (axisOf b' ax).counter = c ∧ (axisOf b' ax).refCount = c ∧ (axisOf b' ax).referenced = true ∧
      (axisOf b' ax).refOffset = BitVec.ofInt 16 srch.set.offset ∧ (axisOf b' ax).state = .braking ∧
      (axisOf b' ax).search = none ∧ b'.ldu.refPlan = some (withEdge ax c (oneMore ax r)) := by
  intro n
  let a := { acceptLevels pa pb (some srch.set.rising) (axisOf b ax) with counter := n }
  let c := setRef (some (oneMore ax r)) (setAxis ax a b)
  have hax : axisOf c ax = a := (axisOf_setRef ..).trans (axisOf_setAxis ..)
  have hc : phasesTaken ax pa pb (some srch.set.rising) b = c := by
    refine (phasesTaken_counts hcount.1 hcount.2).trans (addTravel_search ?_ ?_)
    · rw [setAxis_ldu]
      exact hr
    · rw [axisOf_setAxis]
      exact fun h => nomatch h.symm.trans hn
  have hedge : filterAccept ax pa pb (some srch.set.rising) b = takeEdge ax srch.set c := by
    rw [← hc]
    exact filterAccept_edge (by rw [hc, hax]; exact hn) hl href
  have hctr : (axisOf c ax).counter = n := congrArg AxisUnit.counter hax
  obtain ⟨t, ht⟩ := axisOf_edgeTaken ax srch.set c
  refine ⟨_, (runs_inputFilterAccept ax _ _ _ hs).of_eq (hedge.trans (takeEdge_eq rfl _)), ?_⟩
  rw [axisOf_setRef, ht]
  exact ⟨hctr, hctr, rfl, rfl, rfl, rfl, congrArg (fun k => some (withEdge ax k (oneMore ax r))) hctr⟩

theorem inStageOf_iff (hr : b.ldu.refPlan = some r) : inStageOf ax b = true ↔ r.stage = stageOf ax := by
  unfold inStageOf
  rw [hr]
  exact beq_iff_eq

/-- The effect of an illegal transition that ends the REFERENCE plan: the plan fails, behind the brakes of a search. -/
theorem illegalEffect_fails {c : Block} (hr : c.ldu.refPlan = some r)
    (h : (axisOf c ax).state = .referencing ∧ (axisOf c ax).search ≠ none ∨
      (axisOf c ax).state = .braking ∧ r.stage = stageOf ax) :
    ∃ d : Block, illegalEffect ax c = refFail .encoderFault d ∧
      (d = c ∨ d = setAxis ax (braked c ax false) c) := by
  rcases h with ⟨hst, hn⟩ | ⟨hst, hin⟩
  · refine ⟨_, (illegalEffect_referencing hst).trans (searchFail_search hn _), .inr (brake_of_not_idle ?_ _)⟩
    rw [hst]
    nofun
  · exact ⟨c, (illegalEffect_braking hst).trans (if_pos ((inStageOf_iff hr).2 hin)), .inl rfl⟩

/-- What the plan's results are made from, in the block in which it fails. -/
theorem illegal_reads {pa pb ref : Option Bool} {d : Block}
    (h : let c := illegalSeen ax (setAxis ax (acceptLevels pa pb ref (axisOf b ax)) b)
      d = c ∨ d = setAxis ax (braked c ax false) c) :
    d.ple = b.ple ∧ d.regs = b.regs ∧ d.ldu = b.ldu ∧ position d.zoom = position b.zoom ∧
    position d.focus = position b.focus ∧ d.zoom.counter = b.zoom.counter ∧ d.focus.counter = b.focus.counter := by
  rcases h with rfl | rfl
  · cases ax <;> exact ⟨rfl, rfl, rfl, rfl, rfl, rfl, rfl⟩
  · cases ax <;> exact ⟨rfl, rfl, rfl, rfl, rfl, rfl, rfl⟩

/-- An illegal transition in a search, or behind the edge of the stage in progress. -/
theorem illegal_ends_reference (hr : b.ldu.refPlan = some r) (pa pb ref : Option Bool)
    (h : (axisOf b ax).state = .referencing ∧ (axisOf b ax).search ≠ none ∨
      (axisOf b ax).state = .braking ∧ r.stage = stageOf ax ∧ (axisOf b ax).search = none) :
    let b' := illegal ax (setAxis ax (acceptLevels pa pb ref (axisOf b ax)) b)
    (axisOf b' ax).state = .braking ∧ (axisOf b' ax).search = none ∧ (axisOf b' ax).referenced = false ∧
    (axisOf b' ax).counter = (axisOf b ax).counter ∧ (axisOf b' ax).refCount = (axisOf b ax).refCount ∧
    b'.ldu.refPlan = none ∧ (levelOf b.ntu .lensFault ≠ 0 → flagOf b'.ntu .lensFault = true) ∧
    ∀ t, takenOf b .reference = some t → t.ending = .running →
      ∃ e, takenOf b' .reference = some { t with ending := .results e } ∧ e.fin = .failed ∧
        e.outstanding =
          [(.outcome, writeAt b (t.offset + 3) [8#8]),
           (.word, writeAt b (t.offset + 12) (leInt 4 (position b.zoom))),
           (.area, writeAt b (t.offset + 40)
             (referenceArea (position b.focus) (r.zoomEdge.getD b.zoom.counter) (r.focusEdge.getD b.focus.counter)
               r.zoomTravel r.focusTravel))] := by
  intro b'
  let c := setAxis ax (acceptLevels pa pb ref (axisOf b ax)) b
  have hax : axisOf c ax = acceptLevels pa pb ref (axisOf b ax) := axisOf_setAxis ..
  have hseen : axisOf (illegalSeen ax c) ax = { acceptLevels pa pb ref (axisOf b ax) with referenced := false } := by
    rw [axisOf_illegalSeen, hax]
  have hplan : (illegalSeen ax c).ldu.refPlan = some r := by
    cases ax <;> exact hr
  obtain ⟨hcount, hctr, hrefd, -, -⟩ := encoderPart_fields ((illegal_encoderPart ax c).trans (by rw [hax]))
  have hstate : (axisOf b' ax).state = .braking ∧ (axisOf b' ax).search = none := by
    rcases h with ⟨hst, hn⟩ | ⟨hst, -, hn⟩
    · rw [show axisOf b' ax = _ from illegal_referencing (hax.symm ▸ hst) (hax.symm ▸ hn)]
      exact ⟨rfl, rfl⟩
    · exact ⟨illegal_braking (hax.symm ▸ hst), illegal_search (.inl (hax.symm ▸ hn))⟩
  obtain ⟨d, hd, hform⟩ := illegalEffect_fails (ax := ax) hplan (by
    rw [hseen]
    exact h.imp_right fun ⟨hst, hin, _⟩ => ⟨hst, hin⟩)
  obtain ⟨hple, hregs, hldu, hpz, hpf, hcz, hcf⟩ := illegal_reads hform
  obtain ⟨hnone, hends⟩ := refFail_ends ((congrArg Ldu.refPlan hldu).trans hr) hple hregs .encoderFault
  have hb' : b' = referenceChanged ax (refFail .encoderFault d) := congrArg (referenceChanged ax) hd
  have hkeep := referenceChanged_frame (fs := [.focus, .zmap, .afu]) ax (Among.refl _)
    (Changes.refl _ (refFail .encoderFault d))
  rw [← hb'] at hkeep
  refine ⟨hstate.1, hstate.2, hrefd, hctr, hcount, (congrArg Ldu.refPlan (hkeep .ldu (by decide))).trans hnone,
    fun hl => illegal_lensFault (by rwa [setAxis_ntu]), fun t ht he => ?_⟩
  obtain ⟨e, hte, hfin, hout⟩ := hends t ht he
  refine ⟨e, (takenOf_congr (hkeep .ple (by decide)) _).trans hte, hfin, ?_⟩
  rw [hout, hpz, hpf, hcz, hcf]
  rfl

/-- The braking of an axis of another stage leaves the plan running. -/
theorem illegal_keeps_reference (hr : b.ldu.refPlan = some r) (pa pb ref : Option Bool)
    (hst : (axisOf b ax).state = .braking) (hin : r.stage ≠ stageOf ax) :
    let b' := illegal ax (setAxis ax (acceptLevels pa pb ref (axisOf b ax)) b)
    b'.ldu.refPlan = some r ∧ takenOf b' .reference = takenOf b .reference := by
  intro b'
  let c := illegalSeen ax (setAxis ax (acceptLevels pa pb ref (axisOf b ax)) b)
  have hplan : c.ldu.refPlan = some r := by
    cases ax <;> exact hr
  have hple : c.ple = b.ple := by
    cases ax <;> rfl
  have hcst : (axisOf c ax).state = .braking := by
    rw [axisOf_illegalSeen, axisOf_setAxis]
    exact hst
  have hb' : b' = referenceChanged ax c := congrArg (referenceChanged ax)
    ((illegalEffect_braking hcst).trans (if_neg fun hc => hin ((inStageOf_iff hplan).1 hc)))
  have hkeep := referenceChanged_frame (fs := [.focus, .zmap, .afu]) ax (Among.refl _) (Changes.refl _ c)
  rw [← hb'] at hkeep
  exact ⟨(congrArg Ldu.refPlan (hkeep .ldu (by decide))).trans hplan,
    takenOf_congr ((hkeep .ple (by decide)).trans hple) _⟩

end Cases

end Sys2Proof.Machine
end

section
/-!
PROOFS. The expiries of a reference search, its failures and the stages of the REFERENCE plan (R90, R91).
-/

namespace Sys2Proof.Machine

section Expiry
variable {s : State} {b : Block} {ax : Axis} {srch : RefSearch} {ms : Msense} {first : MoveCheck}

/-- The search's part of an expiry, with the timer restarted. -/
theorem expired_search (hn : (axisOf b ax).search = some srch) (hst : (axisOf b ax).state = .referencing) :
    expired ax first b = positionStored ax (searchExpiry ax first srch (timerRestarted ax b)) := by
  have hax := axisOf_timerRestarted ax b
  unfold expired
  rw [axisExpiry_search (by rw [hax]; exact hn) (by rw [hax]; exact hst)]

theorem axisOf_markDue (d : DueStep) (b : Block) (ax : Axis) : axisOf (markDue d b) ax = axisOf b ax := by
  cases ax
  · exact markDue_zoom b d
  · exact markDue_focus b d

theorem travelOf_timerRestarted (ax : Axis) (b : Block) : travelOf (timerRestarted ax b) ax = travelOf b ax := by
  cases ax <;> rfl

theorem motionSeen_timerRestarted (ax : Axis) (b : Block) (srch : RefSearch) :
    motionSeen (axisOf (timerRestarted ax b) ax) srch = motionSeen (axisOf b ax) srch := by
  rw [axisOf_timerRestarted]
  rfl

theorem searchSampled_timerRestarted (ax : Axis) (b : Block) (srch : RefSearch) :
    searchSampled (timerRestarted ax b) ax srch = { searchSampled b ax srch with period := periodOf b ax } := by
  unfold searchSampled
  rw [motionSeen_timerRestarted, supplyCount_timerRestarted, axisOf_timerRestarted]

/-- What an expiry changes after the axis has acted on it. -/
theorem controlExpiry_changes {c : Block} (h : expired ax first b = positionStored ax c) :
    Changes [.ntu, .zoom, .focus, .zmap, .afu] c (controlExpiry ax first b) := by
  have hstored : Changes [.ntu, .zoom, .focus, .zmap, .afu] c (expired ax first b) := by
    rw [h]
    exact setAxis_frame ax _ (by simp [Among]) (Changes.refl _ c)
  rw [controlExpiry_eq]
  split
  · exact zoomMoved_frame (by simp [Among]) hstored
  · exact hstored

/-- A due step that an axis marks at its expiry is due after it, and the axis is as it was sampled. -/
theorem controlExpiry_marks {a : AxisUnit} {c : Block} {d : DueStep}
    (h : expired ax first b = positionStored ax (markDue d (setAxis ax a c))) :
    d ∈ (controlExpiry ax first b).due ∧ axisOf (controlExpiry ax first b) ax = { a with lastPos := position a } := by
  refine ⟨?_, ?_⟩
  · rw [controlExpiry_changes h .due (by decide)]
    exact mem_markDue _ d
  · rw [axisOf_controlExpiry, h, axisOf_positionStored, axisOf_markDue, axisOf_setAxis]

/-- An expiry with neither a travel nor a supply check that stops. -/
theorem searchExpiry_runs (hs : Settles s b) (hn : (axisOf b ax).search = some srch)
    (hst : (axisOf b ax).state = .referencing) (ht : travelOf b ax ≤ srch.set.travel)
    (hsup : ((blockOf b ax).map (·.supplyLevel)).getD 0 < ms.val) :
    let a := axisOf b ax
    let still := if a.counter = srch.lastCounter then srch.still + 1 else 0
    let back := srch.leaving = true ∧ a.refLevel ≠ some srch.set.rising
    ∃ b' : Block,
      Runs (.controlPeriodExpiry ax ms first) s b' ∧
      (still < 63 →
        axisOf b' ax =
          { a with
            search := some { srch with
              leaving := if back then false else srch.leaving, lastCounter := a.counter, still := still }
            output := if back then .drive srch.set.duty srch.set.positive else a.output
            supplyLow := 0, lastPos := position a
            period := ((blockOf b ax).map (·.period)).getD 20 }) ∧
      (63 ≤ still → .noMotion ax ∈ b'.due ∧ (axisOf b' ax).state = .referencing) := by
  intro a still back
  let bm := setMsense ms b
  let c := timerRestarted ax bm
  have haxm : axisOf bm ax = a := by
    cases ax <;> rfl
  have htravel : travelOf c ax ≤ srch.set.travel := by
    rw [travelOf_timerRestarted]
    cases ax <;> exact ht
  have hsupply : supplyCount bm ax = 0 := (supplyCount_eq bm ax).trans (if_neg (Nat.not_le.2 hsup))
  have hlow : supplyCount c ax < 3 := by
    rw [supplyCount_timerRestarted, hsupply]
    exact Nat.zero_lt_succ _
  have hmotion : motionSeen (axisOf c ax) srch = motionSeen a srch := by
    rw [motionSeen_timerRestarted, haxm]
  have hunit : searchSampled c ax srch =
      { a with
        supplyLow := 0, search := some (motionSeen a srch), period := ((blockOf b ax).map (·.period)).getD 20 } := by
    rw [searchSampled_timerRestarted]
    unfold searchSampled
    rw [hsupply, haxm]
    rfl
  have hexp := expired_search (first := first) (b := bm) (haxm.symm ▸ hn) (haxm.symm ▸ hst)
  refine ⟨_, runs_controlPeriodExpiry ax ms first hs, fun hm => ?_, fun hm => ?_⟩
  · have hm' : (motionSeen (axisOf c ax) srch).still < 63 := by
      rw [hmotion]
      exact hm
    rw [axisOf_controlExpiry]
    refine (congrArg (axisOf · ax) hexp).trans ?_
    rw [searchExpiry_passes hm' htravel hlow, axisOf_positionStored, axisOf_setAxis, hmotion,
      hunit, leaveStep_eq]
    rfl
  · have hm' : 63 ≤ (motionSeen (axisOf c ax) srch).still := by
      rw [hmotion]
      exact hm
    obtain ⟨hdue, hunit'⟩ := controlExpiry_marks (hexp.trans
      (congrArg (positionStored ax) (searchExpiry_noMotion (first := first) hm' htravel hlow)))
    refine ⟨hdue, ?_⟩
    rw [hunit', hunit]
    exact hst

/-- The search of an axis that is over its travel: the plan fails in the block it leaves braked. -/
theorem searchTravel_ends {r : RefPlan} {a : AxisUnit} (hr : b.ldu.refPlan = some r) (hn : a.search = some srch)
    (hst : a.state = .referencing)
    (hexp : expired ax first b = positionStored ax (searchFail ax .refFail (setAxis ax a (timerRestarted ax b)))) :
    let b' := controlExpiry ax first b
    (axisOf b' ax).state = .braking ∧ (axisOf b' ax).output = .brake ∧ (axisOf b' ax).search = none ∧
    (axisOf b' ax).stopFaulted = false ∧ b'.ldu.refPlan = none ∧
    (levelOf b.ntu .lensFault ≠ 0 → flagOf b'.ntu .lensFault = true) ∧
    ∀ t, takenOf b .reference = some t → t.ending = .running →
      ∃ e, takenOf b' .reference = some { t with ending := .results e } ∧ e.fin = .failed ∧
        (ResultWrite.outcome, writeAt b (t.offset + 3) [9#8]) ∈ e.outstanding := by
  intro b'
  let c := setAxis ax a (timerRestarted ax b)
  have hax : axisOf c ax = a := axisOf_setAxis ..
  have hfail : searchFail ax .refFail c = refFail .refFail (brake ax false c) :=
    searchFail_search (by rw [hax, hn]; exact Option.some_ne_none _) _
  have hc : brake ax false c = setAxis ax (braked c ax false) c := brake_of_not_idle (by rw [hax, hst]; nofun) _
  have hkept : (brake ax false c).ldu = b.ldu ∧ (brake ax false c).ple = b.ple ∧ (brake ax false c).regs = b.regs ∧
      (brake ax false c).ntu = b.ntu := by
    rw [hc]
    cases ax <;> exact ⟨rfl, rfl, rfl, rfl⟩
  obtain ⟨hldu, hple, hregs, hntu⟩ := hkept
  have hplan : (brake ax false c).ldu.refPlan = some r := (congrArg Ldu.refPlan hldu).trans hr
  obtain ⟨hnone, hends⟩ := refFail_ends hplan hple hregs .refFail
  rw [hfail] at hexp
  have hkeep := controlExpiry_changes hexp
  have hbraked : axisOf b' ax = { braked c ax false with lastPos := position (braked c ax false) } := by
    rw [axisOf_controlExpiry, hexp, axisOf_positionStored, axisOf_refFail, axisOf_brake]
  rw [hbraked]
  refine ⟨rfl, rfl, rfl, rfl, (congrArg Ldu.refPlan (hkeep .ldu (by decide))).trans hnone, fun hl => ?_,
    fun t ht he => ?_⟩
  · refine controlExpiry_lensFault ?_
    rw [hexp, positionStored_same ax _ (f := .ntu) (by decide)]
    exact refFail_raises hplan _ (hntu.symm ▸ hl)
  · obtain ⟨e, hte, hfin, hout⟩ := hends t ht he
    refine ⟨e, (takenOf_congr (hkeep .ple (by decide)) _).trans hte, hfin, ?_⟩
    rw [hout]
    exact List.mem_cons_self

/-- The checks of an expiry that stop a search. -/
theorem searchExpiry_stops {r : RefPlan} (hr : b.ldu.refPlan = some r) (hs : Settles s b)
    (hn : (axisOf b ax).search = some srch) (hst : (axisOf b ax).state = .referencing) :
    let low := if ms.val ≤ ((blockOf b ax).map (·.supplyLevel)).getD 0 then (axisOf b ax).supplyLow + 1 else 0
    let still := if (axisOf b ax).counter = srch.lastCounter then srch.still + 1 else 0
    ∃ b' : Block,
      Runs (.controlPeriodExpiry ax ms first) s b' ∧
      (srch.set.travel < travelOf b ax → first = .limit ∨ still < 63 ∧ low < 3 →
        (axisOf b' ax).state = .braking ∧ (axisOf b' ax).output = .brake ∧ (axisOf b' ax).search = none ∧
        (axisOf b' ax).stopFaulted = false ∧ b'.ldu.refPlan = none ∧
        (levelOf b.ntu .lensFault ≠ 0 → flagOf b'.ntu .lensFault = true) ∧
        ∀ t, takenOf b .reference = some t → t.ending = .running →
          ∃ e, takenOf b' .reference = some { t with ending := .results e } ∧ e.fin = .failed ∧
            (ResultWrite.outcome, writeAt b (t.offset + 3) [9#8]) ∈ e.outstanding) ∧
      (travelOf b ax ≤ srch.set.travel → still < 63 → 3 ≤ low →
        .supply ax ∈ b'.due ∧ (axisOf b' ax).state = .referencing ∧ (axisOf b' ax).supplyLow = low) := by
  intro low still
  let bm := setMsense ms b
  let c := timerRestarted ax bm
  have haxm : axisOf bm ax = axisOf b ax := by
    cases ax <;> rfl
  have htravel : travelOf c ax = travelOf b ax := by
    rw [travelOf_timerRestarted]
    cases ax <;> rfl
  have hlow : supplyCount c ax = low := by
    rw [supplyCount_timerRestarted]
    exact (supplyCount_eq bm ax).trans (by rw [haxm]; rfl)
  have hstill : (motionSeen (axisOf c ax) srch).still = still := by
    rw [motionSeen_timerRestarted, haxm]
    rfl
  have hunit := searchSampled_timerRestarted ax bm srch
  have hsst : (searchSampled c ax srch).state = .referencing := by
    rw [hunit]
    exact (congrArg AxisUnit.state haxm).trans hst
  have hexp := expired_search (first := first) (b := bm) (haxm.symm ▸ hn) (haxm.symm ▸ hst)
  refine ⟨_, runs_controlPeriodExpiry ax ms first hs, fun ht hfirst => ?_, fun ht hm hp => ?_⟩
  · exact searchTravel_ends (b := bm) hr rfl hsst (hexp.trans (congrArg (positionStored ax)
      (searchExpiry_travel (first := first) (htravel.symm ▸ ht) (by rw [hstill, hlow]; exact hfirst))))
  · obtain ⟨hdue, hunit'⟩ := controlExpiry_marks (b := bm) (hexp.trans
      (congrArg (positionStored ax) (searchExpiry_supply (first := first) (hstill.symm ▸ hm) (htravel.symm ▸ ht)
        (hlow.symm ▸ hp))))
    refine ⟨hdue, ?_⟩
    rw [hunit']
    exact ⟨hsst, hlow⟩

end Expiry

/-! ### Failures and the stages of the plan -/

section Stages
variable {s : State} {b : Block} {ax : Axis} {r : RefPlan}

/-- A search that fails: the axis is braked, and the plan ends FAILED with LENS_FAULT. -/
theorem searchFail_eq (hr : b.ldu.refPlan = some r) (hn : (axisOf b ax).search ≠ none)
    (hst : (axisOf b ax).state = .referencing) (o : PlanOutcome) :
    searchFail ax o b =
      endPlan .reference .failed o (leInt 4 (position b.zoom))
        (referenceArea (position b.focus) (r.zoomEdge.getD b.zoom.counter) (r.focusEdge.getD b.focus.counter)
          r.zoomTravel r.focusTravel)
        (setAxis ax
          { axisOf b ax with
            state := .braking, output := .brake, braking := settleTimeOf b ax, stopFaulted := false, move := none,
            moveTimer := none, search := none }
          { b with ntu := setFlag .lensFault b.ntu, ldu := { b.ldu with refPlan := none } }) := by
  have hc : brake ax false b = setAxis ax (braked b ax false) b := brake_of_not_idle (by rw [hst]; nofun) _
  have hplan : (brake ax false b).ldu.refPlan = some r := by
    rw [hc, setAxis_ldu]
    exact hr
  refine (searchFail_search hn o).trans ((refFail_running hplan o).trans ((refEnd_eq ..).trans ?_))
  rw [hc]
  cases ax <;> rfl

theorem supplyStop_search (hn : (axisOf b ax).search ≠ none) : supplyStop ax b = searchFail ax .supplyLow b := by
  unfold supplyStop
  cases h : (axisOf b ax).search with
  | none => exact absurd h hn
  | some _ => rfl

/-- The axis as BRAKING ends. -/
def brakingEnded (a : AxisUnit) : AxisUnit :=
  { a with
    state := if a.referenced = false then .unreferenced else if a.stopFaulted then .faulted else .idle
    output := .off, braking := 0, stopFaulted := false }

theorem brakingEnd_eq (h : (axisOf b ax).state = .braking) :
    brakingEnd ax b =
      if (axisOf b ax).referenced && inStageOf ax b then searchSucceeded ax (setAxis ax (brakingEnded (axisOf b ax)) b)
      else setAxis ax (brakingEnded (axisOf b ax)) b := by
  have hput : putAxis ax (brakingEnded (axisOf b ax)) b = setAxis ax (brakingEnded (axisOf b ax)) b := by
    cases ax with
    | zoom => rfl
    | focus => exact putAxis_focus (.inl fun hc => nomatch h.symm.trans hc)
  have hstage : inStageOf ax (setAxis ax (brakingEnded (axisOf b ax)) b) = inStageOf ax b := by
    cases ax <;> rfl
  have hend : brakingEnd ax b =
      if (axisOf b ax).referenced && inStageOf ax (putAxis ax (brakingEnded (axisOf b ax)) b) then
        searchSucceeded ax (putAxis ax (brakingEnded (axisOf b ax)) b)
      else putAxis ax (brakingEnded (axisOf b ax)) b := if_pos h
  rw [hend, hput, hstage]

/-- The braking behind an edge ends: the search of the stage has succeeded. -/
theorem brakingEnd_succeeds (h : (axisOf b ax).state = .braking) (href : (axisOf b ax).referenced = true)
    (hf : (axisOf b ax).stopFaulted = false) (hr : b.ldu.refPlan = some r) (hin : r.stage = stageOf ax) :
    brakingEnd ax b =
      searchSucceeded ax (setAxis ax { axisOf b ax with state := .idle, output := .off, braking := 0 } b) := by
  have hunit : brakingEnded (axisOf b ax) = { axisOf b ax with state := .idle, output := .off, braking := 0 } := by
    unfold brakingEnded
    rw [if_neg (by rw [href]; nofun), if_neg (by rw [hf]; nofun), ← hf]
  rw [brakingEnd_eq h, href, (inStageOf_iff hr).2 hin, hunit]
  rfl

theorem searchSucceeded_zoom (hr : b.ldu.refPlan = some r) :
    searchSucceeded .zoom b =
      { b with
        iris := { b.iris with referenced := false, steps := 0, stage := some (r.prm.cTravel + 8) }
        ldu := { b.ldu with refPlan := some { r with stage := .iris } } } := by
  unfold searchSucceeded
  rw [hr]
  rfl

theorem searchSucceeded_focus (hr : b.ldu.refPlan = some r) : searchSucceeded .focus b = refEnd r .done .ok b := by
  unfold searchSucceeded
  rw [hr]

end Stages

/-- Settles O49. -/
theorem referenceSearch : Obligations.ReferenceSearch := by
  intro s b r hr
  refine ⟨fun ax srch hs hn hl href _ => edge_stored hr hs hn hl href,
    fun ax srch x y pa pb d hs hx hy hmem hn hl href => ?_, fun ax x y ref hs hx hy => ?_,
    fun ax srch ms first hs hn hst ht hsup => searchExpiry_runs hs hn hst ht hsup,
    fun ax srch ms first hs hn hst => searchExpiry_stops hr hs hn hst, fun ax i o h hn hst => ?_,
    fun hd hb hst href hf hin => ?_, fun hd hb hst href hf hin => ?_⟩
  · have hcount : illegalTransition (axisOf b ax) pa pb = false ∧ countOf (axisOf b ax) pa pb = some d := by
      simp only [List.mem_cons, Prod.mk.injEq, List.not_mem_nil, or_false] at hmem
      rcases hmem with ⟨rfl, rfl, rfl⟩ | ⟨rfl, rfl, rfl⟩
      · exact countOf_phaseA hx hy
      · exact countOf_phaseB hx hy
    intro c
    obtain ⟨b', hrun, hctr, href', hrefd, hoff, hst, hno, hplan⟩ := edge_counted hr hs hcount hn hl href
    refine ⟨b', hrun, hctr, href', hrefd, hoff, hst, hno, hplan.trans ?_⟩
    cases ax <;> rfl
  · intro inStage
    have hin : inStage ↔ r.stage = stageOf ax := by
      cases ax <;> exact Iff.rfl
    refine ⟨_, runs_inputFilterAccept ax _ _ _ hs, fun h => ?_, fun hst hno hn => ?_⟩
    · rw [filterAccept_illegal hx hy (.inr (h.symm.imp (fun hb => hb.2.2) fun hb => hb.1))]
      exact illegal_ends_reference hr _ _ _ (h.imp_right fun ⟨h1, h2, h3⟩ => ⟨h1, hin.1 h2, h3⟩)
    · rw [filterAccept_illegal hx hy (.inr (.inl hn))]
      exact illegal_keeps_reference hr _ _ _ hst fun hc => hno (hin.2 hc)
  · rcases h with ⟨rfl, rfl, hd, hb⟩ | ⟨rfl, rfl, hd, hb⟩
    · exact (runs_refNoMotion ax hd hb).of_eq (searchFail_eq hr hn hst _)
    · exact (runs_supplyLowStop ax hd hb).of_eq ((supplyStop_search hn).trans (searchFail_eq hr hn hst _))
  · refine (runs_brakingEnd .zoom hd hb).of_eq ((brakingEnd_succeeds (ax := .zoom) hst href hf hr hin).trans ?_)
    exact searchSucceeded_zoom (b := { b with zoom := { b.zoom with state := .idle, output := .off, braking := 0 } }) hr
  · refine (runs_brakingEnd .focus hd hb).of_eq ((brakingEnd_succeeds (ax := .focus) hst href hf hr hin).trans ?_)
    exact (searchSucceeded_focus
      (b := { b with focus := { b.focus with state := .idle, output := .off, braking := 0 } }) hr).trans rfl

end Sys2Proof.Machine
end

section
/-!
PROOFS. The control-period expiry of a move: the checks, the bands and the settle counter (R79 to R84).
-/

namespace Sys2Proof.Machine

theorem mem_markDue_iff (d x : DueStep) (b : Block) : x ∈ (markDue d b).due ↔ x = d ∨ x ∈ b.due := by
  unfold markDue
  split
  · exact ⟨.inr, fun h => h.elim (fun hx => hx ▸ ‹d ∈ b.due›) id⟩
  · simp [or_comm]

/-! ### What an expiry makes of the axis -/

/-- The stall count of an expiry, as one condition. -/
theorem stallCount_eq (p : AxisBlock) (a : AxisUnit) (m : Move) :
    stallCount p a m =
      if m.prevDuty.any (fun n => decide (p.stallDuty ≤ n)) = true ∧ position a = a.lastPos then a.stall + 1 else 0 := by
  unfold stallCount
  cases m.prevDuty with
  | none => simp
  | some n => simp

/-- The band output and the settle counter, field by field. -/
theorem bandStep_eq (p : AxisBlock) (a : AxisUnit) :
    let d := a.target - position a
    bandStep p a =
      { a with
        state := if d.natAbs ≤ p.wst then .settling else .moving
        output := if d.natAbs ≤ p.wst then .brake else .drive (bandDuty p d.natAbs) (decide (0 < d))
        settle := if d.natAbs ≤ p.tolerance then a.settle - 1 else p.settleTime } := by
  intro d
  unfold bandStep
  by_cases h : d.natAbs ≤ p.wst
  · rw [if_pos h, if_pos h, if_pos h]
  · rw [if_neg h, if_neg h, if_neg h]

section MoveExpiry
variable {ax : Axis} {first : MoveCheck} {b : Block} {p : AxisBlock} {m : Move}

/-- The move, counted. -/
def moveCounted (m : Move) : Move := { m with expiries := min 65535 (m.expiries + 1) }

/-- The axis of a move after its samples. -/
def moveSampled (b : Block) (ax : Axis) (p : AxisBlock) (m : Move) : AxisUnit :=
  { axisOf b ax with
    stall := stallCount p (axisOf b ax) m, supplyLow := supplyCount b ax, move := some (moveCounted m) }

/-- The axis of a move whose checks passed. -/
def moveBanded (p : AxisBlock) (m : Move) (a : AxisUnit) : AxisUnit :=
  { bandStep p a with move := some { moveCounted m with prevDuty := (bandStep p a).output.duty? } }

theorem moveBanded_eq (p : AxisBlock) (m : Move) (a : AxisUnit) :
    let d := a.target - position a
    moveBanded p m a =
      { a with
        state := if d.natAbs ≤ p.wst then .settling else .moving
        output := if d.natAbs ≤ p.wst then .brake else .drive (bandDuty p d.natAbs) (decide (0 < d))
        settle := if d.natAbs ≤ p.tolerance then a.settle - 1 else p.settleTime
        move := some { m with
          expiries := min 65535 (m.expiries + 1)
          prevDuty := if d.natAbs ≤ p.wst then none else some (bandDuty p d.natAbs) } } := by
  intro d
  have hduty : (bandStep p a).output.duty? = if d.natAbs ≤ p.wst then none else some (bandDuty p d.natAbs) := by
    rw [bandStep_eq]
    change (if d.natAbs ≤ p.wst then Motor.brake else .drive (bandDuty p d.natAbs) (decide (0 < d))).duty? = _
    by_cases h : d.natAbs ≤ p.wst
    · rw [if_pos h, if_pos h]
      rfl
    · rw [if_neg h, if_neg h]
      rfl
  unfold moveBanded
  rw [hduty, bandStep_eq]
  rfl

theorem beyondHardLimit_iff (hp : blockOf b ax = some p) :
    beyondHardLimit b ax = true ↔
      position (axisOf b ax) < (limitsOf b ax).lo - p.hardMargin ∨
        (limitsOf b ax).hi + p.hardMargin < position (axisOf b ax) := by
  unfold beyondHardLimit
  rw [hp]
  simp only [Bool.or_eq_true, decide_eq_true_eq]

theorem axisExpiry_move (hp : blockOf b ax = some p) (hm : (axisOf b ax).move = some m)
    (hst : (axisOf b ax).state = .moving ∨ (axisOf b ax).state = .settling) :
    axisExpiry ax first b = moveExpiry ax first p m b := by
  unfold axisExpiry
  rcases hst with hst | hst <;> simp only [hp, hm, hst]

theorem moveExpiry_eq :
    moveExpiry ax first p m b =
      match stoppedBy first (decide (p.stallPeriods ≤ stallCount p (axisOf b ax) m)) (beyondHardLimit b ax)
          (decide (3 ≤ supplyCount b ax)) with
      | some .stall => markDue (.stall ax) (setAxis ax (moveSampled b ax p m) b)
      | some .supply => markDue (.supply ax) (setAxis ax (moveSampled b ax p m) b)
      | some .limit => failMove ax .limit .limit (setAxis ax (moveSampled b ax p m) b)
      | none =>
        if (moveBanded p m (moveSampled b ax p m)).settle = 0 then
          markDue (.settled ax) (putAxis ax (moveBanded p m (moveSampled b ax p m)) b)
        else putAxis ax (moveBanded p m (moveSampled b ax p m)) b := rfl

variable (hst : (axisOf b ax).state = .moving ∨ (axisOf b ax).state = .settling)

theorem putAxis_moving (a : AxisUnit)
    (hst : (axisOf b ax).state = .moving ∨ (axisOf b ax).state = .settling) : putAxis ax a b = setAxis ax a b := by
  cases ax with
  | zoom => rfl
  | focus =>
    refine putAxis_focus (.inl fun hc => ?_)
    rcases hst with h | h <;> exact nomatch h.symm.trans hc

include hst in
theorem moveExpiry_passes (hs : stallCount p (axisOf b ax) m < p.stallPeriods) (hl : ¬beyondHardLimit b ax = true)
    (hp : supplyCount b ax < 3) :
    moveExpiry ax first p m b =
      let c := setAxis ax (moveBanded p m (moveSampled b ax p m)) b
      if (moveBanded p m (moveSampled b ax p m)).settle = 0 then markDue (.settled ax) c else c := by
  rw [moveExpiry_eq, stoppedBy_passes (decide_eq_false (Nat.not_le.2 hs)) (Bool.eq_false_iff.2 hl)
    (decide_eq_false (Nat.not_le.2 hp)), putAxis_moving _ hst]

theorem moveExpiry_stall (hs : p.stallPeriods ≤ stallCount p (axisOf b ax) m) (hl : ¬beyondHardLimit b ax = true)
    (hp : supplyCount b ax < 3) :
    moveExpiry ax first p m b = markDue (.stall ax) (setAxis ax (moveSampled b ax p m) b) := by
  rw [moveExpiry_eq, stoppedBy_stall (decide_eq_true hs) (Bool.eq_false_iff.2 hl)
    (decide_eq_false (Nat.not_le.2 hp))]

theorem moveExpiry_supply (hs : stallCount p (axisOf b ax) m < p.stallPeriods) (hl : ¬beyondHardLimit b ax = true)
    (hp : 3 ≤ supplyCount b ax) :
    moveExpiry ax first p m b = markDue (.supply ax) (setAxis ax (moveSampled b ax p m) b) := by
  rw [moveExpiry_eq, stoppedBy_supply (decide_eq_false (Nat.not_le.2 hs)) (Bool.eq_false_iff.2 hl) (decide_eq_true hp)]

theorem moveExpiry_limit (hl : beyondHardLimit b ax = true)
    (h : first = .limit ∨ stallCount p (axisOf b ax) m < p.stallPeriods ∧ supplyCount b ax < 3) :
    moveExpiry ax first p m b = failMove ax .limit .limit (setAxis ax (moveSampled b ax p m) b) := by
  rw [moveExpiry_eq, stoppedBy_limit hl (h.imp_right fun ⟨hs, hp⟩ =>
    ⟨decide_eq_false (Nat.not_le.2 hs), decide_eq_false (Nat.not_le.2 hp)⟩)]

end MoveExpiry

/-! ### The expiry with its timer and its position -/

section Expired
variable {ax : Axis} {first : MoveCheck} {b : Block} {p : AxisBlock} {m : Move}

theorem expired_move (hp : blockOf b ax = some p) (hm : (axisOf b ax).move = some m)
    (hst : (axisOf b ax).state = .moving ∨ (axisOf b ax).state = .settling) :
    expired ax first b = positionStored ax (moveExpiry ax first p m (timerRestarted ax b)) := by
  have hax := axisOf_timerRestarted ax b
  have hblk : blockOf (timerRestarted ax b) ax = some p := by
    cases ax <;> exact hp
  unfold expired
  rw [axisExpiry_move hblk (by rw [hax]; exact hm) (by rw [hax]; exact hst)]

theorem moveSampled_timerRestarted :
    moveSampled (timerRestarted ax b) ax p m = { moveSampled b ax p m with period := periodOf b ax } := by
  unfold moveSampled
  rw [supplyCount_timerRestarted, axisOf_timerRestarted]
  rfl

theorem moveBanded_timerRestarted :
    moveBanded p m (moveSampled (timerRestarted ax b) ax p m) =
      { moveBanded p m (moveSampled b ax p m) with period := periodOf b ax } := by
  rw [moveSampled_timerRestarted, moveBanded_eq, moveBanded_eq]
  rfl

theorem beyondHardLimit_timerRestarted : beyondHardLimit (timerRestarted ax b) ax = beyondHardLimit b ax := by
  cases ax <;> rfl

theorem stallCount_timerRestarted :
    stallCount p (axisOf (timerRestarted ax b) ax) m = stallCount p (axisOf b ax) m := by
  rw [axisOf_timerRestarted]
  rfl

/-- The axis after an expiry whose checks pass. -/
def moveExpired (b : Block) (ax : Axis) (p : AxisBlock) (m : Move) : AxisUnit :=
  { moveBanded p m (moveSampled b ax p m) with
    period := periodOf b ax, lastPos := position (axisOf b ax) }

theorem positionStored_markDue (d : DueStep) (a : AxisUnit) (c : Block) :
    positionStored ax (markDue d (setAxis ax a c)) = markDue d (setAxis ax { a with lastPos := position a } c) := by
  unfold positionStored
  rw [axisOf_markDue, axisOf_setAxis]
  unfold markDue
  rw [setAxis_due, setAxis_due]
  split
  · exact setAxis_setAxis ..
  · cases ax <;> rfl

theorem expired_passes (hp : blockOf b ax = some p) (hm : (axisOf b ax).move = some m)
    (hst : (axisOf b ax).state = .moving ∨ (axisOf b ax).state = .settling)
    (hs : stallCount p (axisOf b ax) m < p.stallPeriods) (hl : ¬beyondHardLimit b ax = true) (hv : supplyCount b ax < 3) :
    expired ax first b =
      let c := setAxis ax (moveExpired b ax p m) b
      if (moveBanded p m (moveSampled b ax p m)).settle = 0 then markDue (.settled ax) c else c := by
  have hax := axisOf_timerRestarted ax b
  have hpass := moveExpiry_passes (b := timerRestarted ax b) (first := first) (p := p) (m := m)
    (by rw [hax]; exact hst) (by rw [stallCount_timerRestarted]; exact hs) (by rw [beyondHardLimit_timerRestarted]; exact hl)
    (by rw [supplyCount_timerRestarted]; exact hv)
  have hunit : ∀ c, setAxis ax { moveBanded p m (moveSampled (timerRestarted ax b) ax p m) with
      lastPos := position (moveBanded p m (moveSampled (timerRestarted ax b) ax p m)) } (timerRestarted ax c) =
      setAxis ax (moveExpired b ax p m) c := by
    intro c
    refine (setAxis_setAxis ..).trans (congrArg (setAxis ax · c) ?_)
    rw [moveBanded_timerRestarted]
    unfold moveExpired
    rw [moveBanded_eq]
    rfl
  rw [expired_move hp hm hst, hpass]
  have hsettle : (moveBanded p m (moveSampled (timerRestarted ax b) ax p m)).settle =
      (moveBanded p m (moveSampled b ax p m)).settle := by
    rw [moveBanded_timerRestarted]
  dsimp only
  rw [hsettle]
  split
  · rw [positionStored_markDue, hunit]
  · unfold positionStored
    rw [axisOf_setAxis, setAxis_setAxis, hunit]

end Expired

end Sys2Proof.Machine
end

section
/-!
PROOFS. The expiry of a move, put together: where it passes, and what stops it (R79 to R85).
-/

namespace Sys2Proof.Machine

section Expired
variable {ax : Axis} {first : MoveCheck} {b : Block} {p : AxisBlock} {m : Move}

theorem moveExpired_eq (hp : blockOf b ax = some p) :
    let a := axisOf b ax
    let d := a.target - position a
    moveExpired b ax p m =
      { a with
        state := if d.natAbs ≤ p.wst then .settling else .moving
        output := if d.natAbs ≤ p.wst then .brake else .drive (bandDuty p d.natAbs) (decide (0 < d))
        settle := if d.natAbs ≤ p.tolerance then a.settle - 1 else p.settleTime
        stall :=
          if m.prevDuty.any (fun n => decide (p.stallDuty ≤ n)) = true ∧ position a = a.lastPos then a.stall + 1 else 0
        supplyLow := if b.ldu.msense.val ≤ p.supplyLevel then a.supplyLow + 1 else 0
        lastPos := position a, period := p.period
        move := some { m with
          expiries := min 65535 (m.expiries + 1)
          prevDuty := if d.natAbs ≤ p.wst then none else some (bandDuty p d.natAbs) } } := by
  intro a d
  have hlow : supplyCount b ax = if b.ldu.msense.val ≤ p.supplyLevel then a.supplyLow + 1 else 0 := by
    rw [supplyCount_eq, hp]
    rfl
  have hperiod : periodOf b ax = p.period := by
    unfold periodOf
    rw [hp]
    rfl
  unfold moveExpired
  rw [moveBanded_eq]
  unfold moveSampled
  rw [stallCount_eq, hlow, hperiod]
  rfl

theorem moveBanded_settle :
    (moveBanded p m (moveSampled b ax p m)).settle =
      if ((axisOf b ax).target - position (axisOf b ax)).natAbs ≤ p.tolerance then (axisOf b ax).settle - 1
      else p.settleTime := by
  rw [moveBanded_eq]
  rfl

/-- An expiry whose checks pass: the axis as the bands say, and the arrival due when the settle counter is at 0. -/
theorem expired_passes_spec (hp : blockOf b ax = some p) (hm : (axisOf b ax).move = some m)
    (hst : (axisOf b ax).state = .moving ∨ (axisOf b ax).state = .settling)
    (hs : stallCount p (axisOf b ax) m < p.stallPeriods) (hl : ¬beyondHardLimit b ax = true) (hv : supplyCount b ax < 3) :
    let c := expired ax first b
    axisOf c ax = moveExpired b ax p m ∧
    (.settled ax ∈ c.due ↔ (moveBanded p m (moveSampled b ax p m)).settle = 0 ∨ .settled ax ∈ b.due) ∧
    (ax = .focus → Changes [.focus, .due] b c) ∧ Changes [.zoom, .focus, .due] b c := by
  intro c
  have hc : c = _ := expired_passes hp hm hst hs hl hv
  rw [hc]
  dsimp only
  have hfocus : ax = .focus → Changes [.focus, .due] b (setAxis ax (moveExpired b ax p m) b) := by
    rintro rfl
    exact setAxis_focus_frame _ (by simp [Among]) (Changes.refl _ b)
  have hboth : Changes [.zoom, .focus, .due] b (setAxis ax (moveExpired b ax p m) b) :=
    setAxis_frame ax _ (by simp [Among]) (Changes.refl _ b)
  split
  · refine ⟨by rw [axisOf_markDue, axisOf_setAxis], ?_, fun h => markDue_frame _ (by simp [Among]) (hfocus h),
      markDue_frame _ (by simp [Among]) hboth⟩
    rw [mem_markDue_iff]
    simp [*]
  · refine ⟨axisOf_setAxis .., ?_, hfocus, hboth⟩
    rw [setAxis_due]
    simp [*]

/-- The zoom axis's expiry, once the position at it is known: zoom motion is told to the zoom map. -/
theorem controlExpiry_zoom {z : Int} (h : (expired .zoom first b).zoom.lastPos = z) :
    controlExpiry .zoom first b =
      if z = b.zoom.lastPos then expired .zoom first b else zoomMoved (expired .zoom first b) := by
  have hpos : position (axisOf (axisExpiry .zoom first (timerRestarted .zoom b)) .zoom) = z := h
  rw [controlExpiry_eq, hpos]
  by_cases hz : z = b.zoom.lastPos
  · rw [if_pos hz, if_neg fun hc => hc.2 hz]
  · rw [if_neg hz]
    exact if_pos ⟨rfl, hz⟩

/-- A hard limit stops the move: the axis is braked as after a failure, with LENS_FAULT. -/
theorem controlExpiry_limit (hp : blockOf b ax = some p) (hm : (axisOf b ax).move = some m)
    (hst : (axisOf b ax).state = .moving ∨ (axisOf b ax).state = .settling) (hl : beyondHardLimit b ax = true)
    (h : first = .limit ∨ stallCount p (axisOf b ax) m < p.stallPeriods ∧ supplyCount b ax < 3) :
    let c := setAxis ax { moveSampled b ax p m with period := periodOf b ax } b
    expired ax first b = positionStored ax (failMove ax .limit .limit c) ∧ (axisOf c ax).move = some (moveCounted m) := by
  intro c
  have hlim := moveExpiry_limit (b := timerRestarted ax b) (p := p) (m := m) (first := first)
    (by rw [beyondHardLimit_timerRestarted]; exact hl)
    (by rw [stallCount_timerRestarted, supplyCount_timerRestarted]; exact h)
  have hc : setAxis ax (moveSampled (timerRestarted ax b) ax p m) (timerRestarted ax b) = c := by
    rw [moveSampled_timerRestarted]
    exact setAxis_setAxis ..
  refine ⟨?_, ?_⟩
  · rw [expired_move hp hm hst, hlim, hc]
  · rw [axisOf_setAxis]
    rfl

/-- The axis of a failed move, with LENS_FAULT, after the rest of the expiry. -/
theorem controlExpiry_failMove {c : Block} {m : Move} (hm : (axisOf c ax).move = some m)
    (h : expired ax first b = positionStored ax (failMove ax .limit .limit c)) :
    let a' := axisOf (controlExpiry ax first b) ax
    a'.state = .braking ∧ a'.output = .brake ∧ a'.move = none ∧ a'.moveTimer = none ∧ a'.stopFaulted = true ∧
    (levelOf c.ntu .lensFault ≠ 0 → flagOf (controlExpiry ax first b).ntu .lensFault = true) := by
  intro a'
  have ha : a' = { braked c ax true with lastPos := position (braked c ax true) } := by
    refine (axisOf_controlExpiry ..).trans ((congrArg (axisOf · ax) h).trans ((axisOf_positionStored ..).trans ?_))
    rw [failMove_axis hm]
    rfl
  rw [ha]
  refine ⟨rfl, rfl, rfl, rfl, rfl, fun hl => controlExpiry_lensFault ?_⟩
  rw [h, positionStored_same ax _ (f := .ntu) (by decide), failMove_ntu hm]
  exact flagOf_setFlag hl

end Expired

/-! ### The expiry of the zoom axis without a move -/

theorem axisExpiry_standing {ax : Axis} {first : MoveCheck} {b : Block}
    (h : (axisOf b ax).state = .unreferenced ∨ (axisOf b ax).state = .idle ∨ (axisOf b ax).state = .faulted) :
    axisExpiry ax first b = b := by
  unfold axisExpiry
  rcases h with h | h | h <;> simp only [h]

/-- Settles O47. -/
theorem moveExpiryBands : Obligations.MoveExpiryBands := by
  refine ⟨fun s b ax ms first p m hs hp hm hst => ?_, fun s b ms first hs hst => ?_⟩
  · intro a d duty stall low settle beyond
    let bm := setMsense ms b
    have hax : axisOf bm ax = a := by
      cases ax <;> rfl
    have hmm : (axisOf bm ax).move = some m := hax.symm ▸ hm
    have hstm : (axisOf bm ax).state = .moving ∨ (axisOf bm ax).state = .settling := hax.symm ▸ hst
    have hstall : stallCount p (axisOf bm ax) m = stall := by
      rw [hax]
      exact stallCount_eq p a m
    have hlow : supplyCount bm ax = low := by
      rw [supplyCount_eq, hax, show blockOf bm ax = some p from hp]
      rfl
    have hbeyond : beyondHardLimit bm ax = true ↔ beyond := by
      rw [beyondHardLimit_iff (b := bm) hp, hax]
      cases ax <;> exact Iff.rfl
    have hsettle : (moveBanded p m (moveSampled bm ax p m)).settle = settle := by
      rw [moveBanded_settle, hax]
    have hunit := moveExpired_eq (b := bm) (ax := ax) (m := m) hp
    rw [hax] at hunit
    have hpass := fun (h1 : stall < p.stallPeriods) (h2 : low < 3) (h3 : ¬beyond) =>
      expired_passes_spec (b := bm) (first := first) hp hmm hstm (hstall.symm ▸ h1)
        (fun hc => h3 (hbeyond.1 hc)) (hlow.symm ▸ h2)
    have hrun := runs_controlPeriodExpiry ax ms first hs
    have hmarks := fun (o : DueStep)
        (h : moveExpiry ax first p m (timerRestarted ax bm) =
          markDue o (setAxis ax (moveSampled (timerRestarted ax bm) ax p m) (timerRestarted ax bm))) =>
      controlExpiry_marks (b := bm) ((expired_move (b := bm) (first := first) hp hmm hstm).trans (congrArg (positionStored ax) h))
    have houtput : (moveSampled (timerRestarted ax bm) ax p m).output = a.output := by
      rw [moveSampled_timerRestarted]
      exact (congrArg AxisUnit.output hax :)
    have hst1 : stallCount p (axisOf (timerRestarted ax bm) ax) m = stall := stallCount_timerRestarted.trans hstall
    have hlow1 : supplyCount (timerRestarted ax bm) ax = low := (supplyCount_timerRestarted ax bm).trans hlow
    have hbey1 : beyondHardLimit (timerRestarted ax bm) ax = true ↔ beyond :=
      beyondHardLimit_timerRestarted (b := bm) ▸ hbeyond
    refine ⟨fun hzoom h1 h2 h3 h4 => ?_, _, hrun, fun h1 h2 h3 => ?_, fun h1 h2 h3 => ?_, fun h1 h2 h3 => ?_,
      fun h1 hfirst => ?_⟩
    · subst hzoom
      intro h
      have hexp : expired .zoom first bm = h := by
        refine (expired_passes (ax := .zoom) (b := bm) hp hmm hstm (hstall.symm ▸ h1) (fun hc => h3 (hbeyond.1 hc)) (hlow.symm ▸ h2)).trans ?_
        refine (if_neg fun hc => h4 (hsettle.symm.trans hc)).trans ?_
        exact congrArg (fun u => setAxis .zoom u bm) hunit
      refine hrun.of_eq ((controlExpiry_zoom (z := position a) ?_).trans ?_)
      · rw [hexp]
      · rw [hexp]
        rfl
    · obtain ⟨hunit', hdue, hfocus, hkeep⟩ := hpass h1 h2 h3
      have hsame : ∀ {f : Fld}, f ∉ [.ntu, .focus, .zmap, .afu] →
          Agree (expired ax first bm) (controlExpiry ax first bm) f := fun hf => controlExpiry_same ax first bm hf
      refine ⟨?_, ?_, ?_, ?_, ?_⟩
      · rw [axisOf_controlExpiry, hunit', hunit]
        rfl
      · rw [hsame (f := .due) (by decide), hdue, hsettle]
        exact Iff.rfl
      · rintro rfl
        rw [controlExpiry_focus]
        have hk := hfocus rfl
        exact ⟨hk .zoom (by decide), hk .zmap (by decide), hk .afu (by decide), hk .ntu (by decide)⟩
      · exact (hsame (f := .ple) (by decide)).trans (hkeep .ple (by decide))
      · exact (hsame (f := .regs) (by decide)).trans (hkeep .regs (by decide))
    · obtain ⟨hdue, hunit'⟩ := hmarks (.stall ax) (moveExpiry_stall (hst1.symm ▸ h1) (fun hc => h3 (hbey1.1 hc))
        (hlow1.symm ▸ h2))
      refine ⟨hdue, ?_⟩
      rw [hunit']
      exact houtput
    · obtain ⟨hdue, hunit'⟩ := hmarks (.supply ax) (moveExpiry_supply (hst1.symm ▸ h1) (fun hc => h3 (hbey1.1 hc))
        (hlow1.symm ▸ h2))
      refine ⟨hdue, ?_⟩
      rw [hunit']
      exact houtput
    · obtain ⟨hexp, hmove⟩ := controlExpiry_limit (b := bm) (first := first) hp hmm hstm (hbeyond.2 h1)
        (by rw [hstall, hlow]; exact hfirst)
      obtain ⟨h2, h3, h4, -, h5, h6⟩ := controlExpiry_failMove hmove hexp
      refine ⟨h2, h3, h4, h5, fun hl => h6 ?_⟩
      rw [setAxis_ntu]
      exact hl
  · intro h
    have hexp : expired .zoom first (setMsense ms b) = h := by
      unfold expired
      rw [axisExpiry_standing (ax := .zoom) (b := timerRestarted .zoom (setMsense ms b)) hst]
      rfl
    refine (runs_controlPeriodExpiry .zoom ms first hs).of_eq ((controlExpiry_zoom (z := position b.zoom) ?_).trans ?_)
    · rw [hexp]
    · rw [hexp]
      rfl

end Sys2Proof.Machine
end

section
/-!
PROOFS. The ends of a move: arrival, failure, and BRAKING (R76, R80 to R84, R107, R124, R128).
-/

namespace Sys2Proof.Machine

/-! ### Arrival (R80) -/

section Arrival
variable {b : Block} {m : Move}

theorem moveDone_zoom (hm : b.zoom.move = some m) (hg : m.giver = .zoomPlan) :
    let c := endPlan .zoom .done .ok (leInt 4 (position b.zoom)) (moveArea b.zoom.target .ok m.expiries 0)
      { b with zoom := arrived b.zoom }
    moveDone .zoom b = if b.zmap.trackActive = true then trackTarget c else c := by
  intro c
  have hc : c.zmap = b.zmap := endPlan_frame _ _ _ _ _ (Among.refl _) (Changes.refl _ _) .zmap (by decide)
  unfold moveDone
  dsimp only [axisOf]
  rw [hm]
  dsimp only
  rw [hg]
  change (if Axis.zoom = .zoom ∧ c.zmap.trackActive = true then trackTarget c else c) = _
  rw [hc]
  by_cases ht : b.zmap.trackActive = true
  · rw [if_pos ⟨rfl, ht⟩, if_pos ht]
  · rw [if_neg fun h => ht h.2, if_neg ht]

theorem moveDone_focus (hm : b.focus.move = some m) :
    moveDone .focus b = reportDone m.giver b.focus.target m.expiries { b with focus := arrived b.focus } := by
  have hput : putAxis .focus (arrived b.focus) b = { b with focus := arrived b.focus } := putAxis_focus (.inr rfl)
  unfold moveDone
  dsimp only [axisOf]
  rw [hm, hput]
  exact if_neg fun h => nomatch h.1

/-- The arrival of a focus move, by the giver it is reported to. -/
theorem moveDone_focus_cases (hm : b.focus.move = some m) :
    let h : Block := { b with focus := { b.focus with state := .idle, output := .off, move := none, moveTimer := none } }
    (∀ u, m.giver = .focusPlan (.distance u) →
      moveDone .focus b =
        endPlan .focus .done .ok (leInt 4 (position b.focus)) (moveArea b.focus.target .ok m.expiries u)
          { h with zmap := { b.zmap with u := u } }) ∧
    (∀ x, m.giver = .focusPlan (.position x) →
      moveDone .focus b =
        endPlan .focus .done .ok (leInt 4 (position b.focus))
          (moveArea b.focus.target .ok m.expiries (recomputeU h).zmap.u) (recomputeU h)) ∧
    (m.giver = .search → moveDone .focus b = searchMoveDone h) ∧
    (m.giver = .caf → moveDone .focus b = { h with afu := { b.afu with cafMoving := false } }) ∧
    (m.giver = .tracking → moveDone .focus b = h) := by
  intro h
  rw [moveDone_focus hm]
  refine ⟨fun u hg => ?_, fun x hg => ?_, fun hg => ?_, fun hg => ?_, fun hg => ?_⟩ <;> rw [hg] <;> rfl

end Arrival

/-! ### Failure (R81 to R84) -/

/-- The block in which the failure of a move is reported. -/
def moveStopped (ax : Axis) (faulted : Bool) (b : Block) : Block :=
  setAxis ax (braked b ax faulted) { b with ntu := setFlag .lensFault b.ntu }

theorem failMove_eq {ax : Axis} {b : Block} {m : Move} (hm : (axisOf b ax).move = some m)
    (hst : (axisOf b ax).state ≠ .idle) (o detail : PlanOutcome) :
    failMove ax o detail b =
      reportFailed m.giver o detail (axisOf b ax).target m.expiries
        (moveStopped ax (decide (o ≠ .encoderFault)) b) := by
  have hstop : raise .lensFault (brake ax (decide (o ≠ .encoderFault)) b) =
      moveStopped ax (decide (o ≠ .encoderFault)) b := by
    rw [brake_of_not_idle hst]
    cases ax <;> rfl
  rw [← hstop]
  unfold failMove
  simp only [hm]

/-- A tracking move that fails disables tracking. -/
theorem trackFailed_noMove {b : Block} (h : b.focus.move = none) :
    trackFailed b = { b with zmap := { b.zmap with trackEnabled := false, trackActive := false } } := by
  let c : Block := { b with zmap := { b.zmap with trackEnabled := false } }
  have hw : ¬trackWanted c = true := fun hc => nomatch ((trackWanted_iff c).1 hc).1
  cases ha : b.zmap.trackActive with
  | false =>
    refine (retrack_stays_inactive hw ha false).trans ?_
    exact congrArg (fun v => { b with zmap := { b.zmap with trackEnabled := false, trackActive := v } }) ha
  | true =>
    refine (retrack_ends hw ha false).trans ?_
    exact stopTracking_other fun m hm => nomatch h.symm.trans hm

theorem supplyStop_move {ax : Axis} {b : Block} (h : (axisOf b ax).search = none) :
    supplyStop ax b = failMove ax .supplyLow .supplyLow b := by
  unfold supplyStop
  rw [h]

theorem moveTimeout_runs {ax : Axis} {b : Block} (h : (axisOf b ax).moveTimer ≠ none) :
    moveTimeout ax b = failMove ax .stall .timeout b := if_pos (Option.isSome_iff_ne_none.2 h)

/-- The three stops that report in the block they leave, by the giver. -/
theorem moveStops_cases {s : State} {b : Block} (m : Move) (o detail : PlanOutcome) (ax : Axis) (i : Instr)
    (hi : (i = .stallStop ax ∧ o = .stall ∧ detail = .stall ∧ .stall ax ∈ s.due ∧ dropDue (.stall ax) s.toBlock = b) ∨
      (i = .supplyLowStop ax ∧ o = .supplyLow ∧ detail = .supplyLow ∧ .supply ax ∈ s.due ∧
        dropDue (.supply ax) s.toBlock = b ∧ (axisOf b ax).search = none) ∨
      (i = .moveTimerExpiry ax ∧ o = .stall ∧ detail = .timeout ∧ Settles s b ∧ (axisOf b ax).moveTimer ≠ none))
    (hm : (axisOf b ax).move = some m) (hst : (axisOf b ax).state ≠ .idle) :
    Runs i s (reportFailed m.giver o detail (axisOf b ax).target m.expiries (moveStopped ax true b)) := by
  rcases hi with ⟨rfl, rfl, rfl, hd, hb⟩ | ⟨rfl, rfl, rfl, hd, hb, hn⟩ | ⟨rfl, rfl, rfl, hs, ht⟩
  · exact (runs_stallStop ax hd hb).of_eq (failMove_eq hm hst _ _)
  · exact (runs_supplyLowStop ax hd hb).of_eq ((supplyStop_move hn).trans (failMove_eq hm hst _ _))
  · exact (runs_moveTimerExpiry ax hs).of_eq ((moveTimeout_runs ht).trans (failMove_eq hm hst _ _))

/-! ### A failure reported in a block that only the axis and the flags tell from the one at the step -/

/-- The report of a plan's ending in a block with the plan table and the registers of another. -/
theorem endPlan_begins {b c : Block} (hple : c.ple = b.ple) (hregs : c.regs = b.regs) (k : PlanKind) (fin : FinalState)
    (o : PlanOutcome) (word area : List Byte) (t : Taken) (ht : takenOf b k = some t) (he : t.ending = .running) :
    ∃ e, takenOf (endPlan k fin o word area c) k = some { t with ending := .results e } ∧ e.fin = fin ∧
      e.outstanding =
        [(.outcome, writeAt b (t.offset + 3) (leBytes 1 o.code)), (.word, writeAt b (t.offset + 12) word),
         (.area, writeAt b (t.offset + 40) area)] := by
  have hwrite : ∀ n data, writeAt c n data = writeAt b n data :=
    writeAt_congr (congrArg Regs.wbase hregs) (congrArg Regs.wlimit hregs)
  have htc : takenOf c k = some t := (takenOf_congr hple k).trans ht
  obtain ⟨e, hte, hfin, hout⟩ := startEnding_takenOf htc fin o word area
  refine ⟨e, (congrArg (takenOf · k) (endPlan_running htc he _ _ _ _)).trans hte, hfin, ?_⟩
  rw [hout, hwrite, hwrite, hwrite]

/-- A plan of kind k has ended FAILED in b', with outcome o and the result word of position z. -/
def FailedIn (b b' : Block) (k : PlanKind) (o : PlanOutcome) (z : Int) (ok : EndingProg → Prop) : Prop :=
  ∀ t, takenOf b k = some t → t.ending = .running →
    ∃ e, takenOf b' k = some { t with ending := .results e } ∧ e.fin = .failed ∧
      (ResultWrite.outcome, writeAt b (t.offset + 3) (leBytes 1 o.code)) ∈ e.outstanding ∧
      (ResultWrite.word, writeAt b (t.offset + 12) (leInt 4 z)) ∈ e.outstanding ∧ ok e

theorem failedIn_endPlan {b b' c : Block} {k : PlanKind} {o : PlanOutcome} {z : Int} {area : List Byte}
    (hple : c.ple = b.ple) (hregs : c.regs = b.regs)
    (hb' : b'.ple = (endPlan k .failed o (leInt 4 z) area c).ple) :
    FailedIn b b' k o z fun e => ∃ x, (ResultWrite.area, x) ∈ e.outstanding ∧ x.data = area := by
  intro t ht he
  obtain ⟨e, hte, hfin, hout⟩ := endPlan_begins hple hregs k .failed o (leInt 4 z) area t ht he
  have hmem : ∀ x ∈ [(ResultWrite.outcome, writeAt b (t.offset + 3) (leBytes 1 o.code)),
      (.word, writeAt b (t.offset + 12) (leInt 4 z)), (.area, writeAt b (t.offset + 40) area)], x ∈ e.outstanding :=
    fun x hx => hout ▸ hx
  exact ⟨e, (takenOf_congr hb' k).trans hte, hfin, hmem _ List.mem_cons_self,
    hmem _ (List.mem_cons_of_mem _ List.mem_cons_self), writeAt b (t.offset + 40) area,
    hmem _ (List.mem_cons_of_mem _ (List.mem_cons_of_mem _ List.mem_cons_self)), rfl⟩

theorem FailedIn.mono {b b' : Block} {k : PlanKind} {o : PlanOutcome} {z : Int} {p q : EndingProg → Prop}
    (h : FailedIn b b' k o z p) (hpq : ∀ e, p e → q e) : FailedIn b b' k o z q := by
  intro t ht he
  obtain ⟨e, hte, hfin, ho, hw, hp⟩ := h t ht he
  exact ⟨e, hte, hfin, ho, hw, hpq e hp⟩

/-- The block c in which a move fails differs from b in the axis and the flags, and the axis has the position and the
target that it has in b. -/
structure FailsFrom (b c : Block) (ax : Axis) : Prop where
  same : Changes [.ntu, .ldu, if ax = .zoom then .zoom else .focus] b c
  pos : position (axisOf c ax) = position (axisOf b ax)
  target : (axisOf c ax).target = (axisOf b ax).target
  state : (axisOf c ax).state ≠ .idle

/-- What the report of a failed move leaves, by its giver, seen in a later block of the same command. -/
theorem failMove_reported {b c b' : Block} {ax : Axis} {m : Move} {o : PlanOutcome} (h : FailsFrom b c ax)
    (hm : (axisOf c ax).move = some m) (hple : b'.ple = (failMove ax o o c).ple)
    (hafu : ax = .focus → b'.afu = (failMove ax o o c).afu) (hcap : b'.cap = (failMove ax o o c).cap)
    (hz : ax = .focus → (failMove ax o o c).zmap.trackEnabled = false → (failMove ax o o c).zmap.trackActive = false →
      b'.zmap = (failMove ax o o c).zmap) :
    let z := position (axisOf b ax)
    let a := axisOf b ax
    (ax = .zoom → m.giver = .zoomPlan →
      FailedIn b b' .zoom o z fun e => ∃ x, (ResultWrite.area, x) ∈ e.outstanding ∧ x.data = moveArea a.target o m.expiries 0) ∧
    (ax = .focus →
      (∀ d, m.giver = .focusPlan d →
        FailedIn b b' .focus o z fun e =>
          ∃ x, (ResultWrite.area, x) ∈ e.outstanding ∧ x.data = moveArea a.target o m.expiries b.zmap.u) ∧
      (m.giver = .caf → b'.afu.cafActive = false ∧ b'.afu.cafMoving = false ∧ b'.cap.cafOutcome = o) ∧
      (∀ sr, m.giver = .search → b.afu.search = some sr →
        (b.afu.writes ≠ [] → b'.afu.search = some { sr with moving := false, ended := some (.failed, o, o) }) ∧
        (b.afu.writes = [] → b'.afu.search = none ∧ FailedIn b b' .afSearch o z fun _ => True)) ∧
      (m.giver = .tracking → b'.zmap.trackEnabled = false ∧ b'.zmap.trackActive = false)) := by
  obtain ⟨hsame, hpos, htarget, hst⟩ := h
  intro z a
  let d := moveStopped ax (decide (o ≠ .encoderFault)) c
  have hd : failMove ax o o c = reportFailed m.giver o o a.target m.expiries d := by
    rw [failMove_eq hm hst, htarget]
  have hdz : position (axisOf d ax) = z := by
    refine Eq.trans ?_ hpos
    rw [show axisOf d ax = _ from axisOf_setAxis ..]
    rfl
  rw [hd] at hple hafu hcap hz
  cases ax with
  | zoom =>
    refine ⟨fun _ hg => ?_, nofun⟩
    rw [hg] at hple
    rw [← hdz]
    exact failedIn_endPlan (c := d) (hsame .ple (by decide)) (hsame .regs (by decide)) hple
  | focus =>
    have hdple : d.ple = b.ple := hsame .ple (by decide)
    have hdregs : d.regs = b.regs := hsame .regs (by decide)
    have hdafu : d.afu = b.afu := hsame .afu (by decide)
    have hdu : d.zmap.u = b.zmap.u := congrArg Zmap.u (hsame .zmap (by decide))
    refine ⟨nofun, fun _ => ⟨fun t hg => ?_, fun hg => ?_, fun sr hg hsr => ?_, fun hg => ?_⟩⟩
    · rw [hg] at hple
      rw [← hdz, ← hdu]
      exact failedIn_endPlan (c := d) hdple hdregs hple
    · rw [hg] at hcap hafu
      rw [hafu rfl, hcap]
      exact ⟨rfl, rfl, rfl⟩
    · rw [hg] at hple hafu
      have hend : reportFailed .search o o a.target m.expiries d = searchEnd sr .failed o o d := by
        unfold reportFailed searchMoveFailed
        rw [hdafu, hsr]
      rw [hend] at hple hafu
      refine ⟨fun hw => ?_, fun hw => ?_⟩
      · rw [hafu rfl, searchEnd_waits (hdafu.symm ▸ hw)]
        rfl
      · obtain ⟨area, ha⟩ := searchEnd_reports (hdafu.symm ▸ hw) sr (fin := .failed) nofun o o
        rw [ha] at hple hafu
        refine ⟨congrArg Afu.search (hafu rfl), ?_⟩
        rw [← hdz]
        exact (failedIn_endPlan (z := position d.focus)
          (c := setSearch (some { sr with moving := false, ended := some (.failed, o, o) }) d) hdple hdregs hple).mono fun _ _ => trivial
    · have hz := hz rfl
      have hfail : reportFailed .tracking o o a.target m.expiries d =
          { d with zmap := { d.zmap with trackEnabled := false, trackActive := false } } := trackFailed_noMove rfl
      rw [hg, hfail] at hz
      rw [hz rfl rfl]
      exact ⟨rfl, rfl⟩

end Sys2Proof.Machine
end

section
/-!
PROOFS. A hard limit and an illegal transition end a move (R73, R83), and BRAKING ends (R76).
-/

namespace Sys2Proof.Machine

theorem setAxis_changes {b c : Block} {ax : Axis} (h : Changes [.ntu, .ldu, if ax = .zoom then .zoom else .focus] b c)
    (a : AxisUnit) : Changes [.ntu, .ldu, if ax = .zoom then .zoom else .focus] b (setAxis ax a c) := by
  cases ax with
  | zoom => exact setAxis_zoom_frame a (by simp [Among]) h
  | focus => exact setAxis_focus_frame a (by simp [Among]) h

section Stops
variable {b : Block} {ax : Axis} {m : Move}

/-- The block in which a hard limit stops the move. -/
theorem failsFrom_limit {p : AxisBlock} (ms : Msense)
    (hst : (axisOf b ax).state = .moving ∨ (axisOf b ax).state = .settling) :
    FailsFrom b
      (setAxis ax { moveSampled (setMsense ms b) ax p m with period := periodOf (setMsense ms b) ax } (setMsense ms b))
      ax := by
  have hax : axisOf (setMsense ms b) ax = axisOf b ax := by
    cases ax <;> rfl
  have hunit := axisOf_setAxis (setMsense ms b) ax
    { moveSampled (setMsense ms b) ax p m with period := periodOf (setMsense ms b) ax }
  refine ⟨setAxis_changes (setMsense_frame ms (by simp [Among]) (Changes.refl _ b)) _, ?_, ?_, ?_⟩
  · rw [hunit, ← hax]
    rfl
  · rw [hunit, ← hax]
    rfl
  · rw [hunit]
    change (axisOf (setMsense ms b) ax).state ≠ .idle
    rw [hax]
    rcases hst with h | h <;> rw [h] <;> nofun

/-- The block in which an illegal transition stops the move. -/
theorem failsFrom_illegal (pa pb ref : Option Bool)
    (hst : (axisOf b ax).state = .moving ∨ (axisOf b ax).state = .settling) :
    FailsFrom b (illegalSeen ax (setAxis ax (acceptLevels pa pb ref (axisOf b ax)) b)) ax := by
  have hunit : axisOf (illegalSeen ax (setAxis ax (acceptLevels pa pb ref (axisOf b ax)) b)) ax =
      { acceptLevels pa pb ref (axisOf b ax) with referenced := false } := by
    rw [axisOf_illegalSeen, axisOf_setAxis]
  refine ⟨raise_frame _ (by simp [Among]) (setAxis_changes (setAxis_changes (Changes.refl _ b) _) _), ?_, ?_, ?_⟩
  · rw [hunit]
    rfl
  · rw [hunit]
    rfl
  · rw [hunit]
    change (axisOf b ax).state ≠ .idle
    rcases hst with h | h <;> rw [h] <;> nofun

end Stops

/-- The last clauses of a move's failure, as the obligation writes them. -/
def MoveFailed (b b' : Block) (ax : Axis) (m : Move) (o : PlanOutcome) (n : Nat) : Prop :=
  let a := axisOf b ax
  (axisOf b' ax).state = .braking ∧ (axisOf b' ax).output = .brake ∧ (axisOf b' ax).move = none ∧
  (axisOf b' ax).moveTimer = none ∧ (axisOf b' ax).stopFaulted = decide (o = .limit) ∧
  (levelOf b.ntu .lensFault ≠ 0 → flagOf b'.ntu .lensFault = true) ∧ b'.regs = b.regs ∧
  (ax = .zoom → m.giver = .zoomPlan →
    FailedIn b b' .zoom o (position a) fun e =>
      ∃ x, (ResultWrite.area, x) ∈ e.outstanding ∧ x.data = moveArea a.target o n 0) ∧
  (ax = .focus →
    (∀ d, m.giver = .focusPlan d →
      FailedIn b b' .focus o (position a) fun e =>
        ∃ x, (ResultWrite.area, x) ∈ e.outstanding ∧ x.data = moveArea a.target o n b.zmap.u) ∧
    (m.giver = .caf → b'.afu.cafActive = false ∧ b'.afu.cafMoving = false ∧ b'.cap.cafOutcome = o) ∧
    (∀ sr, m.giver = .search → b.afu.search = some sr →
      (b.afu.writes ≠ [] → b'.afu.search = some { sr with moving := false, ended := some (.failed, o, o) }) ∧
      (b.afu.writes = [] → b'.afu.search = none ∧ FailedIn b b' .afSearch o (position a) fun _ => True)) ∧
    (m.giver = .tracking → b'.zmap.trackEnabled = false ∧ b'.zmap.trackActive = false))

section Failed
variable {b : Block} {ax : Axis} {m : Move}

theorem limit_moveFailed {p : AxisBlock} (ms : Msense) (hp : blockOf b ax = some p) (hm : (axisOf b ax).move = some m)
    (hst : (axisOf b ax).state = .moving ∨ (axisOf b ax).state = .settling)
    (hl : position (axisOf b ax) < (limitsOf b ax).lo - p.hardMargin ∨
      (limitsOf b ax).hi + p.hardMargin < position (axisOf b ax)) :
    MoveFailed b (controlExpiry ax .limit (setMsense ms b)) ax m .limit (min 65535 (m.expiries + 1)) := by
  let bm := setMsense ms b
  have hax : axisOf bm ax = axisOf b ax := by
    cases ax <;> rfl
  have hlim : beyondHardLimit bm ax = true := by
    rw [beyondHardLimit_iff (b := bm) hp, hax]
    cases ax <;> exact hl
  obtain ⟨hexp, hmove⟩ := controlExpiry_limit (b := bm) (first := .limit) hp (hax.symm ▸ hm) (hax.symm ▸ hst) hlim
    (.inl rfl)
  have hfrom := failsFrom_limit (m := m) (p := p) ms hst
  have hstops := controlExpiry_failMove hmove hexp
  have hkeep := controlExpiry_changes hexp
  have hfocus : ax = .focus → controlExpiry ax .limit bm = positionStored ax (failMove ax .limit .limit
      (setAxis ax { moveSampled bm ax p m with period := periodOf bm ax } bm)) := by
    intro h
    rw [← hexp, h, controlExpiry_focus]
  obtain ⟨h1, h2, h3, h4, h5, h6⟩ := hstops
  refine ⟨h1, h2, h3, h4, h5, fun h => h6 ?_, ?_, ?_⟩
  · rw [setAxis_ntu]
    exact h
  · exact (controlExpiry_frame ax .limit (Among.refl _) (setMsense_frame ms (by simp [Among]) (Changes.refl _ b))) .regs
      (by decide)
  · refine failMove_reported hfrom hmove (hkeep .ple (by decide)) (fun h => ?_) (hkeep .cap (by decide))
      fun h _ _ => ?_
    · rw [hfocus h]
      exact positionStored_same ax _ (f := .afu) (by decide)
    · rw [hfocus h]
      exact positionStored_same ax _ (f := .zmap) (by decide)

theorem illegal_moveFailed (pa pb ref : Option Bool) (hm : (axisOf b ax).move = some m)
    (hst : (axisOf b ax).state = .moving ∨ (axisOf b ax).state = .settling) :
    MoveFailed b (illegal ax (setAxis ax (acceptLevels pa pb ref (axisOf b ax)) b)) ax m .encoderFault m.expiries := by
  let c := setAxis ax (acceptLevels pa pb ref (axisOf b ax)) b
  have hax : axisOf c ax = acceptLevels pa pb ref (axisOf b ax) := axisOf_setAxis ..
  have hseen : axisOf (illegalSeen ax c) ax = { acceptLevels pa pb ref (axisOf b ax) with referenced := false } := by
    rw [axisOf_illegalSeen, hax]
  have hmove : (axisOf (illegalSeen ax c) ax).move = some m := by
    rw [hseen]
    exact hm
  let d := failMove ax .encoderFault .encoderFault (illegalSeen ax c)
  have heff : illegal ax c = referenceChanged ax d :=
    congrArg (referenceChanged ax) (illegalEffect_moving (b := illegalSeen ax c) (by rw [hseen]; exact hst))
  have hkeep := referenceChanged_frame (fs := [.focus, .zmap, .afu]) ax (Among.refl _) (Changes.refl _ d)
  have hnone : ax = .focus → d.focus.move = none := by
    rintro rfl
    exact congrArg AxisUnit.move (failMove_axis hmove .encoderFault .encoderFault)
  have hbraked : axisOf (illegal ax c) ax = braked (illegalSeen ax c) ax false :=
    illegal_moving (hax.symm ▸ hst) (by rw [hax]; exact fun h => nomatch h.symm.trans hm)
  unfold MoveFailed
  dsimp only
  rw [hbraked]
  refine ⟨rfl, rfl, rfl, rfl, rfl, fun h => illegal_lensFault (by rwa [setAxis_ntu]),
    (illegal_regs ..).trans (setAxis_regs ..), ?_⟩
  rw [heff]
  refine failMove_reported (failsFrom_illegal pa pb ref hst) hmove (hkeep .ple (by decide)) (fun h => ?_)
    (hkeep .cap (by decide)) fun h he hact => ?_
  · obtain ⟨z, t, hz⟩ := referenceChanged_noMove ax (hnone h)
    rw [hz]
  · subst h
    have hw : ¬trackWanted d = true := fun hc => nomatch he.symm.trans ((trackWanted_iff d).1 hc).1
    exact congrArg Block.zmap (retrack_stays_inactive hw hact false)

end Failed

/-! ### BRAKING -/

section Braking
variable {b : Block} {ax : Axis}

theorem brakingEnd_noPlan (h : (axisOf b ax).state = .braking) (hr : b.ldu.refPlan = none) :
    brakingEnd ax b = setAxis ax (brakingEnded (axisOf b ax)) b := by
  have hin : inStageOf ax b = false := by
    unfold inStageOf
    rw [hr]
  rw [brakingEnd_eq h, hin, Bool.and_false]
  rfl

theorem axisExpiry_braking {first : MoveCheck} (h : (axisOf b ax).state = .braking) :
    axisExpiry ax first b = brakingExpiry ax b := by
  unfold axisExpiry
  simp only [h]

theorem brakingExpiry_counts (h : 1 < (axisOf b ax).braking) :
    brakingExpiry ax b = setAxis ax { axisOf b ax with braking := (axisOf b ax).braking - 1 } b :=
  if_neg (Nat.not_le.2 h)

/-- An expiry in BRAKING at an unchanged position counts the braking time and does nothing else. -/
theorem controlExpiry_braking {first : MoveCheck} (h : (axisOf b ax).state = .braking) (hb : 1 < (axisOf b ax).braking)
    (hpos : position (axisOf b ax) = (axisOf b ax).lastPos) :
    controlExpiry ax first b =
      setAxis ax { axisOf b ax with braking := (axisOf b ax).braking - 1, period := periodOf b ax } b := by
  have hax := axisOf_timerRestarted ax b
  let a : AxisUnit := { axisOf b ax with braking := (axisOf b ax).braking - 1, period := periodOf b ax }
  have hact : axisExpiry ax first (timerRestarted ax b) = setAxis ax a b := by
    rw [axisExpiry_braking (by rw [hax]; exact h), brakingExpiry_counts (by rw [hax]; exact hb), hax]
    exact setAxis_setAxis ..
  have hexp : expired ax first b = setAxis ax { a with lastPos := position a } b := by
    unfold expired positionStored
    rw [hact, axisOf_setAxis, setAxis_setAxis]
  rw [controlExpiry_eq, hact, axisOf_setAxis, hexp]
  refine (if_neg fun hc => hc.2 hpos).trans (congrArg (setAxis ax · b) ?_)
  exact congrArg (fun z => { a with lastPos := z }) hpos

end Braking

/-- Settles O48. -/
theorem moveEnds : Obligations.MoveEnds := by
  intro s b
  refine ⟨fun m hd hb hm hg ht => ?_, fun m u hd hb hm hg => ?_, fun m hd hb hm hg ht => ?_, fun m hd hb hm => ?_,
    fun m o detail ax i hi hm hst => ?_, fun m o n ax i hs hm hst => ?_, fun ax hd hb hst hr => ?_,
    fun ax ms first hs hst hbr hpos => ?_⟩
  · exact (runs_moveSettled .zoom hd hb).of_eq ((moveDone_zoom hm hg).trans (if_neg (by rw [ht]; nofun)))
  · exact (runs_moveSettled .focus hd hb).of_eq ((moveDone_focus_cases hm).1 u hg)
  · exact (runs_moveSettled .zoom hd hb).of_eq ((moveDone_zoom hm hg).trans (if_pos ht))
  · intro h
    obtain ⟨-, hposition, hsearch, hcaf, htrack⟩ := moveDone_focus_cases hm
    have hrun := runs_moveSettled .focus hd hb
    exact ⟨fun x hg => hrun.of_eq (hposition x hg), fun hg => hrun.of_eq (hsearch hg), fun hg => hrun.of_eq (hcaf hg),
      fun hg => hrun.of_eq (htrack hg)⟩
  · intro a st
    have hrun := moveStops_cases m o detail ax i hi hm hst
    refine ⟨fun hax hg => ?_, fun t hax hg => ?_, fun hax hg => ?_, fun hax hg => ?_, fun hax hg _ => ?_⟩ <;> subst hax <;>
      rw [hg] at hrun
    · exact hrun
    · exact hrun
    · exact hrun
    · exact hrun
    · exact hrun.of_eq (trackFailed_noMove rfl)
  · intro a hi
    rcases hi with ⟨rfl, rfl, ⟨ms, rfl⟩, p, hp, hl⟩ | ⟨rfl, rfl, x, y, hx, hy, rfl⟩
    · exact ⟨_, runs_controlPeriodExpiry ax ms .limit hs, limit_moveFailed ms hp hm hst hl⟩
    · exact ⟨_, (runs_inputFilterAccept ax _ _ none hs).of_eq (filterAccept_illegal hx hy (.inl rfl)),
        illegal_moveFailed _ _ _ hm hst⟩
  · exact (runs_brakingEnd ax hd hb).of_eq (brakingEnd_noPlan hst hr)
  · have hax : axisOf (setMsense ms b) ax = axisOf b ax := by
      cases ax <;> rfl
    refine (runs_controlPeriodExpiry ax ms first hs).of_eq ?_
    rw [controlExpiry_braking (b := setMsense ms b) (hax.symm ▸ hst) (hax.symm ▸ hbr) (hax.symm ▸ hpos), hax]
    rfl

end Sys2Proof.Machine
end

section
/-!
PROOFS. A TABLES plan: the reads of its blocks, the swap, and the frame-start that carries it (R71, R97 to R101); the answered
writes of the trace (R116).
-/

namespace Sys2Proof.Machine

/-! ### The answers to the reads of the blocks (R98, R99, R102) -/

section Reads
variable {b : Block} {p : TablesParams} {got : List (List Byte)} {acc : ReadAcc}

/-- The block with another stage of the loading. -/
def loadingSet (l : Loading) (b : Block) : Block := { b with zmap := { b.zmap with loading := l } }

theorem tablesResponse_reads (h : b.zmap.loading = .reading p got acc) (ha : acc.addr ≠ none) (bs : List Byte)
    (hg : got.length < 3) :
    tablesResponse (.data bs) b =
      loadingSet
        (.reading p (got ++ [bs])
          (readAt b ([(p.zoomOff, 64), (p.focusOff, 64), (p.weightOff, 256)].getD got.length (0, 0)).1
            ([(p.zoomOff, 64), (p.focusOff, 64), (p.weightOff, 256)].getD got.length (0, 0)).2)) b := by
  have hlen : (got ++ [bs]).length = got.length + 1 := by simp
  have hblock : tableBlock p (got ++ [bs]).length =
      [(p.zoomOff, 64), (p.focusOff, 64), (p.weightOff, 256)].getD got.length (0, 0) := by
    rw [hlen]
    match got.length, hg with
    | 0, _ => rfl
    | 1, _ => rfl
    | 2, _ => rfl
  unfold tablesResponse
  rw [h]
  dsimp only
  rw [ReadAcc.result_ok ha bs]
  dsimp only
  rw [if_pos (by omega), ← hblock]
  rfl

theorem tablesResponse_last (h : b.zmap.loading = .reading p got acc) (ha : acc.addr ≠ none) (bs : List Byte)
    (hg : got.length = 3) :
    tablesResponse (.data bs) b = validateShadow (parseTableSet (got ++ [bs]) p.margin) b := by
  have hlen : (got ++ [bs]).length = got.length + 1 := by simp
  unfold tablesResponse
  rw [h]
  dsimp only
  rw [ReadAcc.result_ok ha bs]
  dsimp only
  rw [if_neg (by omega)]

theorem tablesResponse_error (h : b.zmap.loading = .reading p got acc) {r : ReadResp} {c : FaultCode}
    (hr : acc.result r = .error c) :
    tablesResponse r b = tablesFail (failOutcome c) 0 0 acc.offset (memoryFault c acc.offset b) := by
  unfold tablesResponse
  rw [h]
  dsimp only
  rw [hr]

theorem tablesResponse_aborted (h : b.zmap.loading = .aborted acc) (r : ReadResp) :
    tablesResponse r b =
      endPlan .tables .cancelled .ok (List.replicate 4 0#8) (List.replicate 24 0#8)
        (loadingSet .idle
          (match acc.result r with
           | .error c => memoryFault c acc.offset b
           | .ok _ => b)) := by
  unfold tablesResponse
  rw [h]
  rfl

theorem ReadAcc.fault_codes {c : FaultCode} {r : ReadResp} (h : acc.result r = .error c) :
    failOutcome c = if c = .window then .window else .busError := by
  cases c <;> rfl

theorem validateShadow_fails {t : Tables} {check index : Nat} (h : validateTables t = some (check, index)) :
    validateShadow t b =
      endPlan .tables .failed .badTable (leBytes 4 check) (tablesArea false 0 index 0) (loadingSet .idle b) := by
  unfold validateShadow
  rw [h]
  rfl

theorem validateShadow_waits {t : Tables} (h : validateTables t = none) (h1 : b.ftu.stream ≠ .stopped)
    (h2 : b.ftu.stream ≠ .waitingSync) : validateShadow t b = loadingSet (.ready t) b := by
  unfold validateShadow
  rw [h]
  cases hs : b.ftu.stream with
  | stopped => exact absurd hs h1
  | waitingSync => exact absurd hs h2
  | measuring => simp only [setZmap, hs]; rfl
  | running => simp only [setZmap, hs]; rfl
  | lost => simp only [setZmap, hs]; rfl

theorem validateShadow_swaps {t : Tables} (h : validateTables t = none)
    (hs : b.ftu.stream = .stopped ∨ b.ftu.stream = .waitingSync) :
    validateShadow t b = swapTables none (loadingSet (.ready t) b) := by
  unfold validateShadow
  rw [h]
  rcases hs with hs | hs <;> simp only [setZmap, hs] <;> rfl

end Reads

/-- The answers to a TABLES plan's reads. -/
theorem tablesReads (s : State) (b : Block) (p : TablesParams) (got : List (List Byte)) (acc : ReadAcc)
    (hs : Settles s b) :
    let set := fun (l : Loading) => { b with zmap := { b.zmap with loading := l } }
    (b.zmap.loading = .reading p got acc → ∀ bs : List Byte, acc.addr ≠ none →
      (got.length < 3 →
        let next := [(p.zoomOff, 64), (p.focusOff, 64), (p.weightOff, 256)].getD got.length (0, 0)
        Runs (.tablesReadDone ⟨false, .data bs⟩) s
          (set (.reading p (got ++ [bs]) (readAt b next.1 next.2)))) ∧
      (got.length = 3 →
        let t := parseTableSet (got ++ [bs]) p.margin
        (∀ check index, validateTables t = some (check, index) →
          Runs (.tablesReadDone ⟨false, .data bs⟩) s
            (endPlan .tables .failed .badTable (leBytes 4 check) (tablesArea false 0 index 0) (set .idle))) ∧
        (validateTables t = none → b.ftu.stream ≠ .stopped → b.ftu.stream ≠ .waitingSync →
          Runs (.tablesReadDone ⟨false, .data bs⟩) s (set (.ready t))) ∧
        (validateTables t = none → b.ftu.stream = .stopped ∨ b.ftu.stream = .waitingSync →
          Runs (.tablesReadDone ⟨false, .data bs⟩) s (swapTables none (set (.ready t)))))) ∧
    (b.zmap.loading = .reading p got acc → ∀ (r : ReadResp) (c : FaultCode), acc.result r = .error c →
      Runs (.tablesReadDone ⟨false, r⟩) s
        (endPlan .tables .failed (if c = .window then .window else .busError) (leBytes 4 0)
          (tablesArea false 0 0 acc.offset)
          { set .idle with
            regs := { b.regs with fault := latchIn c acc.offset b.regs.fault }
            ntu := setFlag .windowFault b.ntu })) ∧
    (b.zmap.loading = .aborted acc →
      (∀ bs : List Byte, acc.addr ≠ none →
        Runs (.tablesReadDone ⟨false, .data bs⟩) s
          (endPlan .tables .cancelled .ok (List.replicate 4 0#8) (List.replicate 24 0#8) (set .idle))) ∧
      ∀ (r : ReadResp) (c : FaultCode), acc.result r = .error c →
        Runs (.tablesReadDone ⟨false, r⟩) s
          (endPlan .tables .cancelled .ok (List.replicate 4 0#8) (List.replicate 24 0#8)
            { set .idle with
              regs := { b.regs with fault := latchIn c acc.offset b.regs.fault }
              ntu := setFlag .windowFault b.ntu })) := by
  intro set
  have hrun := fun r => runs_tablesReadDone (b := b) r hs
  refine ⟨fun h bs ha => ⟨fun hg => (hrun _).of_eq (tablesResponse_reads h ha bs hg), fun hg => ?_⟩,
    fun h r c hr => (hrun r).of_eq ((tablesResponse_error h hr).trans ?_), fun h => ⟨fun bs ha => (hrun _).of_eq ?_,
      fun r c hr => (hrun r).of_eq ?_⟩⟩
  · intro t
    have hlast := tablesResponse_last h ha bs hg
    exact ⟨fun check index hv => (hrun _).of_eq (hlast.trans (validateShadow_fails hv)),
      fun hv h1 h2 => (hrun _).of_eq (hlast.trans (validateShadow_waits hv h1 h2)),
      fun hv hst => (hrun _).of_eq (hlast.trans (validateShadow_swaps hv hst))⟩
  · rw [ReadAcc.fault_codes hr]
    rfl
  · rw [tablesResponse_aborted h, ReadAcc.result_ok ha bs]
    rfl
  · rw [tablesResponse_aborted h, hr]
    rfl

/-! ### The swap (R71, R101) -/

/-- The filter times after a swap, with the time before a change kept for the next level of each input. -/
theorem refilter_eq (new : Nat) (f : FilterTimes) :
    refilter new f =
      if new = f.now then f
      else { now := new, a := some (f.a.getD f.now), b := some (f.b.getD f.now), ref := some (f.ref.getD f.now) } := by
  have hor : ∀ o : Option Nat, (o <|> some f.now) = some (o.getD f.now) := by
    intro o
    cases o <;> rfl
  unfold refilter
  rw [hor, hor, hor]

theorem swapTables_eq (b : Block) (t : Tables) (k : Option Word) (h : b.zmap.loading = .ready t) :
    let timed := fun (new : Nat) (f : FilterTimes) =>
      if new = f.now then f
      else { now := new, a := some (f.a.getD f.now), b := some (f.b.getD f.now), ref := some (f.ref.getD f.now) }
    let c : Block := { b with zmap := { b.zmap with tables := some t, margin := t.margin, loading := .idle } }
    let z : Limits := { lo := max t.zoomBlk.lo (firstPos t.nodes), hi := min t.zoomBlk.hi (lastPos t.nodes) }
    let f := focusLimits c
    swapTables k b =
      endPlan .tables .done .ok (List.replicate 4 0#8) (tablesArea k.isSome (k.getD 0) 0 0)
        { c with
          zmap := { c.zmap with zoomLim := z, focusLim := f }
          zoom := { b.zoom with
            filter := timed t.zoomBlk.filter b.zoom.filter, target := max z.lo (min b.zoom.target z.hi) }
          focus := { b.focus with
            filter := timed t.focusBlk.filter b.focus.filter, target := max f.lo (min b.focus.target f.hi) } } := by
  intro timed c z f
  have htimed : ∀ new g, refilter new g = timed new g := refilter_eq
  rw [swapTables_ready h]
  refine congrArg (endPlan .tables .done .ok _ _) ?_
  rw [← htimed, ← htimed]
  rfl

/-! ### The frame-start that carries the swap (R100, R101) -/

section FrameStart
variable {b c : Block} {t : Tables}

/-- The set t that waited in b has been swapped in at the frame-start that leads to b'. -/
def SwapCarried (b b' : Block) (t : Tables) : Prop :=
  b'.zmap.tables = some t ∧ b'.zmap.margin = t.margin ∧ b'.zmap.loading = .idle ∧
  ∀ p, takenOf b .tables = some p → p.ending = .running →
    ∃ e, takenOf b' .tables = some { p with ending := .results e } ∧ e.fin = .done ∧
      (ResultWrite.area, writeAt b (p.offset + 40) (tablesArea true b.ftu.frameStarts 0 0)) ∈ e.outstanding

/-- The swap seen from an earlier block of the same command. -/
theorem SwapCarried.earlier {b' : Block} (h : SwapCarried c b' t) (htaken : takenOf c .tables = takenOf b .tables)
    (hbase : c.regs.wbase = b.regs.wbase) (hlimit : c.regs.wlimit = b.regs.wlimit) (hstarts : c.ftu.frameStarts = b.ftu.frameStarts) : SwapCarried b b' t := by
  obtain ⟨htables, hmargin, hloading, hdone⟩ := h
  refine ⟨htables, hmargin, hloading, fun p hp hr => ?_⟩
  obtain ⟨e, he, hfin, hmem⟩ := hdone p (htaken.trans hp) hr
  refine ⟨e, he, hfin, ?_⟩
  rwa [writeAt_congr hbase hlimit, hstarts] at hmem

/-- The swap seen in a later block of the same command. -/
theorem SwapCarried.later {b' b'' : Block} (h : SwapCarried b b' t) (hz : b''.zmap = b'.zmap)
    (htaken : takenOf b'' .tables = takenOf b' .tables) : SwapCarried b b'' t := by
  obtain ⟨htables, hmargin, hloading, hdone⟩ := h
  unfold SwapCarried
  rw [hz, htaken]
  exact ⟨htables, hmargin, hloading, hdone⟩

theorem frameWork_takenOf (k : Word) (untimed jump : Bool) (b : Block) (kind : PlanKind) :
    takenOf (frameWork k untimed jump b) kind = takenOf b kind := by
  let c := statsFrameStart k jump untimed (pipelineWork k (frameBegun k b))
  have hlate : (frameWork k untimed jump b).ple = (requestMirror c).ple :=
    capFrameStart_frame (fs := [.cap, .fsu, .due]) k jump (by simp [Among])
      (readQ_frame (by simp [Among]) (Changes.refl _ _)) .ple (by decide)
  have hearly : c.ple = b.ple :=
    statsFrameStart_frame (fs := [.ftu, .stu, .iris, .due]) k jump untimed (by simp [Among])
      (pipelineWork_frame k (by simp [Among]) (changes_ftu (Changes.refl _ b) (by decide))) .ple (by decide)
  rw [takenOf_congr hlate, takenOf_requestMirror, takenOf_congr hearly]

/-- A frame-start of a block whose set waits makes the swap, before its own work or after it. -/
theorem frameStart_swaps (h : b.zmap.loading = .ready t) (untimed jump swapFirst : Bool) :
    SwapCarried b (frameStart untimed jump swapFirst b) t := by
  cases swapFirst with
  | true =>
    let c := swapTables (some b.ftu.frameStarts) b
    obtain ⟨htables, hmargin, hloading⟩ := swapTables_zmap h (some b.ftu.frameStarts)
    have hc : SwapCarried b c t := ⟨htables, hmargin, hloading, fun p hp hr => swapTables_done h hp hr _⟩
    rw [frameStart_swapFirst]
    exact hc.later (frameWork_same _ _ _ _ (f := .zmap) (by decide)) (frameWork_takenOf _ _ _ _ _)
  | false =>
    let c := frameWork b.ftu.frameStarts untimed jump b
    have hloading : c.zmap.loading = .ready t :=
      (congrArg Zmap.loading (frameWork_same _ _ _ b (f := .zmap) (by decide))).trans h
    have hregs : c.regs = b.regs := frameWork_same _ _ _ b (f := .regs) (by decide)
    obtain ⟨htables, hmargin, hidle⟩ := swapTables_zmap hloading (some b.ftu.frameStarts)
    rw [frameStart_swapLast]
    refine ⟨htables, hmargin, hidle, fun p hp hr => ?_⟩
    obtain ⟨e, he, hfin, hmem⟩ :=
      swapTables_done hloading ((frameWork_takenOf _ _ _ _ _).trans hp) hr (some b.ftu.frameStarts)
    refine ⟨e, he, hfin, ?_⟩
    rwa [writeAt_congr (congrArg Regs.wbase hregs) (congrArg Regs.wlimit hregs)] at hmem

/-- The frame that is finished and the period that is captured leave the set that waits. -/
theorem captured_swaps (h : b.zmap.loading = .ready t) {f : Ftu → Ftu} (hf : ∀ u, (f u).frameStarts = u.frameStarts)
    (untimed jump swapFirst : Bool) :
    SwapCarried b (frameStart untimed jump swapFirst (setFtu f (finishFrame b))) t := by
  have hkeep := finishFrame_frame (Among.refl _) (Changes.refl _ b)
  have hz : (setFtu f (finishFrame b)).zmap = b.zmap := hkeep .zmap (by decide)
  refine (frameStart_swaps ((congrArg Zmap.loading hz).trans h) untimed jump swapFirst).earlier
    (takenOf_congr (hkeep .ple (by decide)) _) (finishFrame_kept (Kept.refl b)).wbase
    (finishFrame_kept (Kept.refl b)).wlimit ?_
  rw [setFtu_ftu, hf, finishFrame_sameButFrame b]

/-- An FS that raises a frame-start carries the swap that waits. -/
theorem frameSync_swaps (h : b.zmap.loading = .ready t) (hs : b.ftu.stream ≠ .stopped) (n : Nat) (w : Bool) :
    SwapCarried b (frameSync n w b) t := by
  have hbegun : (b.ftu.stream = .waitingSync ∨ b.ftu.stream = .lost) → SwapCarried b (frameSync n w b) t := by
    intro hstream
    rw [frameSync_measuringBegun hstream]
    exact (frameStart_swaps (b := measuringBegun b) h true false w).earlier rfl rfl rfl rfl
  cases hstream : b.ftu.stream with
  | stopped => exact absurd hstream hs
  | waitingSync => exact hbegun (.inl hstream)
  | lost => exact hbegun (.inr hstream)
  | running =>
    unfold frameSync
    rw [hstream]
    dsimp only
    exact captured_swaps h (f := fun u => { capturePeriod n u with syncTimer := true }) (fun _ => rfl) false _ w
  | measuring =>
    unfold frameSync
    rw [hstream]
    dsimp only
    refine (captured_swaps h (f := fun u => { capturePeriod n u with stream := .running, syncTimer := true })
      (fun _ => rfl) true (jumpMark (finishFrame b).ftu (newPeriod (finishFrame b).ftu n)) w).later ?_ ?_
    · exact endPlan_same _ _ _ _ _ _ (f := .zmap) (by decide)
    · exact takenOf_endPlan_other (k := .tables) (k' := .streamStart) nofun _ _ _ _ _

end FrameStart

/-! ### The trace (R116) -/

section Trace
variable {b : Block} {i : Nat} {acc : WriteAcc} {err : Bool}

/-- The block after the answer to a trace write, an ending that waits for it apart. -/
def traceAnswered (i : Nat) (acc : WriteAcc) (err : Bool) (b : Block) : Block :=
  match acc.fault err with
  | none => { b with afu := { b.afu with
      writes := b.afu.writes.filter (fun w => w.1 != i), written := b.afu.written + 1 } }
  | some c =>
    { b with
      regs := { b.regs with fault := latchIn c acc.offset b.regs.fault }
      ntu := setFlag .windowFault b.ntu
      afu := { b.afu with writes := b.afu.writes.filter (fun w => w.1 != i), traceStopped := true } }

theorem traceResponse_eq (h : b.afu.writes.find? (fun w => w.1 == i) = some (i, acc)) :
    traceResponse i err b = searchReport (traceAnswered i acc err b) := by
  unfold traceResponse traceAnswered
  rw [h]
  dsimp only
  cases acc.fault err with
  | none =>
    refine congrArg searchReport ?_
    simp [memoryFault?, setAfu]
  | some c =>
    refine congrArg searchReport ?_
    simp [memoryFault?_some, setAfu]

theorem searchReport_running (h : ∀ sr, b.afu.search = some sr → sr.ended = none) : searchReport b = b := by
  unfold searchReport
  cases hs : b.afu.search with
  | none => rfl
  | some sr =>
    dsimp only
    rw [h sr hs]

theorem searchReport_waits (h : b.afu.writes ≠ []) : searchReport b = b := by
  unfold searchReport
  cases b.afu.search with
  | none => rfl
  | some sr =>
    dsimp only
    cases sr.ended with
    | none => rfl
    | some e => exact if_neg h

/-- The last answer: the ending that waited is reported, with the focus position of this moment. -/
theorem searchReport_last {sr : Search} {fin : FinalState} {o detail : PlanOutcome} {t : Taken}
    (hs : b.afu.search = some sr) (he : sr.ended = some (fin, o, detail)) (hw : b.afu.writes = [])
    (ht : takenOf b .afSearch = some t) (hr : t.ending = .running ∨ t.ending = .cancelling) :
    let cancelled := decide (t.ending = .cancelling)
    let b' := searchReport b
    ∃ e : EndingProg,
      b'.afu = { b.afu with search := none } ∧ b'.regs = b.regs ∧ b'.ntu = b.ntu ∧ b'.focus = b.focus ∧
      takenOf b' .afSearch = some { t with ending := .results e } ∧
      e.fin = (if cancelled then .cancelled else fin) ∧
      e.outstanding =
        [(.outcome, writeAt b (t.offset + 3) (leBytes 1 (if cancelled then PlanOutcome.ok else o).code)),
         (.word, writeAt b (t.offset + 12) (leInt 4 (position b.focus))),
         (.area, writeAt b (t.offset + 40) (afArea b sr detail))] := by
  intro cancelled b'
  let c := if fin = .done then recomputeU b else b
  have hc : Changes [.zmap] b c := by
    unfold c
    split
    · exact recomputeU_frame (Among.refl _) (Changes.refl _ b)
    · exact Changes.refl _ b
  have hafu : c.afu = b.afu := hc .afu (by decide)
  have hregs : c.regs = b.regs := hc .regs (by decide)
  have hfocus : c.focus = b.focus := hc .focus (by decide)
  have hb' : b' = setSearch none (endPlan .afSearch fin o (leInt 4 (position c.focus)) (afArea c sr detail) c) := by
    change searchReport b = _
    unfold searchReport
    rw [hs]
    dsimp only
    rw [he]
    exact if_pos hw
  have hends : ∃ (f : FinalState) (q : PlanOutcome), f = (if cancelled then .cancelled else fin) ∧
      q = (if cancelled then PlanOutcome.ok else o) ∧
      endPlan .afSearch fin o (leInt 4 (position c.focus)) (afArea c sr detail) c =
        startEnding t f q (leInt 4 (position c.focus)) (afArea c sr detail) c := by
    have htc : takenOf c .afSearch = some t := (takenOf_congr (hc .ple (by decide)) _).trans ht
    rcases hr with hr | hr
    · have hcan : cancelled = false := decide_eq_false (by rw [hr]; nofun)
      exact ⟨fin, o, by rw [hcan]; rfl, by rw [hcan]; rfl, endPlan_running htc hr _ _ _ _⟩
    · have hcan : cancelled = true := decide_eq_true hr
      exact ⟨.cancelled, .ok, by rw [hcan]; rfl, by rw [hcan]; rfl, endPlan_cancelling htc hr _ _ _ _⟩
  obtain ⟨f, q, hf, hq, hend⟩ := hends
  have hwrite : ∀ n data, writeAt c n data = writeAt b n data :=
    writeAt_congr (congrArg Regs.wbase hregs) (congrArg Regs.wlimit hregs)
  have hple : takenOf c .afSearch = some t := (takenOf_congr (hc .ple (by decide)) _).trans ht
  obtain ⟨e, hte, hfin, hout⟩ := startEnding_takenOf hple f q (leInt 4 (position c.focus)) (afArea c sr detail)
  have hsame : ∀ {x : Fld}, x ∉ [.ple, .due] →
      Agree c (startEnding t f q (leInt 4 (position c.focus)) (afArea c sr detail) c) x := fun hx =>
    startEnding_frame t f q _ _ (Among.refl _) (Changes.refl _ c) _ hx
  have harea : afArea c sr detail = afArea b sr detail := by
    unfold afArea
    rw [hafu]
  rw [hb', hend]
  refine ⟨e, ?_, ?_, ?_, ?_, hte, hfin.trans hf, ?_⟩
  · exact (congrArg (fun a : Afu => { a with search := none }) (hsame (x := .afu) (by decide))).trans
      (congrArg (fun a : Afu => { a with search := none }) hafu)
  · exact (hsame (x := .regs) (by decide)).trans hregs
  · exact (hsame (x := .ntu) (by decide)).trans (hc .ntu (by decide))
  · exact (hsame (x := .focus) (by decide)).trans hfocus
  · rw [hout, hwrite, hwrite, hwrite, hq, hfocus, harea]

end Trace

/-- The answers to the trace's writes. -/
theorem traceResponses (s : State) (b : Block) (i : Nat) (acc : WriteAcc) (err : Bool) (hs : Settles s b)
    (h : b.afu.writes.find? (fun w => w.1 == i) = some (i, acc)) :
    let left := b.afu.writes.filter (fun w => w.1 != i)
    let answered := traceAnswered i acc err b
    ((∀ sr, b.afu.search = some sr → sr.ended = none) → Runs (.traceWriteDone i ⟨false, err⟩) s answered) ∧
    (∀ (sr : Search) (fin : FinalState) (o detail : PlanOutcome), b.afu.search = some sr →
      sr.ended = some (fin, o, detail) →
      (left ≠ [] → Runs (.traceWriteDone i ⟨false, err⟩) s answered) ∧
      ∀ t : Taken, left = [] → takenOf b .afSearch = some t → t.ending = .running ∨ t.ending = .cancelling →
        let cancelled := decide (t.ending = .cancelling)
        ∃ (b' : Block) (e : EndingProg),
          Runs (.traceWriteDone i ⟨false, err⟩) s b' ∧ b'.afu = { answered.afu with search := none } ∧
          b'.regs = answered.regs ∧ b'.ntu = answered.ntu ∧ b'.focus = b.focus ∧
          takenOf b' .afSearch = some { t with ending := .results e } ∧
          e.fin = (if cancelled then .cancelled else fin) ∧
          (ResultWrite.outcome, writeAt b (t.offset + 3) (leBytes 1 (if cancelled then PlanOutcome.ok else o).code)) ∈
            e.outstanding ∧
          (ResultWrite.word, writeAt b (t.offset + 12) (leInt 4 (position b.focus))) ∈ e.outstanding ∧
          (ResultWrite.area, writeAt b (t.offset + 40) (afArea answered sr detail)) ∈ e.outstanding) := by
  intro left answered
  have hrun := (runs_traceWriteDone i err hs).of_eq (traceResponse_eq h)
  have hkept : answered.afu.search = b.afu.search ∧ answered.afu.writes = left ∧ answered.ple = b.ple ∧
      answered.focus = b.focus ∧ answered.regs.wbase = b.regs.wbase ∧ answered.regs.wlimit = b.regs.wlimit := by
    unfold answered traceAnswered
    cases acc.fault err <;> exact ⟨rfl, rfl, rfl, rfl, rfl, rfl⟩
  obtain ⟨hsearch, hwrites, hple, hfocus, hbase, hlimit⟩ := hkept
  refine ⟨fun hn => hrun.of_eq (searchReport_running fun sr hsr => hn sr (hsearch ▸ hsr)),
    fun sr fin o detail hsr he => ⟨fun hw => hrun.of_eq (searchReport_waits (hwrites.symm ▸ hw)), fun t hw ht hr => ?_⟩⟩
  intro cancelled
  obtain ⟨e, hafu, hregs, hntu, hf, hte, hfin, hout⟩ := searchReport_last (hsearch.trans hsr) he (hwrites.trans hw)
    ((takenOf_congr hple _).trans ht) hr
  have hmem : ∀ x ∈ [(ResultWrite.outcome,
        writeAt b (t.offset + 3) (leBytes 1 (if cancelled then PlanOutcome.ok else o).code)),
      (.word, writeAt b (t.offset + 12) (leInt 4 (position b.focus))),
      (.area, writeAt b (t.offset + 40) (afArea answered sr detail))], x ∈ e.outstanding := by
    intro x hx
    rw [hout, writeAt_congr hbase hlimit, writeAt_congr hbase hlimit, writeAt_congr hbase hlimit, hfocus]
    exact hx
  exact ⟨_, e, hrun, hafu, hregs, hntu, hf.trans hfocus, hte, hfin, hmem _ List.mem_cons_self,
    hmem _ (List.mem_cons_of_mem _ List.mem_cons_self),
    hmem _ (List.mem_cons_of_mem _ (List.mem_cons_of_mem _ List.mem_cons_self))⟩

end Sys2Proof.Machine
end

section
/-!
PROOFS. A table set: what its blocks hold, and the validation of Table 37 (R99).
-/

namespace Sys2Proof.Machine

/-! ### The lowest index that fails, and the first check that has one -/

/-- The answer of one check: the lowest index that fails it, none if none does. -/
def Lowest (P : Nat → Prop) (o : Option Nat) : Prop := ∀ i, o = some i ↔ P i ∧ ∀ j, j < i → ¬P j

theorem Lowest.never {P : Nat → Prop} (h : Lowest P none) (i : Nat) : ¬P i := by
  induction i using Nat.strong_induction_on with
  | _ i ih => exact fun hi => nomatch (h i).2 ⟨hi, ih⟩

theorem Lowest.congr {P Q : Nat → Prop} {o : Option Nat} (h : Lowest P o) (hpq : ∀ i, Q i ↔ P i) : Lowest Q o := by
  intro i
  simp only [hpq]
  exact h i

/-- The answer of the checks from number c on. -/
def ChecksFrom (fails : Nat → Nat → Prop) (c : Nat) (r : Option (Nat × Nat)) : Prop :=
  ∀ d i, r = some (d, i) ↔
    c ≤ d ∧ fails d i ∧ (∀ j, j < i → ¬fails d j) ∧ ∀ e j, c ≤ e → e < d → ¬fails e j

theorem ChecksFrom.cons {fails : Nat → Nat → Prop} {c : Nat} {o : Option Nat} {r : Option (Nat × Nat)}
    (ho : Lowest (fails c) o) (hr : ChecksFrom fails (c + 1) r) :
    ChecksFrom fails c ((o.map fun i => (c, i)) <|> r) := by
  intro d i
  cases o with
  | none =>
    have hnever := ho.never
    refine (hr d i).trans ⟨fun ⟨hd, hf, hl, hb⟩ => ⟨by omega, hf, hl, fun e j he hed => ?_⟩,
      fun ⟨hd, hf, hl, hb⟩ => ⟨?_, hf, hl, fun e j he hed => hb e j (by omega) hed⟩⟩
    · rcases Nat.eq_or_lt_of_le he with rfl | he
      · exact hnever j
      · exact hb e j he hed
    · rcases Nat.eq_or_lt_of_le hd with rfl | hd
      · exact absurd hf (hnever i)
      · exact hd
  | some k =>
    obtain ⟨hk, hlow⟩ := (ho k).1 rfl
    refine ⟨fun h => ?_, fun ⟨hd, hf, hl, hb⟩ => ?_⟩
    · obtain ⟨rfl, rfl⟩ : c = d ∧ k = i := by simpa using h
      exact ⟨Nat.le_refl c, hk, hlow, fun e j he hed => absurd he (Nat.not_le.2 hed)⟩
    · rcases Nat.eq_or_lt_of_le hd with rfl | hd
      · obtain rfl : k = i := Option.some.inj ((ho i).2 ⟨hf, hl⟩)
        rfl
      · exact absurd hk (hb c k (Nat.le_refl c) hd)

theorem ChecksFrom.nil {fails : Nat → Nat → Prop} {c : Nat} (h : ∀ d i, c ≤ d → ¬fails d i) : ChecksFrom fails c none :=
  fun d i => ⟨nofun, fun ⟨hd, hf, _⟩ => absurd hf (h d i hd)⟩

theorem ChecksFrom.last {fails : Nat → Nat → Prop} {c : Nat} {o : Option Nat} (ho : Lowest (fails c) o)
    (h : ∀ d i, c + 1 ≤ d → ¬fails d i) : ChecksFrom fails c (o.map fun i => (c, i)) := by
  have hcons := ChecksFrom.cons ho (ChecksFrom.nil h)
  rwa [show ((o.map fun i => (c, i)) <|> none) = o.map fun i => (c, i) by cases o <;> rfl] at hcons

/-! ### The answers of the single checks -/

theorem lowest_findIdx? {α : Type} {p : α → Bool} {l : List α} {P : Nat → Prop}
    (h : ∀ i, P i ↔ ∃ hi : i < l.length, p l[i] = true) : Lowest P (l.findIdx? p) := by
  intro i
  rw [List.findIdx?_eq_some_iff_getElem]
  refine ⟨fun ⟨hi, hp, hlow⟩ => ⟨(h i).2 ⟨hi, hp⟩, fun j hj hP => ?_⟩, fun ⟨hP, hlow⟩ => ?_⟩
  · obtain ⟨_, hpj⟩ := (h j).1 hP
    exact hlow j hj hpj
  · obtain ⟨hi, hp⟩ := (h i).1 hP
    exact ⟨hi, hp, fun j hj hpj => hlow j hj ((h j).2 ⟨Nat.lt_trans hj hi, hpj⟩)⟩

/-- Judgements in the order of their numbers: the first that fails is the lowest. -/
theorem lowest_firstFailed {l : List (Nat × Bool)} (h : l.Pairwise fun x y => x.1 < y.1) :
    Lowest (fun i => (i, false) ∈ l) (firstFailed l) := by
  induction l with
  | nil => exact fun i => ⟨nofun, fun ⟨hi, _⟩ => nomatch hi⟩
  | cons x l ih =>
    obtain ⟨hx, hl⟩ := List.pairwise_cons.1 h
    obtain ⟨n, v⟩ := x
    intro i
    cases v with
    | false =>
      refine ⟨fun hi => ?_, fun ⟨hi, hlow⟩ => ?_⟩
      · obtain rfl : n = i := Option.some.inj hi
        refine ⟨List.mem_cons_self, fun j hj hm => ?_⟩
        rcases List.mem_cons.1 hm with hm | hm
        · exact absurd (congrArg Prod.fst hm) (Nat.ne_of_lt hj)
        · exact absurd (hx _ hm) (Nat.not_lt.2 (Nat.le_of_lt hj))
      · rcases List.mem_cons.1 hi with hm | hm
        · exact congrArg (fun y => some y.1) hm.symm
        · exact absurd List.mem_cons_self (hlow n (hx _ hm))
    | true =>
      have hmem : ∀ j, (j, false) ∈ (n, true) :: l ↔ (j, false) ∈ l := by simp
      refine (ih hl i).trans ?_
      simp only [hmem]

/-- Check 1 over the nodes j to j + n - 1 of a map, each judged against the one before it. -/
theorem nodesAscend_eq (g : Nat → Node) (n j i : Nat) :
    nodesAscend j (g (j - 1)) ((List.range' j n).map g) = some i ↔
      j ≤ i ∧ i < j + n ∧ (g i).p ≤ (g (i - 1)).p ∧ ∀ k, j ≤ k → k < i → ¬(g k).p ≤ (g (k - 1)).p := by
  induction n generalizing j with
  | zero => exact ⟨nofun, fun ⟨h1, h2, _⟩ => absurd h1 (by omega)⟩
  | succ n ih =>
    rw [List.range'_succ, List.map_cons, nodesAscend]
    by_cases h : (g j).p ≤ (g (j - 1)).p
    · rw [if_pos h]
      refine ⟨fun hi => ?_, fun ⟨h1, _, _, h4⟩ => ?_⟩
      · obtain rfl : j = i := Option.some.inj hi
        exact ⟨Nat.le_refl j, by omega, h, fun k hk hkj => absurd hk (by omega)⟩
      · rcases Nat.eq_or_lt_of_le h1 with rfl | h1
        · rfl
        · exact absurd h (h4 j (Nat.le_refl j) h1)
    · rw [if_neg h, show g j = g (j + 1 - 1) from rfl, ih]
      refine ⟨fun ⟨h1, h2, h3, h4⟩ => ⟨by omega, by omega, h3, fun k hk hki => ?_⟩,
        fun ⟨h1, h2, h3, h4⟩ => ⟨?_, by omega, h3, fun k hk hki => h4 k (by omega) hki⟩⟩
      · rcases Nat.eq_or_lt_of_le hk with rfl | hk
        · exact h
        · exact h4 k hk hki
      · rcases Nat.eq_or_lt_of_le h1 with rfl | h1
        · exact absurd h3 h
        · exact h1

theorem lowest_checkAscent (bs : List Byte) :
    Lowest (fun i => 1 ≤ i ∧ i < 33 ∧ s16 bs (16 * i) ≤ s16 bs (16 * (i - 1))) (checkAscent (parseNodes bs)) := by
  intro i
  refine (nodesAscend_eq (nodeAt bs) 32 1 i).trans
    ⟨fun ⟨h1, h2, h3, h4⟩ => ⟨⟨h1, h2, h3⟩, fun j hj ⟨hj1, _, hj3⟩ => h4 j hj1 hj hj3⟩,
      fun ⟨⟨h1, h2, h3⟩, h4⟩ => ⟨h1, h2, h3, fun k hk hki hp => h4 k hki ⟨hk, by omega, hp⟩⟩⟩

theorem lowest_checkNodes (bs : List Byte) :
    Lowest (fun i => i < 33 ∧ (u16 bs (16 * i + 4) = 0 ∨ 96 < u8 bs (16 * i + 6))) (checkNodes (parseNodes bs)) := by
  refine lowest_findIdx? fun i => ?_
  simp [parseNodes, Config.nodeCount, nodeAt]

/-! ### The judgements of an axis block -/

theorem u8_le (bs : List Byte) (i : Nat) : u8 bs i ≤ 255 := Nat.le_of_lt_succ (BitVec.isLt _)

theorem inRange_false {lo hi v : Nat} : false = inRange lo hi v ↔ v < lo ∨ hi < v := by
  unfold inRange
  simp only [eq_comm (a := false), Bool.and_eq_false_iff, decide_eq_false_iff_not, Nat.not_le]

theorem isFlag_false {v : Nat} : false = isFlag v ↔ 1 < v := by
  unfold isFlag
  simp only [eq_comm (a := false), decide_eq_false_iff_not, Nat.not_le]

/-- The rows of Table 31 that a block fails, by their numbers; the others hold of every byte. -/
def RowFails (zoom : Prop) (a : AxisBlock) (i : Nat) : Prop :=
  let out := fun (lo hi v : Nat) => v < lo ∨ hi < v
  i = 1 ∧ out 2 40 a.period ∨ i = 2 ∧ out 1 15 a.filter ∨
  i = 3 ∧ (out 1 32767 a.d1 ∨ out 1 32767 a.d2 ∨ out 1 32767 a.d3) ∨ i = 5 ∧ out 1 255 a.wst ∨
  i = 7 ∧ out 1 63 a.settleTime ∨ i = 8 ∧ out 1 65535 a.moveTimeout ∨ i = 9 ∧ out 2 63 a.stallPeriods ∨
  i = 12 ∧ 32767 < a.hardMargin ∨ i = 13 ∧ 7 < a.supplyLevel ∨ i = 14 ∧ 1 < a.ref.direction ∨
  i = 15 ∧ 1 < a.ref.edge ∨ i = 16 ∧ out 1 255 a.ref.duty ∨ i = 17 ∧ out 1 65535 a.ref.travel ∨
  i = 19 ∧ ¬zoom ∧ out 1 4095 a.trackStep

/-- The orders that a block fails, by their numbers. -/
def OrderFails (zoom : Prop) (a : AxisBlock) (i : Nat) : Prop :=
  i = 1 ∧ ¬(a.d1 < a.d2 ∧ a.d2 < a.d3) ∨ i = 2 ∧ ¬(a.duty1 ≤ a.duty2 ∧ a.duty2 ≤ a.duty3 ∧ a.duty3 ≤ a.duty4) ∨
  i = 3 ∧ a.wst < a.tolerance ∨ i = 4 ∧ zoom ∧ a.hi ≤ a.lo

/-- The fields of a block that take every byte. -/
structure BytesOk (a : AxisBlock) : Prop where
  duties : a.duty1 ≤ 255 ∧ a.duty2 ≤ 255 ∧ a.duty3 ≤ 255 ∧ a.duty4 ≤ 255
  tolerance : a.tolerance ≤ 255
  stallDuty : a.stallDuty ≤ 255

theorem parseAxisBlock_bytesOk (bs : List Byte) : BytesOk (parseAxisBlock bs) :=
  ⟨⟨u8_le _ _, u8_le _ _, u8_le _ _, u8_le _ _⟩, u8_le _ _, u8_le _ _⟩

theorem mem_blockRows {ax : Axis} {zoom : Prop} {a : AxisBlock} (hz : zoom ↔ ax = .zoom) (ha : BytesOk a) (i : Nat) :
    RowFails zoom a i ↔ (i, false) ∈ blockRows ax a := by
  obtain ⟨⟨h1, h2, h3, h4⟩, h5, h6⟩ := ha
  have hand : ∀ x y : Bool, (false = (x && y)) ↔ false = x ∨ false = y := by decide
  have hor : ∀ x y : Bool, (false = (x || y)) ↔ false = x ∧ false = y := by decide
  have hax : (false = (ax == .zoom)) ↔ ¬zoom := by
    rw [hz]
    cases ax <;> decide
  simp only [RowFails, blockRows, List.mem_cons, Prod.mk.injEq, List.not_mem_nil, or_false, hand, hor, hax, inRange_false,
    isFlag_false]
  simp only [Nat.not_lt.2 h1, Nat.not_lt.2 h2, Nat.not_lt.2 h3, Nat.not_lt.2 h4, Nat.not_lt.2 h5, Nat.not_lt.2 h6,
    Nat.not_lt_zero, false_or, or_self, and_false, Bool.false_eq_true, or_assoc]

theorem lowest_blockRows {ax : Axis} {zoom : Prop} {a : AxisBlock} (hz : zoom ↔ ax = .zoom) (ha : BytesOk a) :
    Lowest (RowFails zoom a) (firstFailed (blockRows ax a)) :=
  (lowest_firstFailed (by simp [blockRows])).congr (mem_blockRows hz ha)

theorem mem_blockOrders {ax : Axis} {zoom : Prop} (a : AxisBlock) (hz : zoom ↔ ax = .zoom) (i : Nat) :
    OrderFails zoom a i ↔ (i, false) ∈ blockOrders ax a := by
  have hfocus : ax ≠ .focus ↔ zoom := by
    rw [hz]
    cases ax <;> decide
  simp only [OrderFails, blockOrders, List.mem_cons, Prod.mk.injEq, List.not_mem_nil, or_false, eq_comm (a := false),
    Bool.and_eq_false_iff, Bool.or_eq_false_iff, decide_eq_false_iff_not, beq_eq_false_iff_ne, hfocus, Nat.not_le, Int.not_lt,
    not_and_or, Nat.not_lt, or_assoc]

theorem lowest_blockOrders {ax : Axis} {zoom : Prop} (a : AxisBlock) (hz : zoom ↔ ax = .zoom) :
    Lowest (OrderFails zoom a) (firstFailed (blockOrders ax a)) :=
  (lowest_firstFailed (by simp [blockOrders])).congr (mem_blockOrders a hz)

theorem lowest_ite (P : Prop) [Decidable P] : Lowest (fun i => i = 0 ∧ P) (if P then some 0 else none) := by
  intro i
  by_cases h : P
  · rw [if_pos h]
    refine ⟨fun hi => ?_, fun ⟨⟨hi, _⟩, _⟩ => congrArg some hi.symm⟩
    obtain rfl : 0 = i := Option.some.inj hi
    exact ⟨⟨rfl, h⟩, nofun⟩
  · rw [if_neg h]
    exact ⟨nofun, fun ⟨⟨_, hP⟩, _⟩ => absurd hP h⟩

/-! ### The weights -/

theorem parseWeights_flatten (bs : List Byte) : (parseWeights bs).flatten = (List.range 256).map (u8 bs) := by
  have hsplit : List.range 256 = List.range 64 ++ ((List.range 64).map (64 + ·) ++
      ((List.range 64).map (128 + ·) ++ (List.range 64).map (192 + ·))) := by
    rw [show 256 = 64 + (64 + (64 + 64)) from rfl, List.range_add, List.range_add, List.range_add]
    simp [Function.comp_def, ← Nat.add_assoc]
  rw [hsplit]
  unfold parseWeights
  rw [show List.range 4 = [0, 1, 2, 3] from rfl]
  simp [Function.comp_def]

theorem lowest_checkWeights (bs : List Byte) :
    Lowest (fun i => i < 256 ∧ 15 < u8 bs i) (checkWeights (parseWeights bs)) := by
  unfold checkWeights
  rw [parseWeights_flatten]
  refine lowest_findIdx? fun i => ?_
  simp

theorem lowest_checkWeightSums (bs : List Byte) :
    Lowest (fun i => i < 4 ∧ ∀ j, j < 64 → u8 bs (64 * i + j) = 0) (checkWeightSums (parseWeights bs)) := by
  refine lowest_findIdx? fun i => ?_
  simp [parseWeights]

/-! ### Validation -/

/-- The checks of Table 37 that a table set of the blocks m, z, f and w fails, with the index of each failure. -/
def CheckFails (m w : List Byte) (t : Tables) (c i : Nat) : Prop :=
  c = 1 ∧ 1 ≤ i ∧ i < 33 ∧ s16 m (16 * i) ≤ s16 m (16 * (i - 1)) ∨
  c = 2 ∧ i < 33 ∧ (u16 m (16 * i + 4) = 0 ∨ 96 < u8 m (16 * i + 6)) ∨
  c = 3 ∧ RowFails True t.zoomBlk i ∨ c = 4 ∧ OrderFails True t.zoomBlk i ∨
  c = 5 ∧ RowFails False t.focusBlk i ∨ c = 6 ∧ OrderFails False t.focusBlk i ∨
  c = 7 ∧ i = 0 ∧ min t.zoomBlk.hi (s16 m 512) < max t.zoomBlk.lo (s16 m 0) ∨
  c = 8 ∧ i < 256 ∧ 15 < u8 w i ∨ c = 9 ∧ i < 4 ∧ ∀ j, j < 64 → u8 w (64 * i + j) = 0

theorem CheckFails.number {m w : List Byte} {t : Tables} {c i : Nat} (h : CheckFails m w t c i) : 1 ≤ c ∧ c ≤ 9 := by
  rcases h with ⟨rfl, -⟩ | ⟨rfl, -⟩ | ⟨rfl, -⟩ | ⟨rfl, -⟩ | ⟨rfl, -⟩ | ⟨rfl, -⟩ | ⟨rfl, -⟩ | ⟨rfl, -⟩ | ⟨rfl, -⟩ <;>
    decide

theorem validateTables_iff (m z f w : List Byte) (margin : Nat) (c i : Nat) :
    let t := parseTableSet [m, z, f, w] margin
    validateTables t = some (c, i) ↔
      CheckFails m w t c i ∧ (∀ j, j < i → ¬CheckFails m w t c j) ∧ ∀ d j, d < c → ¬CheckFails m w t d j := by
  intro t
  have hz : BytesOk t.zoomBlk := parseAxisBlock_bytesOk z
  have hf : BytesOk t.focusBlk := parseAxisBlock_bytesOk f
  have hzoom : True ↔ Axis.zoom = .zoom := by decide
  have hfocus : False ↔ Axis.focus = .zoom := by decide
  have hcross : (if min t.zoomBlk.hi (lastPos t.nodes) < max t.zoomBlk.lo (firstPos t.nodes) then some (7, 0) else none) =
      (if min t.zoomBlk.hi (s16 m 512) < max t.zoomBlk.lo (s16 m 0) then some 0 else none).map fun i => (7, i) := by
    change (if min t.zoomBlk.hi (s16 m 512) < max t.zoomBlk.lo (s16 m 0) then some (7, 0) else none) = _
    split <;> rfl
  have hall : ChecksFrom (CheckFails m w t) 1 (validateTables t) := by
    unfold validateTables
    rw [hcross]
    refine .cons ((lowest_checkAscent m).congr fun i => by simp [CheckFails]) ?_
    refine .cons ((lowest_checkNodes m).congr fun i => by simp [CheckFails]) ?_
    refine .cons ((lowest_blockRows hzoom hz).congr fun i => by simp [CheckFails]) ?_
    refine .cons ((lowest_blockOrders t.zoomBlk hzoom).congr fun i => by simp [CheckFails]) ?_
    refine .cons ((lowest_blockRows hfocus hf).congr fun i => by simp [CheckFails]) ?_
    refine .cons ((lowest_blockOrders t.focusBlk hfocus).congr fun i => by simp [CheckFails]) ?_
    refine .cons ((lowest_ite _).congr fun i => by simp [CheckFails]) ?_
    refine .cons ((lowest_checkWeights w).congr fun i => by simp [CheckFails]) ?_
    refine .last ((lowest_checkWeightSums w).congr fun i => by simp [CheckFails]) fun d i hd h => ?_
    exact absurd h.number.2 (Nat.not_le.2 hd)
  refine (hall c i).trans ⟨fun ⟨_, hc, hlow, hbefore⟩ => ⟨hc, hlow, fun d j hd h => hbefore d j h.number.1 hd h⟩,
    fun ⟨hc, hlow, hbefore⟩ => ⟨hc.number.1, hc, hlow, fun d j _ hd => hbefore d j hd⟩⟩

/-! ### What the blocks hold -/

theorem parseTableSet_nodes (m z f w : List Byte) (margin : Nat) (j : Nat) (h : j < 33) :
    (parseTableSet [m, z, f, w] margin).nodes[j]? =
      some
        { p := s16 m (16 * j), focal := u16 m (16 * j + 2), hand := u16 m (16 * j + 4), cMax := u8 m (16 * j + 6),
          gain := u16 m (16 * j + 8), inf := s16 m (16 * j + 10), near := s16 m (16 * j + 12) } := by
  change ((List.range 33).map (nodeAt m))[j]? = _
  rw [List.getElem?_map, List.getElem?_range h]
  rfl

theorem parseTableSet_weights (m z f w : List Byte) (margin : Nat) (i j : Nat) (hi : i < 4) (hj : j < 64) :
    ((parseTableSet [m, z, f, w] margin).weights[i]?.bind fun l => l[j]?) = some (u8 w (64 * i + j)) := by
  change ((parseWeights w)[i]?.bind fun l => l[j]?) = _
  unfold parseWeights
  rw [List.getElem?_map, List.getElem?_range hi]
  change ((List.range 64).map fun z => u8 w (64 * i + z))[j]? = _
  rw [List.getElem?_map, List.getElem?_range hj]
  rfl

/-- Settles O51. -/
theorem tablesAndTraceResponses : Obligations.TablesAndTraceResponses := by
  refine ⟨tablesReads, swapTables_eq, fun s b n w t hs hstream h => ?_, fun m z f w margin => ?_,
    fun s b i acc err hs h => traceResponses s b i acc err hs h⟩
  · exact ⟨_, runs_frameSync n w hs, frameSync_swaps h hstream n w⟩
  · intro t
    refine ⟨rfl, ?_, ?_, parseTableSet_nodes m z f w margin, ?_, parseTableSet_weights m z f w margin, ?_⟩
    · exact List.length_map ..
    · exact List.length_map ..
    · rintro x (_ | ⟨_, _ | ⟨_, hx⟩⟩)
      · rfl
      · rfl
      · exact nomatch hx
    · intro out row order fails
      exact validateTables_iff m z f w margin

end Sys2Proof.Machine
end

section
/-!
PROOFS. A sample of the focus search and what follows it: the trace, the phases, the endings, and continuous AF
(R115 to R128).
-/

namespace Sys2Proof.Machine

/-! ### What the search's moves leave of the trace -/

/-- The trace, its best sample and the writes in flight. -/
def traceOf (a : Afu) : List Sample × Option Nat × List (Nat × WriteAcc) := (a.trace, a.best, a.writes)

theorem SameButMarks.traceOf {a c : Afu} (h : SameButMarks a c) : traceOf c = traceOf a := by
  rw [h.1]
  rfl

theorem startMove_focus_trace (g : Giver) (t : Int) (b : Block) :
    traceOf (startMove .focus g t b).1.afu = traceOf b.afu := by
  by_cases hr : b.focus.referenced = false
  · rw [startMove_not_referenced (ax := .focus) hr]
  · have hr := Bool.eq_true_of_not_eq_false hr
    cases hs : supplyIsLow b .focus with
    | true =>
      rw [startMove_supply_low (ax := .focus) hr hs]
      rfl
    | false =>
      rw [startMove_started (ax := .focus) hr hs]
      exact (putAxis_focus_marks (by simp [startedAxis]) b).traceOf

theorem stopTracking_trace (b : Block) : traceOf (stopTracking b).afu = traceOf b.afu := by
  unfold stopTracking
  split
  · exact (brake_focus_marks false b).traceOf
  · rfl

theorem giveSearchMove_started {sr : Search} {t : Int} {b h : Block} (hm : startMove .focus .search t b = (h, none)) :
    giveSearchMove sr t b = setSearch (some { sr with moving := true, moveTarget := h.focus.target }) h := by
  unfold giveSearchMove
  dsimp only
  rw [hm]

theorem giveSearchMove_refused {sr : Search} {t : Int} {b h : Block} {o : PlanOutcome}
    (hm : startMove .focus .search t b = (h, some o)) :
    giveSearchMove sr t b = searchEnd sr .failed o o (stopTracking h) := by
  unfold giveSearchMove
  dsimp only
  rw [hm]

theorem giveSearchMove_trace (sr : Search) (t : Int) (b : Block) :
    traceOf (giveSearchMove sr t b).afu = traceOf b.afu := by
  have hmove := startMove_focus_trace .search t b
  rcases hr : startMove .focus .search t b with ⟨h, _ | o⟩ <;> rw [hr] at hmove
  · rw [giveSearchMove_started hr]
    exact hmove
  · rw [giveSearchMove_refused hr, (searchEnd_keeps sr (fin := .failed) nofun o o (stopTracking h)).2]
    exact (stopTracking_trace h).trans hmove

/-! ### A sample (R115, R116, R119) -/

/-- The sample that a clean frame makes. -/
def sampleOf (sr : Search) (r : StatsRecord) : Sample :=
  { position := sr.moveTarget, value := r.focus, frame := r.k, phase := sr.phase }

/-- The block with the sample in the trace, judged and written. -/
def sampled (sr : Search) (r : StatsRecord) (b : Block) : Block :=
  let i := b.afu.trace.length
  let below :=
    if bestValue b.afu < r.focus then 0 else if r.focus * 16 < bestValue b.afu * sr.prm.drop then b.afu.below + 1 else 0
  { b with afu := { b.afu with
    trace := b.afu.trace ++ [sampleOf sr r]
    best := if b.afu.best = none ∨ bestValue b.afu < r.focus then some i else b.afu.best
    below := if sr.phase = .coarse then below else b.afu.below
    writes := if sr.prm.trace = 0 ∨ b.afu.traceStopped = true then b.afu.writes
      else b.afu.writes ++ [(i, writeAt b (sr.prm.trace + 16 * i) (sampleBytes (sampleOf sr r)))] } }

/-- The write of a sample that has just joined the trace. -/
theorem writeSample_joined {sr : Search} {x : Sample} {b : Block} {l : List Sample} (h : b.afu.trace = l ++ [x]) :
    writeSample sr x b =
      { b with afu := { b.afu with
        writes := if sr.prm.trace = 0 ∨ b.afu.traceStopped = true then b.afu.writes
          else b.afu.writes ++ [(l.length, writeAt b (sr.prm.trace + 16 * l.length) (sampleBytes x))] } } := by
  have hlen : b.afu.trace.length - 1 = l.length := by simp [h]
  unfold writeSample
  rw [hlen]
  by_cases hc : sr.prm.trace = 0 ∨ b.afu.traceStopped = true
  · rw [if_pos hc, if_pos hc]
  · rw [if_neg hc, if_neg hc]

theorem sampled_eq (sr : Search) (r : StatsRecord) (b : Block) :
    writeSample sr (sampleOf sr r)
      (setAfu (fun a => { recordSample (sampleOf sr r) a with
        below := match sr.phase with
          | .coarse => belowAfter b.afu sr.prm.drop r.focus
          | _ => b.afu.below }) b) = sampled sr r b := by
  have hbelow : (match sr.phase with
      | .coarse => belowAfter b.afu sr.prm.drop r.focus
      | _ => b.afu.below) =
      if sr.phase = .coarse then
        (if bestValue b.afu < r.focus then 0 else if r.focus * 16 < bestValue b.afu * sr.prm.drop then b.afu.below + 1 else 0)
      else b.afu.below := by
    cases sr.phase <;> rfl
  rw [hbelow]
  exact writeSample_joined rfl

theorem searchSample_eq (sr : Search) (r : StatsRecord) (b : Block) :
    searchSample sr r b =
      if 32 ≤ b.afu.trace.length + 1 then
        enterFinal { sr with recorded := some .traceFull } (bestPosition (sampled sr r b).afu) (sampled sr r b)
      else if sr.phase = .fine then fineNext sr sr.moveTarget (sampled sr r b)
      else coarseDecide sr sr.moveTarget (sampled sr r b) := by
  have hlen : (sampled sr r b).afu.trace.length = b.afu.trace.length + 1 := by simp [sampled]
  have hphase : ∀ c : Block,
      (match sr.phase with
        | .fine => fineNext sr sr.moveTarget c
        | _ => coarseDecide sr sr.moveTarget c) =
        if sr.phase = .fine then fineNext sr sr.moveTarget c else coarseDecide sr sr.moveTarget c := by
    intro c
    cases sr.phase <;> rfl
  rw [← hlen, ← hphase, ← sampled_eq]
  rfl

end Sys2Proof.Machine
end

section
/-!
PROOFS. The phases of the focus search, its final target and its endings, and a step of continuous AF (R119 to R128).
-/

namespace Sys2Proof.Machine

/-! ### The coarse and the fine range (R119, R120) -/

section Phases
variable {b : Block} {sr : Search} {p : Int}

theorem beyond_iff (dir x y : Int) : beyond dir x y = true ↔ 0 < (x - y) * dir := decide_eq_true_iff

theorem enterFine_eq (sr : Search) (b : Block) :
    let l := b.zmap.focusLim
    let span := sr.prm.coarse * b.afu.dir
    enterFine sr b =
      giveSearchMove
        { sr with
          phase := .fine, fineStart := max l.lo (min (bestPosition b.afu - span) l.hi)
          fineEnd := max l.lo (min (bestPosition b.afu + span) l.hi), fineIndex := 0 }
        (max l.lo (min (bestPosition b.afu - span) l.hi)) b := rfl

/-- The next coarse target passes the limit, or is not beyond the last sample once clamped. -/
def CoarsePast (b : Block) (sr : Search) (p : Int) : Prop :=
  let l := b.zmap.focusLim
  let n := p + sr.prm.coarse * b.afu.dir
  b.afu.dir = 1 ∧ l.hi < n ∨ b.afu.dir = -1 ∧ n < l.lo ∨ (max l.lo (min n l.hi) - p) * b.afu.dir ≤ 0

theorem coarseDecide_eq [Decidable (CoarsePast b sr p)] :
    coarseDecide sr p b =
      if b.afu.below = 2 then enterFine sr b
      else if CoarsePast b sr p then
        if b.afu.best = some (b.afu.trace.length - 1) then
          enterFinal { sr with recorded := some .edge } (bestPosition b.afu) b
        else enterFine sr b
      else giveSearchMove { sr with phase := .coarse } (p + sr.prm.coarse * b.afu.dir) b := by
  have hpast : ((decide (b.zmap.focusLim.hi < p + sr.prm.coarse * b.afu.dir) && b.afu.dir == 1) ||
      (decide (p + sr.prm.coarse * b.afu.dir < b.zmap.focusLim.lo) && b.afu.dir == -1) ||
      !beyond b.afu.dir (clamp (p + sr.prm.coarse * b.afu.dir) b.zmap.focusLim.lo b.zmap.focusLim.hi) p) = true ↔
      CoarsePast b sr p := by
    simp only [CoarsePast, Bool.or_eq_true, Bool.and_eq_true, decide_eq_true_eq, beq_iff_eq, Bool.not_eq_true',
      Bool.eq_false_iff, ne_eq, beyond_iff, Int.not_lt, clamp, or_assoc, and_comm]
  unfold coarseDecide
  dsimp only [limitsOf]
  by_cases h2 : b.afu.below = 2
  · rw [if_pos h2, if_pos h2]
  · rw [if_neg h2, if_neg h2]
    by_cases hp : CoarsePast b sr p
    · rw [if_pos hp]
      exact if_pos (hpast.2 hp)
    · rw [if_neg hp]
      exact if_neg fun hc => hp (hpast.1 hc)

/-- The next fine position passes the end of the range, or is not beyond the last sample once clamped. -/
def FineDone (b : Block) (sr : Search) (p : Int) : Prop :=
  let l := b.zmap.focusLim
  let f := sr.fineStart + ((sr.fineIndex + 1 : Nat) : Int) * (sr.prm.fine * b.afu.dir)
  0 < (f - sr.fineEnd) * b.afu.dir ∨ (max l.lo (min f l.hi) - p) * b.afu.dir ≤ 0

theorem fineNext_eq [Decidable (FineDone b sr p)] :
    fineNext sr p b =
      if FineDone b sr p then finishFine sr b
      else
        giveSearchMove { sr with fineIndex := sr.fineIndex + 1 }
          (sr.fineStart + ((sr.fineIndex + 1 : Nat) : Int) * (sr.prm.fine * b.afu.dir)) b := by
  have hdone : (beyond b.afu.dir (sr.fineStart + ((sr.fineIndex + 1 : Nat) : Int) * (sr.prm.fine * b.afu.dir)) sr.fineEnd ||
      !beyond b.afu.dir (clamp (sr.fineStart + ((sr.fineIndex + 1 : Nat) : Int) * (sr.prm.fine * b.afu.dir))
        b.zmap.focusLim.lo b.zmap.focusLim.hi) p) = true ↔ FineDone b sr p := by
    simp only [FineDone, Bool.or_eq_true, Bool.not_eq_true', Bool.eq_false_iff, ne_eq, beyond_iff, Int.not_lt, clamp]
  unfold fineNext
  dsimp only [limitsOf]
  by_cases hp : FineDone b sr p
  · rw [if_pos hp]
    exact if_pos (hdone.2 hp)
  · rw [if_neg hp]
    exact if_neg fun hc => hp (hdone.1 hc)

end Phases

/-! ### The final target (R121) -/

section Final
variable {l : List Sample} {m : Sample}

/-- The choice between the best so far and the next sample. -/
def better (acc : Option Sample) (x : Sample) : Option Sample :=
  match acc with
  | none => some x
  | some y => if y.value < x.value then some x else acc

theorem fineBest_eq (l : List Sample) : fineBest l = l.foldl better none := rfl

theorem foldl_better_keeps (h : ∀ x ∈ l, x.value ≤ m.value) : l.foldl better (some m) = some m := by
  induction l with
  | nil => rfl
  | cons x l ih =>
    have hx : better (some m) x = some m := if_neg (Nat.not_lt.2 (h x List.mem_cons_self))
    rw [List.foldl_cons, hx]
    exact ih fun y hy => h y (List.mem_cons_of_mem _ hy)

theorem foldl_better_below {n : Nat} {acc : Option Sample} (ha : ∀ y, acc = some y → y.value < n)
    (h : ∀ x ∈ l, x.value < n) : ∀ y, l.foldl better acc = some y → y.value < n := by
  induction l generalizing acc with
  | nil => exact ha
  | cons x l ih =>
    rw [List.foldl_cons]
    refine ih (fun y hy => ?_) fun y hy => h y (List.mem_cons_of_mem _ hy)
    have hx := h x List.mem_cons_self
    cases acc with
    | none => exact Option.some.inj hy ▸ hx
    | some z =>
      unfold better at hy
      dsimp only at hy
      split at hy
      · exact Option.some.inj hy ▸ hx
      · exact ha y hy

/-- The sample of greatest value, the first taken on equal values, is the best. -/
theorem fineBest_first {i : Nat} (hm : l[i]? = some m) (hmax : ∀ x ∈ l, x.value ≤ m.value)
    (hfirst : ∀ (j : Nat) (x : Sample), j < i → l[j]? = some x → x.value < m.value) : fineBest l = some m := by
  obtain ⟨hi, hmi⟩ := List.getElem?_eq_some_iff.1 hm
  have hsplit : l = l.take i ++ m :: l.drop (i + 1) := by
    rw [← hmi, List.getElem_cons_drop, List.take_append_drop]
  have hbefore : ∀ y, (l.take i).foldl better none = some y → y.value < m.value := by
    refine foldl_better_below nofun fun x hx => ?_
    obtain ⟨j, hj, hxj⟩ := List.mem_take_iff_getElem.1 hx
    exact hfirst j x (by omega) (List.getElem?_eq_some_iff.2 ⟨by omega, hxj⟩)
  have hat : better ((l.take i).foldl better none) m = some m := by
    unfold better
    split
    · rfl
    · next y hy => exact if_pos (hbefore y hy)
  rw [fineBest_eq, hsplit, List.foldl_append, List.foldl_cons, hat]
  exact foldl_better_keeps fun x hx => hmax x (List.mem_of_mem_drop hx)

theorem fineValueAt_some {x : Sample} (hn : (l.map (·.position)).Nodup) (hx : x ∈ l) :
    fineValueAt l x.position = some x.value := by
  have hfind : l.find? (fun y => y.position == x.position) = some x := by
    cases h : l.find? (fun y => y.position == x.position) with
    | none => exact absurd (beq_self_eq_true x.position) (by simpa using List.find?_eq_none.1 h x hx)
    | some y =>
      have hp : y.position = x.position := by simpa using List.find?_some h
      exact congrArg some (List.inj_on_of_nodup_map hn (List.mem_of_find?_eq_some h) hx hp)
  unfold fineValueAt
  rw [hfind]
  rfl

theorem fineValueAt_none {z : Int} (h : ∀ x ∈ l, x.position ≠ z) : fineValueAt l z = none := by
  have hfind : l.find? (fun y => y.position == z) = none :=
    List.find?_eq_none.2 fun x hx => by simpa using h x hx
  unfold fineValueAt
  rw [hfind]
  rfl

theorem vertexOffset_eq (fine : Nat) (a v c : Int) :
    vertexOffset fine a v c =
      let den := a - 2 * v + c
      if 0 ≤ den then 0
      else max (-((fine / 2 : Nat) : Int)) (min (((fine : Int) * (a - c)).tdiv (2 * den)) (fine / 2 : Nat)) := rfl

theorem vertexOffset_bounds (fine : Nat) (a v c : Int) :
    -((fine / 2 : Nat) : Int) ≤ vertexOffset fine a v c ∧ vertexOffset fine a v c ≤ (fine / 2 : Nat) := by
  rw [vertexOffset_eq]
  dsimp only
  split
  · omega
  · omega

end Final

/-- The final target of the fine range: the best sample, moved to the vertex if both its neighbours are in the trace. -/
theorem finishFine_eq {b : Block} {sr : Search} {m : Sample} (hm : fineBest (fineSamples b.afu) = some m) :
    let step : Int := sr.prm.fine * b.afu.dir
    (∀ a c, fineValueAt (fineSamples b.afu) (m.position - step) = some a →
      fineValueAt (fineSamples b.afu) (m.position + step) = some c →
      finishFine sr b =
        enterFinal { sr with offset := vertexOffset sr.prm.fine a m.value c }
          (m.position + vertexOffset sr.prm.fine a m.value c * b.afu.dir) b) ∧
    (fineValueAt (fineSamples b.afu) (m.position - step) = none ∨
        fineValueAt (fineSamples b.afu) (m.position + step) = none →
      finishFine sr b = enterFinal { sr with offset := 0 } m.position b) := by
  intro step
  have hoff : finishFine sr b =
      let off :=
        match fineValueAt (fineSamples b.afu) (m.position - step), fineValueAt (fineSamples b.afu) (m.position + step) with
        | some a, some c => vertexOffset sr.prm.fine a m.value c
        | _, _ => 0
      enterFinal { sr with offset := off } (m.position + off * b.afu.dir) b := by
    unfold finishFine
    dsimp only
    rw [hm] <;> rfl
  rw [hoff]
  refine ⟨fun a c ha hc => ?_, fun h => ?_⟩
  · rw [ha, hc]
  · have hzero : (match fineValueAt (fineSamples b.afu) (m.position - step),
          fineValueAt (fineSamples b.afu) (m.position + step) with
        | some a, some c => vertexOffset sr.prm.fine a m.value c
        | _, _ => 0) = 0 := by
      rcases h with h | h
      · rw [h]
      · rw [h]
        cases fineValueAt (fineSamples b.afu) (m.position - step) <;> rfl
    rw [hzero]
    dsimp only
    rw [Int.zero_mul, Int.add_zero]

/-! ### Endings (R116, R122, R124) -/

section Endings
variable {b : Block} {sr : Search}

theorem areaOf_pads {l : List Byte} (h : l.length = 17) : areaOf l = l ++ List.replicate 7 0#8 := by
  unfold areaOf reserved
  rw [List.take_append, h, List.take_of_length_le (by omega)]
  rfl

theorem afArea_eq (b : Block) (sr : Search) (d : PlanOutcome) :
    afArea b sr d =
      leInt 2 sr.finalTarget ++ leBytes 1 b.afu.trace.length ++ leBytes 1 b.afu.written ++ leBytes 4 (bestValue b.afu) ++
        leBytes 4 (minValue b.afu) ++ leBytes 1 (b.afu.best.getD 0) ++ leBytes 1 sr.phase.code ++ leInt 2 sr.offset ++
        leBytes 1 d.code ++ List.replicate 7 0#8 := by
  unfold afArea
  exact areaOf_pads (by simp)

/-- An ending with no trace write in flight is reported at once. -/
theorem searchEnd_now (hw : b.afu.writes = []) (fin : FinalState) (o d : PlanOutcome) :
    searchEnd sr fin o d b =
      setSearch none (endPlan .afSearch fin o (leInt 4 (position b.focus)) (afArea b sr d)
        { (if fin = .done then recomputeU b else b) with
          afu := { b.afu with search := some { sr with moving := false, ended := some (fin, o, d) } } }) := by
  by_cases hf : fin = .done
  · subst hf
    exact if_pos hw
  · rw [if_neg hf]
    exact (searchReport_reports
      (b := setSearch (some { sr with moving := false, ended := some (fin, o, d) }) b) rfl rfl hw hf).trans rfl

theorem searchMoveFailed_eq (hs : b.afu.search = some sr) (o d : PlanOutcome) :
    searchMoveFailed o d b = searchEnd sr .failed o d b := by
  unfold searchMoveFailed
  rw [hs]

theorem searchMoveDone_samples (hs : b.afu.search = some sr) (hp : sr.phase ≠ .final) :
    searchMoveDone b = setSearch (some { sr with moving := false }) b := by
  unfold searchMoveDone
  rw [hs]
  dsimp only
  cases h : sr.phase with
  | final => exact absurd h hp
  | start => rfl
  | coarse => rfl
  | fine => rfl

theorem searchMoveDone_final (hs : b.afu.search = some sr) (hp : sr.phase = .final) :
    searchMoveDone b = searchEnd sr .done (searchOutcome sr b.afu) .ok b := by
  unfold searchMoveDone
  rw [hs]
  dsimp only
  rw [hp]

theorem searchOutcome_recorded {q : PlanOutcome} (h : sr.recorded = some q) (a : Afu) : searchOutcome sr a = q := by
  unfold searchOutcome
  rw [h]

theorem searchOutcome_judged (h : sr.recorded = none) (a : Afu) :
    searchOutcome sr a =
      if minValue a < bestValue a ∧ minValue a * sr.prm.contrast ≤ bestValue a * 16 then .found else .lowContrast := by
  unfold searchOutcome
  rw [h]

end Endings

/-! ### Continuous AF (R127) -/

section Caf
variable {b : Block}

theorem cafFrame_next {last : Nat} (h : b.afu.cafLast = some last) (v : Nat) :
    cafFrame v b =
      cafStep { b with afu := { b.afu with
        cafLast := some v
        cafDir := if last * b.afu.cafHyst < ((last : Int) - v) * 16 then -b.afu.cafDir else b.afu.cafDir } } := by
  unfold cafFrame
  rw [h]

theorem cafStep_turns
    (h : max b.zmap.focusLim.lo (min (position b.focus + b.afu.cafStep * b.afu.cafDir) b.zmap.focusLim.hi) =
      position b.focus) : cafStep b = { b with afu := { b.afu with cafDir := -b.afu.cafDir } } := if_pos h

theorem cafStep_moves
    (h : max b.zmap.focusLim.lo (min (position b.focus + b.afu.cafStep * b.afu.cafDir) b.zmap.focusLim.hi) ≠
      position b.focus) :
    (∀ g, startMove .focus .caf (position b.focus + b.afu.cafStep * b.afu.cafDir) b = (g, none) →
      cafStep b = { g with afu := { g.afu with cafMoving := true } }) ∧
    (∀ g o, startMove .focus .caf (position b.focus + b.afu.cafStep * b.afu.cafDir) b = (g, some o) →
      cafStep b = cafFailed o g) := by
  refine ⟨fun g hg => (if_neg h).trans ?_, fun g o hg => (if_neg h).trans ?_⟩
  · dsimp only
    rw [hg]
  · dsimp only
    rw [hg]

end Caf

/-! ### The obligation -/

/-- What a sample leaves in the trace, whatever move follows it. -/
theorem searchSample_trace (sr : Search) (r : StatsRecord) (b : Block) :
    traceOf (searchSample sr r b).afu = traceOf (sampled sr r b).afu := by
  have hfinal : ∀ (t : Search) (x : Int) (c : Block), traceOf (enterFinal t x c).afu = traceOf c.afu :=
    fun t x c => giveSearchMove_trace _ _ c
  have hfine : ∀ c : Block, traceOf (finishFine sr c).afu = traceOf c.afu := by
    intro c
    unfold finishFine
    dsimp only
    split <;> exact hfinal _ _ c
  classical
  rw [searchSample_eq]
  split
  · exact hfinal _ _ _
  · split
    · rw [fineNext_eq]
      split
      · exact hfine _
      · exact giveSearchMove_trace _ _ _
    · rw [coarseDecide_eq]
      split
      · exact giveSearchMove_trace _ _ _
      · split
        · split
          · exact hfinal _ _ _
          · exact giveSearchMove_trace _ _ _
        · exact giveSearchMove_trace _ _ _

/-- Settles O52. -/
theorem searchSampleRecorded : Obligations.SearchSampleRecorded := by
  classical
  refine ⟨fun b sr r => ?_, vertexOffset_bounds, fun b sr r => ?_, fun b sr p hdir => ?_, fun b sr i m => ?_,
    fun b sr x fin o d => ?_, fun b v last hlast => ?_⟩
  · intro x b'
    have htrace : traceOf b'.afu = traceOf (sampled sr r b).afu := searchSample_trace sr r b
    have hsame : ∀ f, f ∉ [.ntu, .ple, .focus, .zmap, .afu, .due] → Agree b b' f :=
      searchSample_frame sr r (by simp [Among]) (Changes.refl _ b)
    exact ⟨congrArg (·.1) htrace, congrArg (·.2.1) htrace, congrArg (·.2.2) htrace, hsame .zoom (by decide),
      hsame .regs (by decide), hsame .sbu (by decide)⟩
  · intro x i best below h
    have heq : searchSample sr r b = _ := searchSample_eq sr r b
    refine ⟨fun h32 => heq.trans ?_, fun h32 hp => heq.trans ?_, fun h32 hp => heq.trans ?_⟩
    · exact if_pos h32
    · rw [if_neg (Nat.not_le.2 h32)]
      exact if_pos hp
    · rw [if_neg (Nat.not_le.2 h32)]
      exact if_neg hp
  · intro l within n span past fine
    have heq : coarseDecide sr p b = _ := coarseDecide_eq
    refine ⟨fun h2 => heq.trans ?_, fun h2 hp hb => heq.trans ?_, fun h2 hp hb => heq.trans ?_,
      fun h2 hp => heq.trans ?_, fun x => ?_, ?_⟩
    · exact if_pos h2
    · rw [if_neg h2, if_pos (show CoarsePast b sr p from hp)]
      exact if_pos hb
    · rw [if_neg h2, if_pos (show CoarsePast b sr p from hp)]
      exact if_neg hb
    · rw [if_neg h2]
      exact if_neg (show ¬CoarsePast b sr p from hp)
    · rfl
    · intro f done
      have heq : fineNext sr p b = _ := fineNext_eq
      exact ⟨fun hd => heq.trans (if_pos hd), fun hd => heq.trans (if_neg hd)⟩
  · intro l step hn hm hmax hfirst
    have hbest : fineBest (fineSamples b.afu) = some m := fineBest_first (l := l) hm hmax hfirst
    obtain ⟨hboth, hone⟩ := finishFine_eq (sr := sr) hbest
    refine ⟨fun a c ha hc hpa hpc => ?_, fun h => hone (h.imp fineValueAt_none fineValueAt_none)⟩
    intro den half off
    exact hboth a.value c.value (hpa ▸ fineValueAt_some hn ha) (hpc ▸ fineValueAt_some hn hc)
  · refine ⟨fun h hm => giveSearchMove_started hm, fun h hm hg => ?_, fun hw => searchEnd_waits hw .., fun hw e => ?_,
      fun hs => ⟨searchMoveFailed_eq hs o d, searchMoveDone_samples hs, fun q hp hq => ?_, fun hp hq => ?_⟩⟩
    · rw [giveSearchMove_refused hm, stopTracking_other hg]
    · intro h word area he
      rw [searchEnd_now hw, afArea_eq, he]
      rfl
    · rw [searchMoveDone_final hs hp, searchOutcome_recorded hq]
    · rw [searchMoveDone_final hs hp, searchOutcome_judged hq]
  · intro dir h x clipped
    have heq : cafFrame v b = cafStep h := cafFrame_next hlast v
    exact ⟨fun hc => heq.trans (cafStep_turns (b := h) hc), fun g hc hg => heq.trans ((cafStep_moves (b := h) hc).1 g hg),
      fun g o hc hg => heq.trans ((cafStep_moves (b := h) hc).2 g o hg)⟩

end Sys2Proof.Machine
end

section
/-!
PROOFS. Gyro packets outside ACTIVE, the gyro's loss and recovery, and the change of a pan flag (R130 to R135, R139,
R141).
-/

namespace Sys2Proof.Machine

/-! ### A packet, by the state it finds -/

section Packet
variable {b : Block} {k : BitVec 40}

/-- The lost packets before a packet. -/
def gapOf (k : BitVec 40) (b : Block) : Nat := packetGap b.sbu.lastSeq (packetSeq k)

/-- The block with a packet received, outside OFF. -/
def packetTaken (k : BitVec 40) (b : Block) : Block :=
  { b with sbu := { b.sbu with rx := none, lastSeq := some (packetSeq k), gyroTimer := b.sbu.gyroTimeout } }

/-- What a packet does in each state. -/
def packetIn (k : BitVec 40) (b : Block) : SbuBase → Block
  | .off => { b with sbu := { b.sbu with rx := none } }
  | .gyroLost => lostPacket (gapOf k b) (packetTaken k b)
  | .centering =>
    if 4 ≤ gapOf k b then gyroLoss 1 (packetTaken k b)
    else centeringPacket (packetPitch k) (packetYaw k) (packetTaken k b)
  | .active =>
    if 4 ≤ gapOf k b then gyroLoss 1 (packetTaken k b)
    else activePacket (gapOf k b) (packetPitch k) (packetYaw k) (packetTaken k b)

theorem gyroPacket_eq (k : BitVec 40) (b : Block) : gyroPacket k b = packetIn k b b.sbu.base := by
  have hcase : ∀ s : SbuBase,
      (match s with
        | .off => { b with sbu := { b.sbu with rx := none } }
        | base =>
          match base with
          | .gyroLost => lostPacket (gapOf k b) (packetTaken k b)
          | .centering =>
            if 4 ≤ gapOf k b then gyroLoss 1 (packetTaken k b)
            else centeringPacket (packetPitch k) (packetYaw k) (packetTaken k b)
          | _ =>
            if 4 ≤ gapOf k b then gyroLoss 1 (packetTaken k b)
            else activePacket (gapOf k b) (packetPitch k) (packetYaw k) (packetTaken k b)) = packetIn k b s := by
    intro s
    cases s <;> rfl
  exact hcase b.sbu.base

theorem gyroPacket_off (h : b.sbu.base = .off) : gyroPacket k b = { b with sbu := { b.sbu with rx := none } } :=
  (gyroPacket_eq k b).trans (congrArg (packetIn k b) h)

theorem gyroPacket_lost (h : b.sbu.base = .gyroLost) : gyroPacket k b = lostPacket (gapOf k b) (packetTaken k b) :=
  (gyroPacket_eq k b).trans (congrArg (packetIn k b) h)

theorem gyroPacket_centering (h : b.sbu.base = .centering) (hg : gapOf k b < 4) :
    gyroPacket k b = centeringPacket (packetPitch k) (packetYaw k) (packetTaken k b) :=
  (gyroPacket_eq k b).trans ((congrArg (packetIn k b) h).trans (if_neg (Nat.not_le.2 hg)))

theorem gyroPacket_active (h : b.sbu.base = .active) (hg : gapOf k b < 4) :
    gyroPacket k b = activePacket (gapOf k b) (packetPitch k) (packetYaw k) (packetTaken k b) :=
  (gyroPacket_eq k b).trans ((congrArg (packetIn k b) h).trans (if_neg (Nat.not_le.2 hg)))

theorem gyroPacket_loses (h : b.sbu.base = .centering ∨ b.sbu.base = .active) (hg : 4 ≤ gapOf k b) :
    gyroPacket k b = gyroLoss 1 (packetTaken k b) := by
  rcases h with h | h <;> exact (gyroPacket_eq k b).trans ((congrArg (packetIn k b) h).trans (if_pos hg))

end Packet

section Effects
variable {b : Block}

/-- A loss clears both axes and sends the pair 0, 0. -/
theorem gyroLoss_eq (n : Nat) (b : Block) :
    gyroLoss n b =
      { b with
        ntu := setCondIn .gyroLost true b.ntu
        sbu := { b.sbu with
          base := .gyroLost, inSeq := n, sample := none
          pitch := { clearRot b.sbu.pitch with s := 0 }, yaw := { clearRot b.sbu.yaw with s := 0 } } } := by
  unfold gyroLoss setSbu
  dsimp only
  rw [sendPair_zero]
  rfl

/-- A packet in GYRO_LOST, the due recovery apart. -/
def lostCounted (gap : Nat) (b : Block) : Block :=
  { b with sbu := { b.sbu with
    inSeq := if gap = 0 then b.sbu.inSeq + 1 else 1
    pitch := { b.sbu.pitch with s := 0 }, yaw := { b.sbu.yaw with s := 0 } } }

theorem lostPacket_eq (gap : Nat) (b : Block) :
    lostPacket gap b =
      if 16 ≤ (if gap = 0 then b.sbu.inSeq + 1 else 1) then markDue .recovered (lostCounted gap b)
      else lostCounted gap b := by
  unfold lostPacket setSbu
  dsimp only
  rw [sendPair_zero]
  rfl

/-- A packet in CENTERING, the due end apart. -/
def centeringCounted (pitch yaw : Int) (b : Block) : Block :=
  { b with sbu := { b.sbu with
    pitch := { b.sbu.pitch with b32 := trackBias 4 pitch b.sbu.pitch.b32, a := 0, s := 0 }
    yaw := { b.sbu.yaw with b32 := trackBias 4 yaw b.sbu.yaw.b32, a := 0, s := 0 }
    centering := b.sbu.centering + 1 } }

theorem centeringPacket_eq (pitch yaw : Int) (b : Block) :
    centeringPacket pitch yaw b =
      if b.sbu.prm.centering ≤ b.sbu.centering + 1 then markDue .centering (centeringCounted pitch yaw b)
      else centeringCounted pitch yaw b := by
  unfold centeringPacket setSbu
  dsimp only
  rw [sendPair_zero]
  rfl

end Effects

/-- Settles O53. -/
theorem gyroPackets : Obligations.GyroPackets := by
  intro s b k hs
  have hrun := runs_gyroPacket k hs
  intro seq gap pitch yaw got cleared centered
  have hgap : gapOf k b = gap := rfl
  refine ⟨fun h => hrun.of_eq (gyroPacket_off h), fun h => ?_, fun h hg => ?_, fun h hg => ?_,
    runs_gyroPacketDiscard true hs, runs_gyroPacketDiscard false hs⟩
  · intro run lost
    have hlost := (gyroPacket_lost (k := k) h).trans (lostPacket_eq ..)
    rw [hgap] at hlost
    refine ⟨fun hr => hrun.of_eq (hlost.trans (if_neg (Nat.not_le.2 hr))),
      fun hr hd => hrun.of_eq (hlost.trans ((if_pos hr).trans (markDue_new hd)))⟩
  · intro c
    have hcenter := (gyroPacket_centering (k := k) h (hgap.symm ▸ hg)).trans (centeringPacket_eq ..)
    exact ⟨fun hc => hrun.of_eq (hcenter.trans (if_neg (Nat.not_le.2 hc))),
      fun hc hd => hrun.of_eq (hcenter.trans ((if_pos hc).trans (markDue_new hd)))⟩
  · exact hrun.of_eq ((gyroPacket_loses h (hgap.symm ▸ hg)).trans (gyroLoss_eq ..))

/-! ### The gyro timer -/

section Timer
variable {b : Block}

theorem gyroTimeout_stopped (h : b.sbu.gyroTimer = none) : gyroTimeout b = b :=
  if_neg (by rw [h]; nofun)

/-- The expiry of a timer that runs, by the state. -/
def timeoutIn (b : Block) : SbuBase → Block
  | .off => { b with sbu := { b.sbu with gyroTimer := none } }
  | .gyroLost => { b with sbu := { b.sbu with gyroTimer := none, inSeq := 0 } }
  | .centering | .active => gyroLoss 0 { b with sbu := { b.sbu with gyroTimer := none } }

theorem gyroTimeout_eq (ht : b.sbu.gyroTimer ≠ none) : gyroTimeout b = timeoutIn b b.sbu.base := by
  have hcase : ∀ s : SbuBase,
      (match s with
        | .off => { b with sbu := { b.sbu with gyroTimer := none } }
        | .gyroLost => { b with sbu := { b.sbu with gyroTimer := none, inSeq := 0 } }
        | _ => gyroLoss 0 { b with sbu := { b.sbu with gyroTimer := none } }) = timeoutIn b s := by
    intro s
    cases s <;> rfl
  exact (if_pos (Option.isSome_iff_ne_none.2 ht)).trans (hcase b.sbu.base)

theorem gyroTimeout_loses (ht : b.sbu.gyroTimer ≠ none) (h : b.sbu.base = .centering ∨ b.sbu.base = .active) :
    gyroTimeout b = gyroLoss 0 { b with sbu := { b.sbu with gyroTimer := none } } := by
  rcases h with h | h <;> exact (gyroTimeout_eq ht).trans (congrArg (timeoutIn b) h)

theorem gyroTimeout_lost (ht : b.sbu.gyroTimer ≠ none) (h : b.sbu.base = .gyroLost) :
    gyroTimeout b = { b with sbu := { b.sbu with gyroTimer := none, inSeq := 0 } } :=
  (gyroTimeout_eq ht).trans (congrArg (timeoutIn b) h)

end Timer

/-! ### The sample that waits for a pan flag, and what follows it (R138, R139) -/

section Sample
variable {b : Block} {g : GyroSample}

theorem panDue_iff (b : Block) : panDue b = true ↔ ∃ q : Rot, .pan q ∈ b.due := by
  unfold panDue
  rw [Bool.or_eq_true, decide_eq_true_eq, decide_eq_true_eq]
  refine ⟨fun h => h.elim (fun h => ⟨_, h⟩) fun h => ⟨_, h⟩, fun ⟨q, hq⟩ => ?_⟩
  cases q
  · exact .inl hq
  · exact .inr hq

theorem resumeSample_waits (hd : ∃ q : Rot, .pan q ∈ b.due) : resumeSample b = b := by
  unfold resumeSample
  cases hs : b.sbu.sample with
  | none => rfl
  | some g => exact if_pos ((panDue_iff b).2 hd)

theorem resumeSample_goes (hs : b.sbu.sample = some g) (hd : ∀ q : Rot, .pan q ∉ b.due) :
    resumeSample b = finishSample g b := by
  unfold resumeSample
  rw [hs]
  exact if_neg fun hc => (((panDue_iff b).1 hc).elim fun q hq => hd q hq)

/-- The sample of an axis. -/
def sampleRot (g : GyroSample) : Rot → RotSample
  | .pitch => g.pitch
  | .yaw => g.yaw

/-- An axis with its new shift, after the rest of a sample. -/
def rotSent (b : Block) (g : GyroSample) (r : Rot) : RotUnit :=
  let f := finishRot b.sbu.prm g.h (gainAt b (position b.zoom)) (sampleRot g r) (rotOf b.sbu r)
  { f.1 with s := f.2 }

/-- The rest of a sample, the due ends of the holds apart. -/
def sampleSent (g : GyroSample) (b : Block) : Block :=
  { b with sbu := { b.sbu with
    pitch := rotSent b g .pitch, yaw := rotSent b g .yaw, sample := none
    windows := b.sbu.windows.map fun w =>
      { w with peak := max w.peak (max (rotSent b g .pitch).s.natAbs (rotSent b g .yaw).s.natAbs) } } }

theorem finishSample_eq (g : GyroSample) (b : Block) :
    finishSample g b =
      (if holdEnds b.sbu.yaw (rotSent b g .yaw) then markDue (.hold .yaw) else id)
        ((if holdEnds b.sbu.pitch (rotSent b g .pitch) then markDue (.hold .pitch) else id) (sampleSent g b)) := by
  have hite : ∀ (p : Bool) (f : Block → Block) (c : Block), (if p then f else id) c = if p then f c else c := by
    intro p f c
    cases p <;> rfl
  rw [hite, hite]
  rfl

theorem finishSample_sbu (g : GyroSample) (b : Block) : (finishSample g b).sbu = (sampleSent g b).sbu := by
  have hmark : ∀ (p : Bool) (d : DueStep) (c : Block), ((if p then markDue d else id) c).sbu = c.sbu := by
    intro p d c
    cases p
    · rfl
    · exact markDue_sbu c d
  rw [finishSample_eq, hmark, hmark]

/-- The pan flag of an axis after its change, before the sample goes on. -/
def panFlipped (r : Rot) (b : Block) : Block :=
  { b with sbu := setRot r { rotOf b.sbu r with pan := !(rotOf b.sbu r).pan, run := 0, a := 0 } b.sbu }

theorem panChange_eq (hs : b.sbu.sample = some g) (r : Rot) : panChange r b = resumeSample (panFlipped r b) := by
  unfold panChange
  rw [hs]
  rfl

theorem rotOf_panFlipped (r : Rot) (b : Block) :
    rotOf (panFlipped r b).sbu r =
      { rotOf b.sbu r with pan := !(rotOf b.sbu r).pan, run := 0, a := 0 } := by
  cases r <;> rfl

theorem rotOf_sampleSent (r : Rot) : rotOf (sampleSent g b).sbu r = rotSent b g r := by
  cases r <;> rfl

/-- One integration, cut at the bounds. -/
theorem integrate_fst (h : Nat) (d a : Int) :
    (integrate h d a).1 = max (-1073741824) (min (a - a / 2 ^ h + d) 1073741824) := by
  unfold integrate Config.angleBound
  rw [Nat.cast_pow, Nat.cast_ofNat]
  dsimp only
  split
  · omega
  · split
    · dsimp only
      omega
    · dsimp only
      omega

theorem rotSent_fields (b : Block) (g : GyroSample) (r : Rot) :
    (rotSent b g r).pan = (rotOf b.sbu r).pan ∧ (rotSent b g r).run = (rotOf b.sbu r).run ∧
    (rotSent b g r).b32 = (rotOf b.sbu r).b32 ∧ (rotSent b g r).d = (sampleRot g r).d ∧
    (rotSent b g r).a =
      if (rotOf b.sbu r).pan then 0 else (integrate g.h (sampleRot g r).d (rotOf b.sbu r).a).1 := by
  refine ⟨rfl, rfl, rfl, rfl, ?_⟩
  unfold rotSent finishRot
  dsimp only
  split <;> rfl

end Sample

end Sys2Proof.Machine
end

section
/-!
PROOFS. The gyro states and the change of a pan flag (R132, R135, R139, R141).
-/

namespace Sys2Proof.Machine

/-! ### A packet in ACTIVE, up to its pan flags -/

/-- The settings of a sample of a packet. -/
def gyroSampleOf (gap : Nat) (pitch yaw : Int) (b : Block) : GyroSample :=
  { h := leakShift b
    pitch := (beginRot b.sbu.prm gap (leakShift b) pitch b.sbu.pitch).2
    yaw := (beginRot b.sbu.prm gap (leakShift b) yaw b.sbu.yaw).2 }

/-- The block as a sample begins, no pan flag looked at. -/
def sampleBegun (gap : Nat) (pitch yaw : Int) (b : Block) : Block :=
  { b with sbu := { b.sbu with
    pitch := (beginRot b.sbu.prm gap (leakShift b) pitch b.sbu.pitch).1
    yaw := (beginRot b.sbu.prm gap (leakShift b) yaw b.sbu.yaw).1
    sample := some (gyroSampleOf gap pitch yaw b) } }

section Begun
variable {b : Block} {gap : Nat} {pitch yaw : Int}

theorem activePacket_eq (gap : Nat) (pitch yaw : Int) (b : Block) :
    activePacket gap pitch yaw b = resumeSample (markPan .yaw (markPan .pitch (sampleBegun gap pitch yaw b))) := rfl

/-- The rate of an axis. -/
def rateOf (pitch yaw : Int) : Rot → Int
  | .pitch => pitch
  | .yaw => yaw

theorem rotOf_sampleBegun (r : Rot) :
    rotOf (sampleBegun gap pitch yaw b).sbu r =
      (beginRot b.sbu.prm gap (leakShift b) (rateOf pitch yaw r) (rotOf b.sbu r)).1 := by
  cases r <;> rfl

theorem sampleRot_gyroSampleOf (r : Rot) :
    sampleRot (gyroSampleOf gap pitch yaw b) r =
      (beginRot b.sbu.prm gap (leakShift b) (rateOf pitch yaw r) (rotOf b.sbu r)).2 := by
  cases r <;> rfl

end Begun

section Mark
variable {b : Block} {r : Rot}

@[simp] theorem markPan_sbu (r : Rot) (b : Block) : (markPan r b).sbu = b.sbu := by
  unfold markPan
  split
  · exact markDue_sbu b _
  · rfl

theorem markPan_ntu (r : Rot) (b : Block) : (markPan r b).ntu = b.ntu := by
  unfold markPan
  split
  · exact markDue_ntu b _
  · rfl

theorem mem_markPan_of_mem {x : DueStep} (r : Rot) (h : x ∈ b.due) : x ∈ (markPan r b).due := by
  unfold markPan
  split
  · exact (mem_markDue_iff _ x b).2 (.inr h)
  · exact h

theorem mem_markPan (h : b.sbu.prm.panCount ≤ (rotOf b.sbu r).run) : .pan r ∈ (markPan r b).due := by
  unfold markPan
  rw [if_pos h]
  exact mem_markDue b _

theorem markPan_below (h : (rotOf b.sbu r).run < b.sbu.prm.panCount) : markPan r b = b :=
  if_neg (Nat.not_le.2 h)

/-- A run that has reached the count leaves its change due after both axes are looked at. -/
theorem pan_due_of_reached (h : b.sbu.prm.panCount ≤ (rotOf b.sbu r).run) :
    .pan r ∈ (markPan .yaw (markPan .pitch b)).due := by
  cases r
  · exact mem_markPan_of_mem .yaw (mem_markPan h)
  · exact mem_markPan (by rw [markPan_sbu]; exact h)

end Mark

/-! ### The axis as its sample begins -/

section Begin
variable (p : StabParams) (gap h : Nat) (r : Int) (u : RotUnit)

theorem beginRot_b32 :
    (beginRot p gap h r u).1.b32 =
      if p.biasOn = true ∧ (r - u.b32 / 256).natAbs < p.still then u.b32 + (r * 256 - u.b32) / 2 ^ p.track
      else u.b32 := by
  change sampleBias p r (r - u.b32 / 256) u = _
  unfold sampleBias trackBias
  rw [Nat.cast_pow, Nat.cast_ofNat]

theorem panSample_iff (d : Int) :
    panSample p d u = true ↔ if u.pan then d.natAbs < p.panThreshold / 2 else p.panThreshold < d.natAbs := by
  unfold panSample
  split <;> exact decide_eq_true_iff

theorem beginRot_run_counts
    (hc : if u.pan then (r - u.b32 / 256).natAbs < p.panThreshold / 2 else p.panThreshold < (r - u.b32 / 256).natAbs) :
    (beginRot p gap h r u).1.run = u.run + 1 :=
  if_pos ((panSample_iff p u _).2 hc)

end Begin

/-! ### The change of a pan flag -/

/-- The difference of a sample is the one that the rest of the sample leaves as the last one. -/
theorem finishSample_panFlipped {b : Block} (g : GyroSample) (r : Rot) :
    let v := rotOf (finishSample g (panFlipped r b)).sbu r
    v.pan = (!(rotOf b.sbu r).pan) ∧ v.run = 0 ∧ v.b32 = (rotOf b.sbu r).b32 ∧ v.d = (sampleRot g r).d ∧
    v.a = if (rotOf b.sbu r).pan then max (-1073741824) (min (sampleRot g r).d 1073741824) else 0 := by
  obtain ⟨hpan, hrun, hbias, hd, ha⟩ := rotSent_fields (panFlipped r b) g r
  rw [rotOf_panFlipped] at hpan hrun hbias ha
  dsimp only at hpan hrun hbias ha ⊢
  rw [finishSample_sbu, rotOf_sampleSent]
  refine ⟨hpan, hrun, hbias, hd, ha.trans ?_⟩
  cases hp : (rotOf b.sbu r).pan
  · rfl
  · refine (if_neg nofun).trans ((integrate_fst ..).trans ?_)
    simp

theorem panFlipped_base (r : Rot) (b : Block) : (panFlipped r b).sbu.base = b.sbu.base := by
  cases r <;> rfl

theorem panFlipped_sample (r : Rot) (b : Block) : (panFlipped r b).sbu.sample = b.sbu.sample := by
  cases r <;> rfl

/-- The states that the gyro timer and the due steps make. -/
theorem gyroStates (s : State) (b : Block) :
    let cleared := fun (u : RotUnit) => { u with a := 0, d := 0, pan := false, run := 0, hold := 0 }
    (Settles s b → b.sbu.gyroTimer ≠ none →
      (b.sbu.base = .centering ∨ b.sbu.base = .active →
        Runs .gyroTimerExpiry s { b with
          ntu := setCondIn .gyroLost true b.ntu
          sbu := { b.sbu with
            base := .gyroLost, inSeq := 0, sample := none, gyroTimer := none
            pitch := { cleared b.sbu.pitch with s := 0 }, yaw := { cleared b.sbu.yaw with s := 0 } } }) ∧
      (b.sbu.base = .gyroLost →
        Runs .gyroTimerExpiry s { b with sbu := { b.sbu with gyroTimer := none, inSeq := 0 } })) ∧
    (Settles s b → b.sbu.gyroTimer = none → Runs .gyroTimerExpiry s b) ∧
    (.centering ∈ s.due → dropDue .centering s.toBlock = b → b.sbu.base = .centering →
      Runs .centeringDone s { b with
        sbu := { b.sbu with base := .active, pitch := cleared b.sbu.pitch, yaw := cleared b.sbu.yaw } }) ∧
    (.recovered ∈ s.due → dropDue .recovered s.toBlock = b → b.sbu.base = .gyroLost →
      Runs .gyroRecovered s { b with
        ntu := { b.ntu with gyroLost := false }, sbu := { b.sbu with base := .centering, centering := 0 } }) ∧
    (.hold .pitch ∈ s.due → dropDue (.hold .pitch) s.toBlock = b →
      Runs (.saturationHoldEnd .pitch) s { b with sbu := { b.sbu with pitch := { b.sbu.pitch with hold := 0 } } }) ∧
    (.hold .yaw ∈ s.due → dropDue (.hold .yaw) s.toBlock = b →
      Runs (.saturationHoldEnd .yaw) s { b with sbu := { b.sbu with yaw := { b.sbu.yaw with hold := 0 } } }) := by
  intro cleared
  refine ⟨fun hs ht => ⟨fun hb => ?_, fun hb => ?_⟩, fun hs ht => ?_, fun hd hb hc => ?_, fun hd hb hc => ?_,
    fun hd hb => runs_saturationHoldEnd .pitch hd hb, fun hd hb => runs_saturationHoldEnd .yaw hd hb⟩
  · exact (runs_gyroTimerExpiry hs).of_eq ((gyroTimeout_loses ht hb).trans (gyroLoss_eq ..))
  · exact (runs_gyroTimerExpiry hs).of_eq (gyroTimeout_lost ht hb)
  · exact (runs_gyroTimerExpiry hs).of_eq (gyroTimeout_stopped ht)
  · exact (runs_centeringDone hd hb).of_eq (if_pos hc)
  · exact (runs_gyroRecovered hd hb).of_eq (if_pos hc)

/-- PAN_FLAG_CHANGE flips the flag; the sample goes on when no other change is due. -/
theorem panFlagChange_flips (s : State) (b : Block) (g : GyroSample) (r : Rot) (hd : .pan r ∈ s.due)
    (hb : dropDue (.pan r) s.toBlock = b) (hs : b.sbu.sample = some g) :
    ∃ b' : Block,
      Runs (.panFlagChange r) s b' ∧ (rotOf b'.sbu r).pan = (!(rotOf b.sbu r).pan) ∧ (rotOf b'.sbu r).run = 0 ∧
      (rotOf b'.sbu r).b32 = (rotOf b.sbu r).b32 ∧ b'.sbu.base = b.sbu.base ∧ b'.ntu = b.ntu ∧
      (∀ q : Rot, .pan q ∈ b.due → b'.sbu.sample = some g ∧ (rotOf b'.sbu r).a = 0) ∧
      ((∀ q : Rot, .pan q ∉ b.due) →
        b'.sbu.sample = none ∧
        (rotOf b'.sbu r).a =
          (if (rotOf b.sbu r).pan then max (-1073741824) (min (sampleRot g r).d 1073741824) else 0) ∧
        (rotOf b'.sbu r).d = (sampleRot g r).d) := by
  have hrun := runs_panFlagChange r hd hb
  have hflip := rotOf_panFlipped r b
  by_cases hdue : ∃ q : Rot, .pan q ∈ b.due
  · have hsame : panChange r b = panFlipped r b :=
      (panChange_eq hs r).trans (resumeSample_waits (b := panFlipped r b) hdue)
    refine ⟨panFlipped r b, hrun.of_eq hsame, ?_, ?_, ?_, panFlipped_base r b, rfl,
      fun q _ => ⟨(panFlipped_sample r b).trans hs, ?_⟩, fun hno => (hdue.elim hno).elim⟩ <;> rw [hflip]
  · have hno : ∀ q : Rot, .pan q ∉ b.due := fun q hq => hdue ⟨q, hq⟩
    have hgo : panChange r b = finishSample g (panFlipped r b) :=
      (panChange_eq hs r).trans (resumeSample_goes ((panFlipped_sample r b).trans hs) hno)
    obtain ⟨hpan, hcount, hbias, hlast, ha⟩ := finishSample_panFlipped (b := b) g r
    refine ⟨finishSample g (panFlipped r b), hrun.of_eq hgo, hpan, hcount, hbias, ?_, ?_,
      fun q hq => (hno q hq).elim, fun _ => ⟨?_, ha, hlast⟩⟩
    · rw [finishSample_sbu]
      exact panFlipped_base r b
    · exact finishSample_frame g (Among.refl _) (Changes.refl _ (panFlipped r b)) .ntu (by decide)
    · rw [finishSample_sbu]
      rfl

/-- A run that reaches the pan count makes the change of its axis's flag due, and the sample waits for it. -/
theorem activePacket_pan_due {b : Block} {gap : Nat} {pitch yaw : Int} {r : Rot}
    (hrun : b.sbu.prm.panCount ≤ (rotOf (sampleBegun gap pitch yaw b).sbu r).run) :
    activePacket gap pitch yaw b = markPan .yaw (markPan .pitch (sampleBegun gap pitch yaw b)) ∧
    .pan r ∈ (markPan .yaw (markPan .pitch (sampleBegun gap pitch yaw b))).due := by
  have hdue := pan_due_of_reached (b := sampleBegun gap pitch yaw b) hrun
  exact ⟨(activePacket_eq ..).trans (resumeSample_waits ⟨r, hdue⟩), hdue⟩

/-- Settles O54. -/
theorem gyroStatesAndPanFlags : Obligations.GyroStatesAndPanFlags := by
  refine ⟨gyroStates, fun s b g r hd hb hs => ?_, ?_⟩
  · intro u d
    have hflip := panFlagChange_flips s b g r hd hb hs
    cases r <;> exact hflip
  · intro s b k r hs hbase gap rate prm u d counts hg hcounts hrun
    have hgap : gapOf k b = gap := rfl
    have hrate : rateOf (packetPitch k) (packetYaw k) r = rate := by cases r <;> rfl
    have hu : rotOf (packetTaken k b).sbu r = u := by cases r <;> rfl
    have hbegun := rotOf_sampleBegun (b := packetTaken k b) (gap := gapOf k b) (pitch := packetPitch k)
      (yaw := packetYaw k) r
    have hsample := sampleRot_gyroSampleOf (b := packetTaken k b) (gap := gapOf k b) (pitch := packetPitch k)
      (yaw := packetYaw k) r
    rw [hrate, hu] at hbegun hsample
    have hone := beginRot_run_counts prm (gapOf k b) (leakShift (packetTaken k b)) rate u hcounts
    obtain ⟨hwait, hdue⟩ := activePacket_pan_due (b := packetTaken k b) (gap := gapOf k b) (pitch := packetPitch k)
      (yaw := packetYaw k) (r := r) (by rw [hbegun]; exact hrun.trans_eq hone.symm)
    refine ⟨_, gyroSampleOf (gapOf k b) (packetPitch k) (packetYaw k) (packetTaken k b),
      (runs_gyroPacket k hs).of_eq ((gyroPacket_active hbase (hgap ▸ hg)).trans hwait), hdue,
      fun x hx => mem_markPan_of_mem .yaw (mem_markPan_of_mem .pitch hx), ?_, ?_, ?_⟩
    · rw [markPan_sbu, markPan_sbu]
      rfl
    · have hrot := congrArg RotSample.d hsample
      cases r <;> exact hrot
    · rw [markPan_sbu, markPan_sbu, hbegun, markPan_ntu, markPan_ntu]
      exact ⟨hone, rfl, rfl, beginRot_b32 .., hbase, rfl, rfl, rfl⟩

end Sys2Proof.Machine
end

section
/-!
PROOFS. The sample of a gyro packet in ACTIVE (R136 to R142).
-/

namespace Sys2Proof.Machine

/-! ### The recording window and the leak (R137) -/

section Leak
variable {b : Block}

theorem capReportsStoring_iff (b : Block) :
    capReportsStoring b = true ↔
      b.cap.state = .storing ∨
      b.cap.state = .draining ∧ ∃ f, b.fsu.cur = some f ∧ f.slot ≠ none ∧ f.frameEnded = false := by
  unfold capReportsStoring
  cases b.cap.state
  case storing => simp
  case draining => cases b.fsu.cur <;> simp [Option.isSome_iff_ne_none]
  all_goals simp

theorem leakShift_eq (b : Block) :
    leakShift b =
      if b.sbu.windows ≠ [] ∧ capReportsStoring b = true then b.sbu.prm.leak
      else max (b.sbu.prm.leak - b.sbu.prm.boost) 4 := by
  have hopen : recordingWindow b = true ↔ b.sbu.windows ≠ [] ∧ capReportsStoring b = true := by
    unfold recordingWindow
    simp
  unfold leakShift
  exact if_congr hopen rfl rfl

end Leak

/-! ### Integration and the samples that fill a gap (R138, R140) -/

/-- One integration of the angle, cut at the bounds. -/
def angleStep (h : Nat) (d a : Int) : Int := max (-1073741824) (min (a - a / 2 ^ h + d) 1073741824)

section Fill
variable {h : Nat} {d a : Int} {u : RotUnit}

theorem integrate_fst_eq : (integrate h d a).1 = angleStep h d a := integrate_fst h d a

/-- An integration saturates exactly where it leaves the angle at a bound. -/
theorem integrate_saturates : (integrate h d a).2 = true ↔ (integrate h d a).1.natAbs = 1073741824 := by
  unfold integrate Config.angleBound
  dsimp only
  split
  · simp
  · split
    · simp
    · dsimp only
      constructor
      · nofun
      · omega

theorem fillGap_of_pan (n : Nat) (hp : u.pan = true) : fillGap n h u = (u.a, false) := by
  cases n
  · rfl
  · exact if_pos hp

theorem fillGap_succ (n : Nat) (hp : u.pan = false) :
    fillGap (n + 1) h u =
      ((fillGap n h { u with a := angleStep h u.d u.a }).1,
        (integrate h u.d u.a).2 || (fillGap n h { u with a := angleStep h u.d u.a }).2) := by
  rw [← integrate_fst_eq]
  exact if_neg (by rw [hp]; nofun)

theorem fillGap_fst (n : Nat) (hp : u.pan = false) : (fillGap n h u).1 = (angleStep h u.d)^[n] u.a := by
  induction n generalizing u with
  | zero => rfl
  | succ n ih => rw [fillGap_succ n hp, ih (u := { u with a := angleStep h u.d u.a }) hp, Function.iterate_succ_apply]

/-- A gap saturates when one of its samples does. -/
theorem fillGap_saturates (n : Nat) :
    (fillGap n h u).2 = true ↔
      u.pan = false ∧ ∃ i, 1 ≤ i ∧ i ≤ n ∧ ((angleStep h u.d)^[i] u.a).natAbs = 1073741824 := by
  cases hp : u.pan
  case true => simp [fillGap_of_pan n hp]
  case false =>
    refine Iff.trans ?_ (and_iff_right rfl).symm
    induction n generalizing u with
    | zero =>
      refine ⟨nofun, fun ⟨i, hi, hn, _⟩ => by omega⟩
    | succ n ih =>
      rw [fillGap_succ n hp, Bool.or_eq_true, ih (u := { u with a := angleStep h u.d u.a }) hp, integrate_saturates,
        integrate_fst_eq]
      dsimp only
      constructor
      · rintro (h1 | ⟨i, hi, hn, hsat⟩)
        · exact ⟨1, Nat.le_refl 1, by omega, h1⟩
        · exact ⟨i + 1, by omega, by omega, hsat⟩
      · rintro ⟨i, hi, hn, hsat⟩
        obtain ⟨j, rfl⟩ := Nat.exists_eq_add_of_le' hi
        cases j with
        | zero => exact .inl hsat
        | succ j => exact .inr ⟨j + 1, by omega, by omega, hsat⟩

end Fill

/-! ### An axis after a whole sample -/

section Axis
variable (p : StabParams) (gap h : Nat) (gain r : Int) (u : RotUnit)

/-- An axis after a sample with no change of its pan flag. -/
def sampledRot : RotUnit :=
  let x := beginRot p gap h r u
  let f := finishRot p h gain x.2 x.1
  { f.1 with s := f.2 }

/-- The angle after the sample. -/
def sampledAngle : Int :=
  if u.pan then 0 else angleStep h (r - u.b32 / 256) ((angleStep h u.d)^[gap] u.a)

theorem sampledRot_a : (sampledRot p gap h gain r u).a = sampledAngle gap h r u := by
  unfold sampledRot sampledAngle finishRot
  dsimp only
  cases hp : u.pan
  · have hpan : (beginRot p gap h r u).1.pan = false := hp
    rw [hpan]
    refine integrate_fst_eq.trans ?_
    exact congrArg _ (fillGap_fst gap hp)
  · have hpan : (beginRot p gap h r u).1.pan = true := hp
    rw [hpan]
    rfl

/-- Whether the sample counts as saturated. -/
def SampleSaturates : Prop :=
  (u.pan = false ∧ ∃ i, 1 ≤ i ∧ i ≤ gap ∧ ((angleStep h u.d)^[i] u.a).natAbs = 1073741824) ∨
  (sampledAngle gap h r u).natAbs = 1073741824 ∨
  (sampledRot p gap h gain r u).s ≠ rawShift (sampledAngle gap h r u) gain

/-- The integration of the sample itself. -/
def lastStep : Int × Bool :=
  if u.pan then (0, false) else integrate h (r - u.b32 / 256) (fillGap gap h u).1

theorem lastStep_fst : (lastStep gap h r u).1 = sampledAngle gap h r u := by
  unfold lastStep sampledAngle
  cases hp : u.pan
  · exact integrate_fst_eq.trans (congrArg _ (fillGap_fst gap hp))
  · rfl

theorem lastStep_saturates : (lastStep gap h r u).2 = true ↔ (sampledAngle gap h r u).natAbs = 1073741824 := by
  rw [← lastStep_fst]
  unfold lastStep
  cases u.pan
  · exact integrate_saturates
  · simp

/-- What decides about the hold. -/
def sampleSat : Bool :=
  (fillGap gap h u).2 || (lastStep gap h r u).2 ||
    decide ((sampledRot p gap h gain r u).s ≠ rawShift (lastStep gap h r u).1 gain)

theorem sampledRot_hold_eq :
    (sampledRot p gap h gain r u).hold =
      if sampleSat p gap h gain r u then 32 else if 1 < u.hold then u.hold - 1 else u.hold := rfl

theorem sampleSat_iff : sampleSat p gap h gain r u = true ↔ SampleSaturates p gap h gain r u := by
  unfold sampleSat SampleSaturates
  rw [Bool.or_eq_true, Bool.or_eq_true, fillGap_saturates, lastStep_saturates, lastStep_fst, decide_eq_true_iff,
    or_assoc]

theorem sampledRot_hold :
    (SampleSaturates p gap h gain r u → (sampledRot p gap h gain r u).hold = 32) ∧
    (¬SampleSaturates p gap h gain r u →
      (sampledRot p gap h gain r u).hold = if 1 < u.hold then u.hold - 1 else u.hold) := by
  rw [← sampleSat_iff, sampledRot_hold_eq]
  exact ⟨fun h => if_pos h, fun h => if_neg h⟩

end Axis

/-! ### The sample of a packet with no pan flag change -/

section Sampled
variable {b : Block} {gap : Nat} {pitch yaw : Int}

/-- An axis of the block after the sample. -/
def sampledAxis (gap : Nat) (pitch yaw : Int) (b : Block) (r : Rot) : RotUnit :=
  sampledRot b.sbu.prm gap (leakShift b) (gainAt b (position b.zoom)) (rateOf pitch yaw r) (rotOf b.sbu r)

/-- The rest of the sample meets each axis as its sample began. -/
theorem rotSent_sampleBegun (r : Rot) :
    rotSent (sampleBegun gap pitch yaw b) (gyroSampleOf gap pitch yaw b) r = sampledAxis gap pitch yaw b r := by
  cases r <;> rfl

/-- No run reaches the pan count: the sample goes on at once. -/
theorem activePacket_samples (hdue : b.due = [])
    (hrun : ∀ r : Rot, (rotOf (sampleBegun gap pitch yaw b).sbu r).run < b.sbu.prm.panCount) :
    activePacket gap pitch yaw b = finishSample (gyroSampleOf gap pitch yaw b) (sampleBegun gap pitch yaw b) := by
  rw [activePacket_eq, markPan_below (r := .pitch) (hrun .pitch), markPan_below (r := .yaw) (hrun .yaw)]
  refine resumeSample_goes rfl fun q hq => ?_
  have hnone : DueStep.pan q ∈ b.due := hq
  rw [hdue] at hnone
  exact absurd hnone List.not_mem_nil

theorem holdEnds_iff (u v : RotUnit) : holdEnds u v = true ↔ u.hold = 1 ∧ v.hold = 1 := by
  unfold holdEnds
  rw [Bool.and_eq_true, beq_iff_eq, beq_iff_eq]

theorem mem_markIf {p : Bool} {d x : DueStep} {c : Block} :
    x ∈ ((if p then markDue d else id) c).due ↔ x = d ∧ p = true ∨ x ∈ c.due := by
  cases p
  · simp
  · simp [mem_markDue_iff d x c]

/-- The ends of the holds that a sample leaves due. -/
theorem hold_due_finishSample {g : GyroSample} (hdue : b.due = []) (r : Rot) :
    .hold r ∈ (finishSample g b).due ↔ (rotOf b.sbu r).hold = 1 ∧ (rotSent b g r).hold = 1 := by
  have hnone : .hold r ∉ (sampleSent g b).due := fun h => absurd (hdue ▸ h : DueStep.hold r ∈ []) List.not_mem_nil
  rw [finishSample_eq, mem_markIf, mem_markIf, holdEnds_iff, holdEnds_iff]
  cases r <;> simp [hnone, rotOf]

end Sampled

/-- Settles O55. -/
theorem gyroSampleInActive : Obligations.GyroSampleInActive := by
  refine ⟨capReportsStoring_iff, ?_⟩
  intro s b k hs hbase hdue gap prm h bound step counts run after pitch yaw hg hpitch hyaw
  let c := packetTaken k b
  have hleak : leakShift c = h := leakShift_eq b
  let b' := finishSample (gyroSampleOf gap pitch yaw c) (sampleBegun gap pitch yaw c)
  have hrun : ∀ r : Rot, (rotOf (sampleBegun gap pitch yaw c).sbu r).run < c.sbu.prm.panCount := by
    intro r
    cases r
    · exact hpitch
    · exact hyaw
  have hgo : gyroPacket k b = b' := (gyroPacket_active hbase hg).trans (activePacket_samples hdue hrun)
  have hrot : ∀ r : Rot, rotOf b'.sbu r =
      sampledRot prm gap h (gainAt b (position b.zoom)) (rateOf pitch yaw r) (rotOf b.sbu r) := by
    intro r
    rw [← hleak]
    refine (congrArg (rotOf · r) (finishSample_sbu ..)).trans ((rotOf_sampleSent r).trans ?_)
    refine (rotSent_sampleBegun r).trans ?_
    cases r <;> rfl
  have hafter : ∀ r : Rot, after (rotOf b.sbu r) (rotOf b'.sbu r) (rateOf pitch yaw r) := by
    intro r
    rw [hrot r]
    have ha := sampledRot_a prm gap h (gainAt b (position b.zoom)) (rateOf pitch yaw r) (rotOf b.sbu r)
    exact ⟨ha, rfl, congrArg (fun a => max (-(prm.range : Int)) (min (rawShift a _) prm.range)) ha, rfl, rfl,
      beginRot_b32 prm gap h .., sampledRot_hold ..⟩
  have hsbu : b'.sbu = (sampleSent (gyroSampleOf gap pitch yaw c) (sampleBegun gap pitch yaw c)).sbu :=
    finishSample_sbu ..
  have hhold : ∀ r : Rot, .hold r ∈ b'.due ↔ (rotOf b.sbu r).hold = 1 ∧ (rotOf b'.sbu r).hold = 1 := by
    intro r
    rw [hsbu, rotOf_sampleSent]
    refine (hold_due_finishSample (b := sampleBegun gap pitch yaw c) hdue r).trans ?_
    cases r <;> rfl
  have hframe := finishSample_frame (gyroSampleOf gap pitch yaw c) (Among.refl _)
    (Changes.refl _ (sampleBegun gap pitch yaw c))
  refine ⟨b', (runs_gyroPacket k hs).of_eq hgo, hafter .pitch, hafter .yaw, ?_, ?_, ?_, ?_,
    hframe .ntu (by decide), hframe .zoom (by decide), hframe .ftu (by decide), ?_, hhold .pitch, hhold .yaw⟩
  all_goals rw [hsbu]
  · exact hbase
  all_goals rfl

end Sys2Proof.Machine
end

section
/-!
PROOFS. The answer to a read of Q (R160) and the wait for a slot (R149 to R151, R161, R162).
-/

namespace Sys2Proof.Machine

/-! ### The value read (R160) -/

section TakeQ
variable {b : Block} {v : Word}

theorem takeQ_unchanged (h : (v - b.fsu.heldQ).toNat = 0) :
    takeQ v b = { b with fsu := { b.fsu with refusedQ := none } } :=
  if_pos h

theorem takeQ_taken (h : (v - b.fsu.heldQ).toNat ≠ 0) (hle : (v - b.fsu.heldQ).toNat ≤ (b.fsu.p - b.fsu.heldQ).toNat) :
    takeQ v b = { b with fsu := { b.fsu with heldQ := v, refusedQ := none } } :=
  (if_neg h).trans (if_pos hle)

theorem takeQ_above (hlt : (b.fsu.p - b.fsu.heldQ).toNat < (v - b.fsu.heldQ).toNat) :
    takeQ v b =
      if b.fsu.refusedQ = some v then b
      else
        { b with
          regs := { b.regs with fault := latchIn .release 4 b.regs.fault }
          ntu := setFlag .releaseFault b.ntu
          fsu := { b.fsu with refusedQ := some v } } :=
  (if_neg (Nat.ne_of_gt (Nat.zero_lt_of_lt hlt))).trans (if_neg (Nat.not_le.2 hlt))

theorem takeQ_refuses (hlt : (b.fsu.p - b.fsu.heldQ).toNat < (v - b.fsu.heldQ).toNat) (hn : b.fsu.refusedQ ≠ some v) :
    takeQ v b =
      { b with
        regs := { b.regs with fault := latchIn .release 4 b.regs.fault }
        ntu := setFlag .releaseFault b.ntu
        fsu := { b.fsu with refusedQ := some v } } :=
  (takeQ_above hlt).trans (if_neg hn)

theorem takeQ_refused (hlt : (b.fsu.p - b.fsu.heldQ).toNat < (v - b.fsu.heldQ).toNat) (hn : b.fsu.refusedQ = some v) :
    takeQ v b = b :=
  (takeQ_above hlt).trans (if_pos hn)

/-- Of two values that differ by nothing, either is the held one. -/
theorem heldQ_unchanged (h : (v - b.fsu.heldQ).toNat = 0) : v = b.fsu.heldQ := by
  bv_omega

end TakeQ

/-! ### The answer -/

section Answer
variable {b : Block} {q : QRead} {rest : List QRead} {r : ReadResp}

/-- The read answered, no request looked at. -/
def qAnswered (q : QRead) (rest : List QRead) (r : ReadResp) (b : Block) : Block :=
  let c : Block := { b with fsu := { b.fsu with qReads := rest } }
  match q.acc.result r with
  | .error e => memoryFault e q.acc.offset c
  | .ok bs => takeQ (BitVec.ofNat 32 (u32 bs 0)) c

theorem qAnswered_ok {bs : List Byte} (h : q.acc.result r = .ok bs) :
    qAnswered q rest r b = takeQ (BitVec.ofNat 32 (u32 bs 0)) { b with fsu := { b.fsu with qReads := rest } } := by
  unfold qAnswered
  rw [h]

theorem qAnswered_error {e : FaultCode} (h : q.acc.result r = .error e) :
    qAnswered q rest r b =
      { b with
        regs := { b.regs with fault := latchIn e q.acc.offset b.regs.fault }
        ntu := setFlag .windowFault b.ntu
        fsu := { b.fsu with qReads := rest } } := by
  unfold qAnswered
  rw [h]
  rfl

theorem qResponse_plain (hq : b.fsu.qReads = q :: rest) (hn : q.request = none) :
    qResponse r b = qAnswered q rest r b := by
  unfold qResponse
  rw [hq]
  dsimp only
  rw [hn]
  rfl

theorem qResponse_decides {k : Word} (hq : b.fsu.qReads = q :: rest) (hn : q.request = some k) :
    qResponse r b = decideSlot k (qAnswered q rest r b) := by
  unfold qResponse
  rw [hq]
  dsimp only
  rw [hn]
  rfl

/-- The held Q after the answer. -/
def heldAfter (q : QRead) (r : ReadResp) (b : Block) : Word :=
  match q.acc.result r with
  | .ok bs =>
    let v := BitVec.ofNat 32 (u32 bs 0)
    if (v - b.fsu.heldQ).toNat ≤ (b.fsu.p - b.fsu.heldQ).toNat then v else b.fsu.heldQ
  | .error _ => b.fsu.heldQ

theorem slotWait_setFlag (c : Cause) (n : Ntu) : (setFlag c n).slotWait = n.slotWait :=
  condOf_setFlag .slotWait c n

theorem takeQ_fields (v : Word) (b : Block) :
    ∃ regs ntu refused,
      ntu.slotWait = b.ntu.slotWait ∧ regs.wbase = b.regs.wbase ∧ regs.wlimit = b.regs.wlimit ∧
      takeQ v b = { b with
        regs := regs, ntu := ntu
        fsu := { b.fsu with
          heldQ := if (v - b.fsu.heldQ).toNat ≤ (b.fsu.p - b.fsu.heldQ).toNat then v else b.fsu.heldQ
          refusedQ := refused } } := by
  rcases Nat.lt_or_ge (b.fsu.p - b.fsu.heldQ).toNat (v - b.fsu.heldQ).toNat with hlt | hle
  · rw [if_neg (Nat.not_le.2 hlt)]
    by_cases hn : b.fsu.refusedQ = some v
    · exact ⟨b.regs, b.ntu, b.fsu.refusedQ, rfl, rfl, rfl, takeQ_refused hlt hn⟩
    · exact ⟨{ b.regs with fault := latchIn .release 4 b.regs.fault }, setFlag .releaseFault b.ntu, some v,
        slotWait_setFlag .., rfl, rfl, takeQ_refuses hlt hn⟩
  · rw [if_pos hle]
    by_cases hz : (v - b.fsu.heldQ).toNat = 0
    · refine ⟨b.regs, b.ntu, none, rfl, rfl, rfl, (takeQ_unchanged hz).trans ?_⟩
      rw [heldQ_unchanged hz]
    · exact ⟨b.regs, b.ntu, none, rfl, rfl, rfl, takeQ_taken hz hle⟩

/-- What the answer changes. -/
theorem qAnswered_fields (q : QRead) (rest : List QRead) (r : ReadResp) (b : Block) :
    ∃ regs ntu refused,
      ntu.slotWait = b.ntu.slotWait ∧ regs.wbase = b.regs.wbase ∧ regs.wlimit = b.regs.wlimit ∧
      qAnswered q rest r b = { b with
        regs := regs, ntu := ntu
        fsu := { b.fsu with qReads := rest, heldQ := heldAfter q r b, refusedQ := refused } } := by
  unfold heldAfter
  cases h : q.acc.result r with
  | error e =>
    exact ⟨{ b.regs with fault := latchIn e q.acc.offset b.regs.fault }, setFlag .windowFault b.ntu, b.fsu.refusedQ,
      slotWait_setFlag .., rfl, rfl, qAnswered_error h⟩
  | ok bs =>
    obtain ⟨regs, ntu, refused, hw, hb, hl, heq⟩ := takeQ_fields (BitVec.ofNat 32 (u32 bs 0))
      { b with fsu := { b.fsu with qReads := rest } }
    exact ⟨regs, ntu, refused, hw, hb, hl, (qAnswered_ok h).trans heq⟩

end Answer

/-- Settles O56. -/
theorem releasedCountRead : Obligations.ReleasedCountRead := by
  intro s b q rest bs hs hq hn v more held
  have hrun : ∀ r c, qAnswered q rest r b = c → Runs (.qReadDone ⟨false, r⟩) s c :=
    fun r c h => (runs_qReadDone r hs).of_eq ((qResponse_plain hq hn).trans h)
  have hok : q.acc.addr ≠ none →
      qAnswered q rest (.data bs) b = takeQ v { b with fsu := { b.fsu with qReads := rest } } :=
    fun ha => qAnswered_ok (ReadAcc.result_ok ha bs)
  refine ⟨fun ha hz => hrun _ _ ((hok ha).trans (takeQ_unchanged hz)),
    fun ha hz hle => hrun _ _ ((hok ha).trans (takeQ_taken hz hle)),
    fun ha hlt hne => hrun _ _ ((hok ha).trans (takeQ_refuses hlt hne)),
    fun ha hlt he => hrun _ _ ((hok ha).trans (takeQ_refused hlt he)),
    fun r c hc => hrun _ _ (qAnswered_error hc)⟩

end Sys2Proof.Machine
end

section
/-!
PROOFS. Bursts and the publication conditions (R163 to R169): one burst, and all that can go out.
-/

namespace Sys2Proof.Machine

/-! ### One burst (R164 to R168) -/

section Burst
variable {b : Block} {f : StoreFrame} {pool : Pool} {slot : Nat} {l : LineBuf} {rest : List LineBuf}

/-- The block after the burst `acc` of the first line. -/
def burstIssued (acc : WriteAcc) (f : StoreFrame) (l : LineBuf) (rest : List LineBuf) (b : Block) : Block :=
  { b with
    regs := { b.regs with fault := if acc.addr = none then latchIn .window acc.offset b.regs.fault else b.regs.fault }
    ntu := if acc.addr = none then setFlag .windowFault b.ntu else b.ntu
    fsu := { b.fsu with
      cur := some { f with busError := f.busError || decide (acc.addr = none) }
      wbuf := if acc.addr = none then b.fsu.wbuf else b.fsu.wbuf ++ [acc]
      places := if l.bytes.length ≤ 64 * (l.issued + 1) then rest else { l with issued := l.issued + 1 } :: rest
      lines := if l.bytes.length ≤ 64 * (l.issued + 1) then b.fsu.lines + 1 else b.fsu.lines
      crc := if l.bytes.length ≤ 64 * (l.issued + 1) then crcBytes b.fsu.crc l.bytes else b.fsu.crc } }

theorem burstCount_le_iff (bytes : List Byte) (n : Nat) : burstCount bytes ≤ n ↔ bytes.length ≤ 64 * n := by
  unfold burstCount
  omega

theorem issueBurst_full (hw : 8 ≤ b.fsu.wbuf.length) : issueBurst b = none := by
  unfold issueBurst
  split
  · split
    · rfl
    · exact if_pos hw
  · rfl

theorem issueBurst_issues (hc : b.fsu.cur = some f) (hs : f.slot = some slot) (hp : b.fsu.pool = some pool)
    (hl : b.fsu.places = l :: rest) (hw : b.fsu.wbuf.length < 8) :
    issueBurst b = some (burstIssued (nextBurst b pool slot l) f l rest b) := by
  unfold issueBurst
  rw [hc, hp, hl]
  dsimp only
  rw [hs]
  refine (if_neg (Nat.not_le.2 hw)).trans (congrArg some ?_)
  have hlast : l.issued + 1 < burstCount l.bytes ↔ ¬l.bytes.length ≤ 64 * (l.issued + 1) := by
    rw [← burstCount_le_iff, Nat.not_le]
  by_cases hend : l.bytes.length ≤ 64 * (l.issued + 1)
  · rw [if_neg (by rw [hlast]; exact not_not.2 hend)]
    cases ha : (nextBurst b pool slot l).addr with
    | none => simp [burstIssued, ha, hend, hs, lineWritten, memoryFault, latchFault, raise, setFsu]
    | some _ => simp [burstIssued, ha, hend, lineWritten, setFsu]
  · rw [if_pos (hlast.2 hend)]
    cases ha : (nextBurst b pool slot l).addr with
    | none => simp [burstIssued, ha, hend, hs, memoryFault, latchFault, raise, setFsu]
    | some _ => simp [burstIssued, ha, hend, setFsu]

/-- A burst goes out only where a line of a frame with a slot waits and the write buffer has room. -/
theorem of_issueBurst {c : Block} (h : issueBurst b = some c) :
    ∃ f slot pool l rest,
      b.fsu.cur = some f ∧ f.slot = some slot ∧ b.fsu.places = l :: rest ∧
      c = burstIssued (nextBurst b pool slot l) f l rest b := by
  have hroom : b.fsu.wbuf.length < 8 := by
    refine Nat.lt_of_not_le fun hw => ?_
    rw [issueBurst_full hw] at h
    cases h
  cases hc : b.fsu.cur with
  | none => simp [issueBurst, hc] at h
  | some f =>
    cases hp : b.fsu.pool with
    | none => simp [issueBurst, hc, hp] at h
    | some pool =>
      cases hl : b.fsu.places with
      | nil => simp [issueBurst, hc, hp, hl] at h
      | cons l rest =>
        cases hs : f.slot with
        | none => simp [issueBurst, hc, hp, hl, hs] at h
        | some slot =>
          rw [issueBurst_issues hc hs hp hl hroom] at h
          exact ⟨f, slot, pool, l, rest, rfl, hs, rfl, (Option.some.inj h).symm⟩

theorem issueBurst_empty (h : b.fsu.places = []) : issueBurst b = none := by
  unfold issueBurst
  rw [h]
  split
  · next hl => cases hl
  · rfl

end Burst

/-! ### All the bursts that can go out (R166) -/

section Bursts
variable {b c : Block}

/-- The bursts a line has at most left; a line in the buffer always has one. -/
def lineLeft (l : LineBuf) : Nat := max 1 (burstCount l.bytes - l.issued)

/-- The bursts the line buffer has at most left. -/
def burstsOut (b : Block) : Nat := (b.fsu.places.map lineLeft).sum

theorem burstsOut_issueBurst (h : issueBurst b = some c) : burstsOut c < burstsOut b := by
  obtain ⟨f, slot, pool, l, rest, -, -, hl, rfl⟩ := of_issueBurst h
  have hsum : burstsOut b = lineLeft l + (rest.map lineLeft).sum := by rw [burstsOut, hl, List.map_cons, List.sum_cons]
  rw [hsum]
  have hone : 1 ≤ lineLeft l := Nat.le_max_left ..
  by_cases hend : l.bytes.length ≤ 64 * (l.issued + 1)
  · have hplaces : burstsOut (burstIssued (nextBurst b pool slot l) f l rest b) = (rest.map lineLeft).sum := by
      simp only [burstsOut, burstIssued, if_pos hend]
    omega
  · have hplaces : burstsOut (burstIssued (nextBurst b pool slot l) f l rest b) =
        lineLeft { l with issued := l.issued + 1 } + (rest.map lineLeft).sum := by
      simp only [burstsOut, burstIssued, if_neg hend, List.map_cons, List.sum_cons]
    have hmore : l.issued + 1 < burstCount l.bytes := Nat.lt_of_not_le fun hle => hend ((burstCount_le_iff _ _).1 hle)
    have hless : lineLeft { l with issued := l.issued + 1 } < lineLeft l := by
      unfold lineLeft
      dsimp only
      omega
    omega

/-- Fuel above the bursts left makes no difference. -/
theorem issueBursts_fuel (n m : Nat) (hn : burstsOut b ≤ n) (hm : burstsOut b ≤ m) :
    issueBursts n b = issueBursts m b := by
  induction n generalizing b m with
  | zero =>
    cases m with
    | zero => rfl
    | succ m =>
      unfold issueBursts
      cases hc : issueBurst b with
      | none => rfl
      | some c => exact absurd (burstsOut_issueBurst hc) (by omega)
  | succ n ih =>
    cases m with
    | zero =>
      unfold issueBursts
      cases hc : issueBurst b with
      | none => rfl
      | some c => exact absurd (burstsOut_issueBurst hc) (by omega)
    | succ m =>
      unfold issueBursts
      cases hc : issueBurst b with
      | none => rfl
      | some c =>
        have hlt := burstsOut_issueBurst hc
        exact ih m (by omega) (by omega)

theorem issueBursts_none (n : Nat) (h : issueBurst b = none) : issueBursts n b = b := by
  cases n with
  | zero => rfl
  | succ n =>
    unfold issueBursts
    rw [h]

theorem burstsOut_le (hb : ∀ l ∈ b.fsu.places, l.bytes ≠ []) : burstsOut b ≤ burstsLeft b := by
  refine List.sum_le_sum fun l hl => ?_
  have hpos : 0 < l.bytes.length := List.length_pos_iff.2 (hb l hl)
  unfold lineLeft burstCount
  omega

theorem bytes_issueBurst (h : issueBurst b = some c) (hb : ∀ l ∈ b.fsu.places, l.bytes ≠ []) :
    ∀ l ∈ c.fsu.places, l.bytes ≠ [] := by
  obtain ⟨f, slot, pool, x, rest, -, -, hl, rfl⟩ := of_issueBurst h
  rw [hl] at hb
  intro l hmem
  have hcases : l ∈ { x with issued := x.issued + 1 } :: rest := by
    simp only [burstIssued] at hmem
    split at hmem
    · exact .tail _ hmem
    · exact hmem
  rcases List.mem_cons.1 hcases with rfl | hin
  · exact hb x List.mem_cons_self
  · exact hb l (List.mem_cons_of_mem _ hin)

/-- After a burst that can go out, the bursts go on from the block it leaves. -/
theorem pump_issues (h : issueBurst b = some c) (hb : ∀ l ∈ b.fsu.places, l.bytes ≠ []) : pump b = pump c := by
  have hlt := burstsOut_issueBurst h
  have hle := burstsOut_le hb
  have hlec := burstsOut_le (bytes_issueBurst h hb)
  obtain ⟨n, hn⟩ : ∃ n, burstsLeft b = n + 1 := Nat.exists_eq_add_of_le' (by omega)
  have hstep : issueBursts (burstsLeft b) b = issueBursts n c := by
    rw [hn, issueBursts, h]
  unfold pump
  rw [hstep, issueBursts_fuel n (burstsLeft c) (by omega) hlec]

theorem pump_none (h : issueBurst b = none) : pump b = tryPublish (checkAnswered b) := by
  unfold pump
  rw [issueBursts_none _ h]

theorem checkAnswered_waits {f : StoreFrame} (hc : b.fsu.cur = some f)
    (h : f.slot = none ∨ f.frameEnded = false ∨ b.fsu.places ≠ [] ∨ b.fsu.wbuf ≠ []) : checkAnswered b = b := by
  unfold checkAnswered
  rw [hc]
  refine if_neg fun hall => ?_
  simp only [Bool.and_eq_true, Option.isSome_iff_ne_none, List.isEmpty_iff] at hall
  obtain ⟨⟨⟨hs, he⟩, hp⟩, hw⟩ := hall
  rcases h with h | h | h | h
  · exact hs h
  · exact Bool.false_ne_true (h.symm.trans he)
  · exact h hp
  · exact h hw

theorem checkAnswered_marks {f : StoreFrame} (hc : b.fsu.cur = some f) (hs : f.slot ≠ none) (he : f.frameEnded = true)
    (hp : b.fsu.places = []) (hw : b.fsu.wbuf = []) :
    checkAnswered b = { b with fsu := { b.fsu with cur := some { f with answered := true } } } := by
  unfold checkAnswered
  rw [hc]
  exact if_pos (by simp [Option.isSome_iff_ne_none, hs, he, hp, hw])

/-- Nothing goes out and no condition is complete: nothing changes. -/
theorem pump_still {f : StoreFrame} (h : issueBurst b = none) (hc : b.fsu.cur = some f)
    (hwait : f.slot = none ∨ f.frameEnded = false ∨ b.fsu.places ≠ [] ∨ b.fsu.wbuf ≠ [])
    (hpub : f.slot = none ∨ f.ready = false ∨ b.fsu.recWrite ≠ none) : pump b = b := by
  rw [pump_none h, checkAnswered_waits hc hwait, tryPublish_waits hc hpub]

end Bursts

/-! ### What the bursts and the conditions leave -/

/-- A frame with the two marks that its bursts make put aside. -/
def frameCore (f : StoreFrame) : StoreFrame := { f with busError := false, answered := false }

/-- What the bursts and the publication conditions leave of the frame store and of SLOT_WAIT. -/
structure PumpKept (b c : Block) : Prop where
  cur : c.fsu.cur.map frameCore = b.fsu.cur.map frameCore
  p : c.fsu.p = b.fsu.p
  heldQ : c.fsu.heldQ = b.fsu.heldQ
  qReads : c.fsu.qReads = b.fsu.qReads
  slotWait : c.ntu.slotWait = b.ntu.slotWait

section Kept
variable {a b c : Block}

theorem PumpKept.refl (b : Block) : PumpKept b b := ⟨rfl, rfl, rfl, rfl, rfl⟩

theorem PumpKept.trans (h : PumpKept a b) (g : PumpKept b c) : PumpKept a c :=
  ⟨g.cur.trans h.cur, g.p.trans h.p, g.heldQ.trans h.heldQ, g.qReads.trans h.qReads, g.slotWait.trans h.slotWait⟩

theorem issueBurst_pumpKept (h : issueBurst b = some c) : PumpKept b c := by
  obtain ⟨f, slot, pool, l, rest, hc, -, -, rfl⟩ := of_issueBurst h
  refine ⟨?_, rfl, rfl, rfl, ?_⟩
  · rw [hc]
    rfl
  · unfold burstIssued
    dsimp only
    split
    · exact slotWait_setFlag ..
    · rfl

theorem issueBursts_pumpKept (n : Nat) (b : Block) : PumpKept b (issueBursts n b) := by
  induction n generalizing b with
  | zero => exact PumpKept.refl b
  | succ n ih =>
    unfold issueBursts
    split
    · exact PumpKept.refl b
    · exact (issueBurst_pumpKept ‹_›).trans (ih _)

theorem checkAnswered_pumpKept (b : Block) : PumpKept b (checkAnswered b) := by
  unfold checkAnswered
  split
  · exact PumpKept.refl b
  · next f hc =>
    split
    · exact ⟨by rw [hc]; rfl, rfl, rfl, rfl, rfl⟩
    · exact PumpKept.refl b

theorem tryPublish_fsu (b : Block) : ∃ w, tryPublish b = { b with fsu := { b.fsu with recWrite := w } } := by
  unfold tryPublish
  split
  · exact ⟨b.fsu.recWrite, rfl⟩
  · split
    · exact ⟨b.fsu.recWrite, rfl⟩
    · split
      · exact ⟨_, rfl⟩
      · exact ⟨b.fsu.recWrite, rfl⟩

theorem tryPublish_pumpKept (b : Block) : PumpKept b (tryPublish b) := by
  obtain ⟨w, hw⟩ := tryPublish_fsu b
  rw [hw]
  exact ⟨rfl, rfl, rfl, rfl, rfl⟩

theorem pump_pumpKept (b : Block) : PumpKept b (pump b) :=
  ((issueBursts_pumpKept _ b).trans (checkAnswered_pumpKept _)).trans (tryPublish_pumpKept _)

/-- With no line in the buffer, the lines written and their CRC stay. -/
theorem pump_lines (h : b.fsu.places = []) : (pump b).fsu.lines = b.fsu.lines ∧ (pump b).fsu.crc = b.fsu.crc := by
  rw [pump_none (issueBurst_empty h)]
  obtain ⟨w, hw⟩ := tryPublish_fsu (checkAnswered b)
  rw [hw]
  unfold checkAnswered
  split
  · exact ⟨rfl, rfl⟩
  · split <;> exact ⟨rfl, rfl⟩

end Kept

end Sys2Proof.Machine
end

section
/-!
PROOFS. Capture control at a frame-start, and the burst that max wait starts (R149, R150).
-/

namespace Sys2Proof.Machine

/-! ### The notes of a frame that passes (log 68) -/

section Notes
variable {b h : Block} {k : Word} {jump : Bool}

/-- A frame-start that only drops notes, by whether a candidate waits for its slot. -/
theorem capFrameStart_passes (hcur : h.fsu.cur = b.fsu.cur) (he : capFrameStart k jump b = dropPassedNotes k h) :
    ((∃ f, b.fsu.cur = some f ∧ f.slot = none) → capFrameStart k jump b = h) ∧
    (¬(∃ f, b.fsu.cur = some f ∧ f.slot = none) →
      capFrameStart k jump b =
        { h with fsu := { h.fsu with notes := h.fsu.notes.filter fun n => frameAbove n.k k } }) := by
  rw [he, ← hcur]
  exact ⟨fun ⟨_, hc, hf⟩ => dropPassedNotes_pending k hc hf, dropPassedNotes_free k⟩

theorem dropPassedNotes_cur (k : Word) (b : Block) : (dropPassedNotes k b).fsu.cur = b.fsu.cur := by
  unfold dropPassedNotes
  split <;> rfl

end Notes

/-! ### A candidate (R150) -/

section Candidate
variable {b : Block} {k : Word} {jump : Bool} {p : CapParams}

/-- The stride of the plan that runs. -/
def strideOf (c : Cap) : Nat := (c.prm.map (·.stride)).getD 1

theorem strideOf_some (hp : b.cap.prm = some p) : strideOf b.cap = p.stride := by
  rw [strideOf, hp]
  rfl

theorem candidate_off (hoff : (k - b.cap.kFirst).toNat % strideOf b.cap ≠ 0) :
    candidate k jump b = dropPassedNotes k b :=
  if_pos hoff

theorem candidate_on (hon : (k - b.cap.kFirst).toNat % strideOf b.cap = 0) :
    candidate k jump b =
      if (entryOf b k).isNone ∨ b.cap.filling = true ∨ b.fsu.cur.isSome then dropPassedNotes k (skipOther b)
      else
        { b with fsu := { b.fsu with
          cur := some (candidateFrame b k jump), line := none, places := [], overrun := false
          qReads := attachRequest k b.fsu.qReads } } :=
  if_neg (not_not.2 hon)

theorem candidate_skips (hon : (k - b.cap.kFirst).toNat % strideOf b.cap = 0)
    (h : entryOf b k = none ∨ b.cap.filling = true ∨ b.fsu.cur ≠ none) :
    candidate k jump b = dropPassedNotes k (skipOther b) :=
  (candidate_on hon).trans (if_pos (h.imp Option.isNone_iff_eq_none.2 (.imp id Option.isSome_iff_ne_none.2)))

theorem candidate_asks (hon : (k - b.cap.kFirst).toNat % strideOf b.cap = 0)
    (he : entryOf b k ≠ none) (hf : b.cap.filling = false) (hc : b.fsu.cur = none) :
    candidate k jump b =
      { b with fsu := { b.fsu with
        cur := some (candidateFrame b k jump), line := none, places := [], overrun := false
        qReads := attachRequest k b.fsu.qReads } } := by
  refine (candidate_on hon).trans (if_neg fun h => ?_)
  rw [hf, hc] at h
  exact h.elim (fun h => he (Option.isNone_iff_eq_none.1 h)) fun h => h.elim nofun nofun

/-- The newest read of Q carries the request. -/
theorem attachRequest_append (k : Word) (reads : List QRead) (q : QRead) :
    attachRequest k (reads ++ [q]) = reads ++ [{ q with request := some k }] := by
  simp [attachRequest]

/-- A candidate changes one skipped count of capture control at most. -/
theorem candidate_cap (k : Word) (jump : Bool) (b : Block) :
    ∃ n, (candidate k jump b).cap = { b.cap with skipOther := n } := by
  have hdrop : ∀ c : Block, (dropPassedNotes k c).cap = c.cap := fun c =>
    dropPassedNotes_frame k (Among.refl _) (Changes.refl _ c) .cap (by decide)
  unfold candidate
  dsimp only
  split
  · exact ⟨b.cap.skipOther, hdrop b⟩
  · split
    · exact ⟨b.cap.skipOther + 1, hdrop (skipOther b)⟩
    · exact ⟨b.cap.skipOther, rfl⟩

theorem candidate_same (k : Word) (jump : Bool) (b : Block) {f : Fld} (h : f ∉ [.cap, .fsu]) :
    Agree b (candidate k jump b) f :=
  candidate_frame k jump (Among.refl _) (Changes.refl _ b) f h

end Candidate

/-! ### The burst that starts -/

section Begin
variable {b : Block} {k : Word} {jump : Bool}

/-- Capture control in STORING from frame k on. -/
def burstBegun (k : Word) (kind : StartKind) (b : Block) : Block :=
  { b with cap := { b.cap with
      state := .storing, kFirst := k, startKind := kind, unsettled := decide (kind = .unsettled) } }

theorem capBegin_eq (k : Word) (jump : Bool) (kind : StartKind) (b : Block) :
    capBegin k jump kind b = capFrameStart k jump (burstBegun k kind b) := rfl

theorem capFrameStart_storing (h : b.cap.state = .storing) : capFrameStart k jump b = candidate k jump b := by
  unfold capFrameStart
  rw [h]

theorem capFrameStart_idle (ha : b.cap.state ≠ .armed) (hs : b.cap.state ≠ .storing) :
    capFrameStart k jump b = dropPassedNotes k b := by
  unfold capFrameStart
  split
  · exact absurd ‹_› ha
  · exact absurd ‹_› hs
  · rfl

/-- A wait counted. -/
def waitCounted (b : Block) : Block := { b with cap := { b.cap with wait := b.cap.wait + 1 } }

/-- ARMED, by the start the plan asks for and the settled flag. -/
theorem capFrameStart_armed {p : CapParams} (h : b.cap.state = .armed) (hp : b.cap.prm = some p) :
    capFrameStart k jump b =
      if p.settledStart = false then capBegin k jump .next b
      else if b.exu.settled then capBegin k jump .settled b
      else
        if p.maxWait ≤ b.cap.wait + 1 then markDue .captureMaxWait (waitCounted b)
        else dropPassedNotes k (waitCounted b) := by
  unfold capFrameStart
  rw [h]
  dsimp only
  rw [hp]
  rfl

theorem capFrameStart_waits {p : CapParams} (h : b.cap.state = .armed) (hp : b.cap.prm = some p)
    (hs : p.settledStart = true) (hu : b.exu.settled = false) :
    capFrameStart k jump b =
      if p.maxWait ≤ b.cap.wait + 1 then markDue .captureMaxWait (waitCounted b)
      else dropPassedNotes k (waitCounted b) := by
  rw [capFrameStart_armed h hp, if_neg (by rw [hs]; nofun), if_neg (by rw [hu]; nofun)]

/-- Whether the frame-start carried PERIOD_JUMP, for the frame in progress. -/
def jumpNow (b : Block) : Bool := (b.stu.frame.map (·.periodJump)).getD false

theorem capMaxWait_armed (h : b.cap.state = .armed) :
    capMaxWait b = candidate b.ftu.frameNo (jumpNow b) (burstBegun b.ftu.frameNo .unsettled b) :=
  if_pos h

/-- The first frame of a burst is on any stride. -/
theorem burstBegun_on (k : Word) (kind : StartKind) (b : Block) (n : Nat) :
    (k - (burstBegun k kind b).cap.kFirst).toNat % n = 0 := by
  change (k - k).toNat % n = 0
  rw [BitVec.sub_self]
  exact Nat.zero_mod n

end Begin

/-- CAPTURE_MAX_WAIT starts an armed burst at the frame in progress. -/
theorem captureMaxWait_begins (s : State) (b : Block) (hd : .captureMaxWait ∈ s.due)
    (hb : dropDue .captureMaxWait s.toBlock = b) (h : b.cap.state = .armed) :
    ∃ b' : Block,
      Runs .captureMaxWait s b' ∧ b'.cap.state = .storing ∧ b'.cap.kFirst = b.ftu.frameNo ∧
      b'.cap.startKind = .unsettled ∧ b'.cap.unsettled = true ∧ b'.ple = b.ple ∧ b'.ntu = b.ntu ∧
      (entryOf b b.ftu.frameNo ≠ none → b.cap.filling = false → b.fsu.cur = none →
        ∃ f, b'.fsu.cur = some f ∧ f.k = b.ftu.frameNo ∧ f.slot = none) ∧
      (entryOf b b.ftu.frameNo = none → b'.cap.skipOther = b.cap.skipOther + 1 ∧ b'.fsu.cur = b.fsu.cur) := by
  let k := b.ftu.frameNo
  let c := burstBegun k .unsettled b
  let b' := candidate k (jumpNow b) c
  have hon : (k - c.cap.kFirst).toNat % strideOf c.cap = 0 := burstBegun_on ..
  obtain ⟨n, hcap⟩ := candidate_cap k (jumpNow b) c
  refine ⟨b', (runs_captureMaxWait hd hb).of_eq (capMaxWait_armed h), congrArg Cap.state hcap, congrArg Cap.kFirst hcap,
    congrArg Cap.startKind hcap, congrArg Cap.unsettled hcap, candidate_same k (jumpNow b) c (f := .ple) (by decide),
    candidate_same k (jumpNow b) c (f := .ntu) (by decide), fun he hf hc => ?_, fun he => ?_⟩
  · have hask : b' = _ := candidate_asks (b := c) hon he hf hc
    exact ⟨candidateFrame c k (jumpNow b), congrArg (fun x : Block => x.fsu.cur) hask, rfl, rfl⟩
  · have hskip : b' = dropPassedNotes k (skipOther c) := candidate_skips (b := c) hon (.inl he)
    rw [hskip]
    have hcap := dropPassedNotes_frame k (Among.refl _) (Changes.refl _ (skipOther c)) .cap (by decide)
    exact ⟨congrArg Cap.skipOther hcap, dropPassedNotes_cur k (skipOther c)⟩

/-- A frame-start at capture control, by its state. -/
theorem capFrameStart_cases (b : Block) (k : Word) (jump : Bool) (p : CapParams) (hp : b.cap.prm = some p) :
    let pending := ∃ f, b.fsu.cur = some f ∧ f.slot = none
    let passes := fun h : Block =>
      (pending → capFrameStart k jump b = h) ∧
      (¬pending → capFrameStart k jump b =
        { h with fsu := { h.fsu with notes := h.fsu.notes.filter fun n => frameAbove n.k k } })
    let begun := fun kind : StartKind =>
      { b with cap := { b.cap with
          state := .storing, kFirst := k, startKind := kind, unsettled := decide (kind = .unsettled) } }
    let waited : Block := { b with cap := { b.cap with wait := b.cap.wait + 1 } }
    let on := (k - b.cap.kFirst).toNat % p.stride = 0
    (b.cap.state = .armed → p.settledStart = false → capFrameStart k jump b = capFrameStart k jump (begun .next)) ∧
    (b.cap.state = .armed → p.settledStart = true → b.exu.settled = true →
      capFrameStart k jump b = capFrameStart k jump (begun .settled)) ∧
    (b.cap.state = .armed → p.settledStart = true → b.exu.settled = false →
      (b.cap.wait + 1 < p.maxWait → passes waited) ∧
      (p.maxWait ≤ b.cap.wait + 1 → .captureMaxWait ∉ b.due →
        capFrameStart k jump b = { waited with due := b.due ++ [.captureMaxWait] })) ∧
    (b.cap.state = .storing → ¬on → passes b) ∧
    (b.cap.state = .storing → on → (entryOf b k = none ∨ b.cap.filling = true ∨ b.fsu.cur ≠ none) →
      passes { b with cap := { b.cap with skipOther := b.cap.skipOther + 1 } }) ∧
    (∀ (q : QRead) (reads : List QRead), b.cap.state = .storing → on → entryOf b k ≠ none → b.cap.filling = false →
      b.fsu.cur = none → b.fsu.qReads = reads ++ [q] →
      ∃ f : StoreFrame,
        capFrameStart k jump b =
          { b with fsu := { b.fsu with
              cur := some f, line := none, places := [], overrun := false
              qReads := reads ++ [{ q with request := some k }] } } ∧
        f.k = k ∧ f.slot = none ∧ f.truncated = false ∧ f.busError = false ∧ f.periodJump = jump ∧ f.entry = none ∧
        f.unsettled = (b.cap.unsettled && !b.exu.settled) ∧ f.m = 0 ∧ f.e = 0 ∧
        f.frameEnded = false ∧ f.statsHandled = false ∧ f.metered = false ∧ f.answered = false ∧
        f.focusOpen = position b.focus) ∧
    (b.cap.state ≠ .armed → b.cap.state ≠ .storing → passes b) := by
  intro pending passes begun waited on
  have hstride := strideOf_some hp
  refine ⟨fun ha hs => ?_, fun ha hs hu => ?_, fun ha hs hu => ⟨fun hw => ?_, fun hw hd => ?_⟩, fun hst hoff => ?_,
    fun hst hon hskip => ?_, fun q reads hst hon he hf hc hq => ?_,
    fun ha hs => capFrameStart_passes rfl (capFrameStart_idle ha hs)⟩
  · exact (capFrameStart_armed ha hp).trans ((if_pos hs).trans (capBegin_eq ..))
  · exact (capFrameStart_armed ha hp).trans ((if_neg (by rw [hs]; nofun)).trans ((if_pos hu).trans (capBegin_eq ..)))
  · exact capFrameStart_passes (h := waited) rfl ((capFrameStart_waits ha hp hs hu).trans (if_neg (Nat.not_le.2 hw)))
  · exact (capFrameStart_waits ha hp hs hu).trans ((if_pos hw).trans (markDue_new (b := waited) hd))
  · exact capFrameStart_passes rfl ((capFrameStart_storing hst).trans (candidate_off (hstride ▸ hoff)))
  · exact capFrameStart_passes (h := skipOther b) rfl
      ((capFrameStart_storing hst).trans (candidate_skips (hstride ▸ hon) hskip))
  · refine ⟨candidateFrame b k jump, ?_, rfl, rfl, rfl, rfl, rfl, rfl, rfl, rfl, rfl, rfl, rfl, rfl, rfl, rfl⟩
    rw [capFrameStart_storing hst, candidate_asks (hstride ▸ hon) he hf hc, hq, attachRequest_append]

end Sys2Proof.Machine
end

section
/-!
PROOFS. The slot request and its decision (R151, R152, R161, R162).
-/

namespace Sys2Proof.Machine

/-! ### Draining -/

section Drain
variable {b : Block}

theorem capDrain_filling (cause : PlanOutcome) (h : b.cap.filling = true) :
    capDrain cause b =
      { b with cap := { b.cap with state := .draining, endCause := some (mergeCause b.cap.endCause cause) } } :=
  if_pos h

theorem capDrain_ends (cause : PlanOutcome) (h : b.cap.filling = false) :
    capDrain cause b =
      capFinish (withdrawRequest
        { b with cap := { b.cap with state := .draining, endCause := some (mergeCause b.cap.endCause cause) } }) :=
  if_neg fun hf : b.cap.filling = true => Bool.false_ne_true (h.symm.trans hf)

end Drain

/-! ### A slot is given (R151, R161) -/

section Given
variable {b : Block} {f : StoreFrame} {pool : Pool} {p : CapParams}

/-- The candidate with its slot. -/
def frameGiven (f : StoreFrame) (pool : Pool) (b : Block) : StoreFrame :=
  { f with
    slot := some (b.fsu.p.toNat % pool.n), index := b.cap.reserved, focusOpen := (noteOf b f.k).getD f.focusOpen }

/-- The block with the slot given, before bursts go out. -/
def slotGiven (f : StoreFrame) (pool : Pool) (b : Block) : Block :=
  { b with
    ntu := { b.ntu with slotWait := false }
    cap := { b.cap with reserved := b.cap.reserved + 1, filling := true }
    fsu := { b.fsu with
      cur := some (frameGiven f pool b), lines := 0, crc := 0xFFFFFFFF#32
      notes := b.fsu.notes.filter fun n => frameAbove n.k f.k } }

/-- Capture control after a slot is given: the count may be reached. -/
def capGiven (p : CapParams) (c : Cap) : Cap :=
  if p.count ≠ 0 ∧ c.reserved + 1 = p.count then
    { c with
      reserved := c.reserved + 1, filling := true, state := .draining, endCause := some (mergeCause c.endCause .ok) }
  else { c with reserved := c.reserved + 1, filling := true }

theorem giveSlot_eq (hp : b.cap.prm = some p) :
    giveSlot f pool b = { pump (slotGiven f pool b) with cap := capGiven p b.cap } := by
  have hcap : (pump (slotGiven f pool b)).cap = (slotGiven f pool b).cap := pump_same _ (f := .cap) (by decide)
  have hcount : ((pump (slotGiven f pool b)).cap.prm.map (·.count)).getD 0 = p.count := by
    rw [hcap]
    exact congrArg (fun o : Option CapParams => (o.map (·.count)).getD 0) hp
  have hres : (pump (slotGiven f pool b)).cap.reserved = b.cap.reserved + 1 := congrArg Cap.reserved hcap
  have hfill : (pump (slotGiven f pool b)).cap.filling = true := congrArg Cap.filling hcap
  change (if ((pump (slotGiven f pool b)).cap.prm.map (·.count)).getD 0 ≠ 0 ∧
      (pump (slotGiven f pool b)).cap.reserved = ((pump (slotGiven f pool b)).cap.prm.map (·.count)).getD 0 then
    capDrain .ok (pump (slotGiven f pool b)) else pump (slotGiven f pool b)) = _
  rw [hcount, hres, capDrain_filling _ hfill]
  unfold capGiven
  split
  · rw [hcap]
    rfl
  · exact congrArg (fun c => { pump (slotGiven f pool b) with cap := c }) hcap

theorem noteOf_some {n : Note} {k : Word} (h : b.fsu.notes.find? (fun x => x.k == k) = some n) :
    noteOf b k = some n.focus := by
  unfold noteOf
  rw [h]
  rfl

theorem noteOf_none {k : Word} (h : ∀ n ∈ b.fsu.notes, n.k ≠ k) : noteOf b k = none := by
  unfold noteOf
  rw [List.find?_eq_none.2 fun n hn => by simpa using h n hn]
  rfl

/-- The frame that fills once the slot is given. -/
theorem giveSlot_cur (hp : b.cap.prm = some p) :
    ∃ f' : StoreFrame, (giveSlot f pool b).fsu.cur = some f' ∧ frameCore f' = frameCore (frameGiven f pool b) := by
  have hcur : (giveSlot f pool b).fsu.cur.map frameCore = some (frameCore (frameGiven f pool b)) := by
    rw [giveSlot_eq hp]
    exact (pump_pumpKept (slotGiven f pool b)).cur
  exact Option.map_eq_some_iff.1 hcur

end Given

/-! ### No slot is free (R151) -/

section Refused
variable {b : Block} {f : StoreFrame} {p : CapParams}

/-- The frame store with the candidate withdrawn and its notes dropped. -/
def requestDropped (f : StoreFrame) (b : Block) : Block :=
  { b with fsu := { b.fsu with
    cur := none, line := none, places := [], overrun := false
    qReads := b.fsu.qReads.map fun q => { q with request := none }
    notes := b.fsu.notes.filter fun n => frameAbove n.k f.k } }

theorem noSlot_eq (hc : b.fsu.cur = some f) (hs : f.slot = none) (hp : b.cap.prm = some p) :
    noSlot f b =
      if p.endPolicy then capDrain .short (requestDropped f b)
      else
        { requestDropped f b with
          cap := { b.cap with skipSlot := b.cap.skipSlot + 1 }, ntu := setCondIn .slotWait true b.ntu } := by
  have hdrop : pruneNotes f.k (withdrawRequest b) = requestDropped f b := by
    rw [withdrawRequest_asking hc hs]
    rfl
  have hpolicy : ((requestDropped f b).cap.prm.map (·.endPolicy)).getD false = p.endPolicy :=
    congrArg (fun o : Option CapParams => (o.map (·.endPolicy)).getD false) hp
  unfold noSlot
  rw [hdrop]
  dsimp only
  rw [hpolicy]
  rfl

/-- A condition set to a value has it. -/
theorem slotWait_setCondIn (n : Ntu) : (setCondIn .slotWait true n).slotWait = true := by
  unfold setCondIn
  split
  · exact slotWait_setFlag ..
  · rfl

end Refused

/-! ### The decision (R161) -/

section Decide
variable {b : Block} {f : StoreFrame} {pool : Pool}

theorem freeSlots_asking (hc : b.fsu.cur = some f) (hs : f.slot = none) (hp : b.fsu.pool = some pool) :
    freeSlots b = pool.n - (b.fsu.p - b.fsu.heldQ).toNat := by
  unfold freeSlots fillingCount
  rw [hc, hp]
  dsimp only
  rw [hs]
  rfl

theorem decideSlot_eq (hc : b.fsu.cur = some f) (hs : f.slot = none) (hp : b.fsu.pool = some pool) :
    decideSlot f.k b =
      if 1 ≤ pool.n - (b.fsu.p - b.fsu.heldQ).toNat then giveSlot f pool b else noSlot f b := by
  rw [← freeSlots_asking hc hs hp]
  unfold decideSlot
  rw [hc, hp]
  exact if_pos ⟨rfl, hs⟩

end Decide

/-- What the answer to the read that carries a request leaves, before the decision. -/
structure Answered (q : QRead) (rest : List QRead) (r : ReadResp) (b c : Block) : Prop where
  cur : c.fsu.cur = b.fsu.cur
  pool : c.fsu.pool = b.fsu.pool
  p : c.fsu.p = b.fsu.p
  heldQ : c.fsu.heldQ = heldAfter q r b
  qReads : c.fsu.qReads = rest
  places : c.fsu.places = b.fsu.places
  notes : c.fsu.notes = b.fsu.notes
  ple : c.ple = b.ple
  cap : c.cap = b.cap
  writes : ∀ o d, writeAt c o d = writeAt b o d

theorem qAnswered_answered (q : QRead) (rest : List QRead) (r : ReadResp) (b : Block) :
    Answered q rest r b (qAnswered q rest r b) := by
  obtain ⟨regs, ntu, refused, -, hbase, hlimit, heq⟩ := qAnswered_fields q rest r b
  rw [heq]
  exact ⟨rfl, rfl, rfl, rfl, rfl, rfl, rfl, rfl, rfl, writeAt_congr hbase hlimit⟩

section Decision
variable {b : Block} {q : QRead} {rest : List QRead} {r : ReadResp} {f : StoreFrame} {pool : Pool} {p : CapParams}

/-- The request is decided by the free count that the answer leaves. -/
theorem qResponse_eq (hq : b.fsu.qReads = q :: rest) (hr : q.request = some f.k) (hc : b.fsu.cur = some f)
    (hs : f.slot = none) (hp : b.fsu.pool = some pool) :
    qResponse r b =
      if 1 ≤ pool.n - (b.fsu.p - heldAfter q r b).toNat then giveSlot f pool (qAnswered q rest r b)
      else noSlot f (qAnswered q rest r b) := by
  have hans := qAnswered_answered q rest r b
  rw [qResponse_decides hq hr, decideSlot_eq (hans.cur.trans hc) hs (hans.pool.trans hp), hans.p, hans.heldQ]

/-- A slot is free. -/
theorem giveSlot_result (hprm : b.cap.prm = some p)
    (hfree : 1 ≤ pool.n - (b.fsu.p - heldAfter q r b).toNat) :
    let b' := giveSlot f pool (qAnswered q rest r b)
    ∃ f' : StoreFrame,
      b'.fsu.cur = some f' ∧ f'.k = f.k ∧ f'.truncated = f.truncated ∧
      f'.slot = some (b.fsu.p.toNat % pool.n) ∧ f'.index = b.cap.reserved ∧
      b'.cap.reserved = b.cap.reserved + 1 ∧ b'.cap.filling = true ∧ b'.ntu.slotWait = false ∧
      b'.fsu.p = b.fsu.p ∧ b'.fsu.heldQ = heldAfter q r b ∧ b'.fsu.qReads = rest ∧ b'.ple = b.ple ∧
      (b'.fsu.p - b'.fsu.heldQ).toNat + 1 ≤ pool.n ∧
      b'.fsu.notes = (b.fsu.notes.filter fun n => frameAbove n.k f.k) ∧
      (∀ n, b.fsu.notes.find? (fun x => x.k == f.k) = some n → f'.focusOpen = n.focus) ∧
      ((∀ n ∈ b.fsu.notes, n.k ≠ f.k) → f'.focusOpen = f.focusOpen) ∧
      (b.fsu.places = [] → b'.fsu.lines = 0 ∧ b'.fsu.crc = 0xFFFFFFFF#32) ∧
      (p.count ≠ 0 → b.cap.reserved + 1 = p.count → b.cap.endCause = none →
        b'.cap.state = .draining ∧ b'.cap.endCause = some .ok) ∧
      (p.count = 0 ∨ b.cap.reserved + 1 ≠ p.count →
        b'.cap.state = b.cap.state ∧ b'.cap.endCause = b.cap.endCause) := by
  intro b'
  let c := qAnswered q rest r b
  have hans := qAnswered_answered q rest r b
  have hprm' : c.cap.prm = some p := (congrArg Cap.prm hans.cap).trans hprm
  have heq : b' = { pump (slotGiven f pool c) with cap := capGiven p c.cap } := giveSlot_eq hprm'
  have hkept := pump_pumpKept (slotGiven f pool c)
  have hcap : b'.cap = capGiven p b.cap := (congrArg Block.cap heq).trans (congrArg (capGiven p) hans.cap)
  have hcfsu : b'.fsu = (pump (slotGiven f pool c)).fsu := (congrArg Block.fsu heq :)
  have hp : b'.fsu.p = b.fsu.p := by
    rw [hcfsu, hkept.p]
    exact hans.p
  have hq : b'.fsu.heldQ = heldAfter q r b := by
    rw [hcfsu, hkept.heldQ]
    exact hans.heldQ
  obtain ⟨f', hcur, hcore⟩ := giveSlot_cur (f := f) (pool := pool) hprm'
  have hopen : f'.focusOpen = (noteOf c f.k).getD f.focusOpen := congrArg StoreFrame.focusOpen hcore
  have hnote : noteOf c f.k = noteOf b f.k := by
    unfold noteOf
    rw [hans.notes]
  rw [hnote] at hopen
  refine ⟨f', hcur, (congrArg StoreFrame.k hcore :), (congrArg StoreFrame.truncated hcore :), ?_, ?_, ?_, ?_, ?_,
    hp, hq, ?_, ?_, ?_, ?_, fun n hn => ?_, fun hno => ?_, fun hl => ?_, fun h0 h1 h2 => ?_, fun h => ?_⟩
  · exact (congrArg StoreFrame.slot hcore :).trans (congrArg (fun x : Word => some (x.toNat % pool.n)) hans.p)
  · exact (congrArg StoreFrame.index hcore :).trans (congrArg Cap.reserved hans.cap)
  · rw [hcap]
    unfold capGiven
    split <;> rfl
  · rw [hcap]
    unfold capGiven
    split <;> rfl
  · exact (congrArg (fun x : Block => x.ntu.slotWait) heq).trans hkept.slotWait
  · rw [hcfsu, hkept.qReads]
    exact hans.qReads
  · refine (congrArg Block.ple heq).trans ?_
    exact (pump_same (slotGiven f pool c) (f := .ple) (by decide)).trans hans.ple
  · rw [hp, hq]
    omega
  · rw [hcfsu, (pump_notes (slotGiven f pool c)).1]
    exact congrArg (List.filter fun n : Note => frameAbove n.k f.k) hans.notes
  · rw [hopen, noteOf_some hn]
    rfl
  · rw [hopen, noteOf_none hno]
    rfl
  · rw [hcfsu]
    exact pump_lines (hans.places.trans hl)
  · rw [hcap, capGiven, if_pos ⟨h0, h1⟩, h2]
    exact ⟨rfl, rfl⟩
  · rw [hcap, capGiven, if_neg fun hc => h.elim hc.1 fun hne => hne hc.2]
    exact ⟨rfl, rfl⟩

/-- No slot is free and the policy is WAIT. -/
theorem noSlot_waits (hc : b.fsu.cur = some f) (hs : f.slot = none) (hprm : b.cap.prm = some p)
    (hpolicy : p.endPolicy = false) :
    let b' := noSlot f (qAnswered q rest r b)
    b'.fsu.cur = none ∧ b'.fsu.line = none ∧ b'.fsu.places = [] ∧
    b'.ntu.slotWait = true ∧ b'.cap = { b.cap with skipSlot := b.cap.skipSlot + 1 } ∧ b'.fsu.p = b.fsu.p ∧
    b'.fsu.heldQ = heldAfter q r b ∧ b'.fsu.notes = (b.fsu.notes.filter fun n => frameAbove n.k f.k) ∧
    b'.ple = b.ple := by
  intro b'
  let c := qAnswered q rest r b
  have hans := qAnswered_answered q rest r b
  have heq : b' = { requestDropped f c with
      cap := { c.cap with skipSlot := c.cap.skipSlot + 1 }, ntu := setCondIn .slotWait true c.ntu } :=
    (noSlot_eq (b := c) (hans.cur.trans hc) hs ((congrArg Cap.prm hans.cap).trans hprm)).trans
      (if_neg (by rw [hpolicy]; nofun))
  rw [heq]
  refine ⟨rfl, rfl, rfl, slotWait_setCondIn _, ?_, hans.p, hans.heldQ, ?_, hans.ple⟩
  · exact congrArg (fun x : Cap => { x with skipSlot := x.skipSlot + 1 }) hans.cap
  · exact congrArg (List.filter fun n : Note => frameAbove n.k f.k) hans.notes

/-- No slot is free and the policy is END: the plan ends SHORT. -/
theorem noSlot_ends (hc : b.fsu.cur = some f) (hs : f.slot = none) (hprm : b.cap.prm = some p)
    (hpolicy : p.endPolicy = true) (hfill : b.cap.filling = false) (hcause : b.cap.endCause = none) :
    let b' := noSlot f (qAnswered q rest r b)
    b'.fsu.cur = none ∧ b'.fsu.heldQ = heldAfter q r b ∧
    b'.fsu.notes = (b.fsu.notes.filter fun n => frameAbove n.k f.k) ∧
    b'.cap.state = .ended ∧ b'.ntu.slotWait = false ∧ b'.exu.lock = false ∧ b'.afu.cafActive = false ∧
    ∀ t, takenOf b .capture = some t → t.ending = .running →
      ∃ e, takenOf b' .capture = some { t with ending := .results e } ∧ e.fin = .done ∧
        (ResultWrite.outcome, writeAt b (t.offset + 3) [17#8]) ∈ e.outstanding ∧
        (ResultWrite.word, writeAt b (t.offset + 12) (leWord b.cap.stored)) ∈ e.outstanding := by
  intro b'
  let c := qAnswered q rest r b
  have hans := qAnswered_answered q rest r b
  let d : Block := { requestDropped f c with
    cap := { c.cap with state := .draining, endCause := some (mergeCause c.cap.endCause .short) } }
  have heq : b' = capFinish d := by
    refine (noSlot_eq (b := c) (hans.cur.trans hc) hs ((congrArg Cap.prm hans.cap).trans hprm)).trans ?_
    have hidle : (requestDropped f c).cap.filling = false := (congrArg Cap.filling hans.cap).trans hfill
    refine (if_pos hpolicy).trans ((capDrain_ends .short hidle).trans ?_)
    exact congrArg capFinish (withdrawRequest_none (b := d) rfl)
  have hcap : d.cap = { b.cap with state := .draining, endCause := some .short } := by
    refine (congrArg (fun x : Cap => { x with state := .draining, endCause := some (mergeCause x.endCause .short) })
      hans.cap).trans ?_
    dsimp only
    rw [hcause]
    rfl
  have hfinfsu : b'.fsu = d.fsu := heq ▸ capFinish_same d (f := .fsu) (by decide)
  rw [hfinfsu]
  refine ⟨rfl, hans.heldQ, congrArg (List.filter fun n : Note => frameAbove n.k f.k) hans.notes, ?_, ?_, ?_, ?_,
    fun t ht hrun => ?_⟩
  · rw [heq, capFinish_cap]
  · rw [heq, capFinish_ntu]
  · rw [heq, capFinish_exu]
  · rw [heq, (capFinish_marks d).1]
  · obtain ⟨e, he, hfin, hout, hword⟩ := capFinish_running (b := d) ((takenOf_congr hans.ple _).trans ht) hrun
    have hwrite : ∀ o x, writeAt d o x = writeAt b o x := hans.writes
    rw [hcap] at hfin hout hword
    rw [hwrite] at hout hword
    exact ⟨e, heq ▸ he, hfin, hout, hword⟩

end Decision

/-- Settles O57. -/
theorem slotRequestDecided : Obligations.SlotRequestDecided := by
  refine ⟨fun s b q rest r f pool p hs hq hr hc hslot hpool hprm => ?_, captureMaxWait_begins, capFrameStart_cases⟩
  intro held free left
  have hrun : ∀ c, qResponse r b = c → Runs (.qReadDone ⟨false, r⟩) s c := fun c h => (runs_qReadDone r hs).of_eq h
  have heq := qResponse_eq (r := r) hq hr hc hslot hpool
  have hno : free = 0 → qResponse r b = noSlot f (qAnswered q rest r b) := fun h =>
    heq.trans (if_neg (Nat.not_le.2 (Nat.lt_one_iff.2 h)))
  refine ⟨fun hfree => ?_, fun hfree hpolicy => ?_, fun hfree hpolicy hfill hcause => ?_⟩
  · obtain ⟨f', hall⟩ := giveSlot_result (f := f) hprm hfree
    exact ⟨_, f', hrun _ (heq.trans (if_pos hfree)), hall⟩
  · exact ⟨_, hrun _ (hno hfree), noSlot_waits hc hslot hprm hpolicy⟩
  · exact ⟨_, hrun _ (hno hfree), noSlot_ends hc hslot hprm hpolicy hfill hcause⟩

end Sys2Proof.Machine
end

section
/-!
PROOFS. The lines of a frame, its record and the answers to its writes (R162 to R173).
-/

namespace Sys2Proof.Machine

/-! ### The line buffer (R163, R165) -/

section Line
variable {b : Block} {f : StoreFrame} {px : List Pixel}

/-- A pixel in memory. -/
theorem pixelBytes_eq (x : Pixel) : pixelBytes x = [x.setWidth 8, (x >>> 8).setWidth 8] := by
  have hlow : BitVec.ofNat 8 x.toNat = x.setWidth 8 := by bv_omega
  have hhigh : BitVec.ofNat 8 (x.toNat / 256) = (x >>> 8).setWidth 8 := by
    apply BitVec.eq_of_toNat_eq
    simp [BitVec.toNat_setWidth, BitVec.toNat_ushiftRight, Nat.shiftRight_eq_div_pow]
  rw [← hlow, ← hhigh]
  rfl

theorem lineBytes_eq (px : List Pixel) :
    lineBytes px = px.flatMap fun x : Pixel => [x.setWidth 8, (x >>> 8).setWidth 8] :=
  congrArg (List.flatMap · px) (funext pixelBytes_eq)

theorem storeLineEnd_overruns (hl : b.fsu.line = some px) (hc : b.fsu.cur = some f) (hp : 2 ≤ b.fsu.places.length) :
    storeLineEnd b =
      { b with fsu := { b.fsu with line := none, overrun := true, cur := some { f with truncated := true } } } := by
  unfold storeLineEnd
  rw [hl, hc]
  exact if_neg (Nat.not_lt.2 hp)

/-- The line in the assembly takes a place. -/
theorem storeLineEnd_places (hl : b.fsu.line = some px) (hc : b.fsu.cur = some f) (hp : b.fsu.places.length < 2) :
    storeLineEnd b =
      pump { b with fsu := { b.fsu with
        line := none
        places := b.fsu.places ++
          [{ row := writtenLines b + b.fsu.places.length, bytes := lineBytes px, issued := 0 }] } } := by
  unfold storeLineEnd
  rw [hl, hc]
  exact if_pos hp

theorem writtenLines_asking (hc : b.fsu.cur = some f) (hs : f.slot = none) : writtenLines b = 0 := by
  unfold writtenLines
  rw [hc]
  exact if_neg (by rw [hs]; nofun)

theorem writtenLines_given (hc : b.fsu.cur = some f) (hs : f.slot ≠ none) : writtenLines b = b.fsu.lines := by
  unfold writtenLines
  rw [hc]
  exact if_pos (Option.isSome_iff_ne_none.2 hs)

/-- While the slot of its frame is not decided, nothing goes out. -/
theorem pump_asking (hc : b.fsu.cur = some f) (hs : f.slot = none) : pump b = b := by
  refine pump_still ?_ hc (.inl hs) (.inl hs)
  cases h : issueBurst b with
  | none => rfl
  | some c =>
    obtain ⟨g, slot, -, -, -, hg, hslot, -⟩ := of_issueBurst h
    rw [hc] at hg
    cases hg
    rw [hs] at hslot
    cases hslot

/-- With no line in the buffer, nothing goes out. -/
theorem pump_empty (h : b.fsu.places = []) : pump b = tryPublish (checkAnswered b) := pump_none (issueBurst_empty h)

end Line

/-! ### The frame CRC (R168) -/

theorem crcByte_eq (c : Word) (x : Byte) :
    crcByte c x =
      (fun v : Word => if v.getLsbD 0 then (v >>> 1) ^^^ 0xEDB88320#32 else v >>> 1)^[8] (c ^^^ x.setWidth 32) := rfl

theorem crcBytes_append (c : Word) (bs : List Byte) (x : Byte) :
    crcBytes c (bs ++ [x]) = crcByte (crcBytes c bs) x :=
  List.foldl_append

/-! ### The record (R173) -/

section Record
variable {b : Block} {f : StoreFrame} {e : Entry}

/-- The value of a truth value in a field of flags. -/
theorem mul_bit (n : Nat) (v : Bool) : n * bit v = if v then n else 0 := by
  cases v <;> simp [bit]

theorem recordEntry_eq (h : f.entry = some e ∨ f.entry = none ∧ entryOf b f.k = some e) : recordEntry b f = e := by
  unfold recordEntry
  rcases h with h | ⟨h, he⟩
  · rw [h]
    rfl
  · rw [h, he]
    rfl

theorem limitFlags_eq (e : Entry) :
    limitFlags e =
      (if e.underFlag then 1 else 0) + (if e.overFlag then 2 else 0) + (if e.slewFlag then 4 else 0) := by
  rw [limitFlags, mul_bit, mul_bit]
  rfl

theorem recordFlags_eq (f : StoreFrame) (late : Bool) :
    recordFlags f late =
      (if f.truncated then 1 else 0) + (if f.busError then 2 else 0) + (if !f.busError then 4 else 0) +
        (if late then 8 else 0) + (if f.periodJump then 16 else 0) + (if f.lineCount then 32 else 0) +
        (if f.unsettled then 64 else 0) := by
  simp only [recordFlags, mul_bit]
  rfl

end Record

/-! ### A failed write (R167, R171) -/

section Failed
variable {b h : Block}

/-- A block with the fault of a failed write, if it failed; FAULT and the flags as `b` has them. -/
def withFault (c : Option FaultCode) (o : Nat) (b h : Block) : Block :=
  match c with
  | none => h
  | some c =>
    { h with regs := { h.regs with fault := latchIn c o b.regs.fault }, ntu := setFlag .windowFault b.ntu }

theorem memoryFault?_withFault (c : Option FaultCode) (o : Nat) (hregs : h.regs = b.regs) (hntu : h.ntu = b.ntu) :
    memoryFault? c o h = withFault c o b h := by
  cases c with
  | none => rfl
  | some c =>
    unfold withFault
    rw [← hregs, ← hntu]
    rfl

/-- A fault leaves the window and every other part of the block. -/
theorem withFault_fields (c : Option FaultCode) (o : Nat) (b h : Block) (hregs : h.regs = b.regs)
    (hntu : h.ntu = b.ntu) :
    ∃ fault ntu, withFault c o b h = { h with regs := { b.regs with fault := fault }, ntu := ntu } := by
  cases c with
  | none => exact ⟨b.regs.fault, b.ntu, by rw [← hntu, ← hregs]; rfl⟩
  | some c => exact ⟨latchIn c o b.regs.fault, setFlag .windowFault b.ntu, by unfold withFault; rw [hregs]⟩

end Failed

/-! ### Answers to bursts (R166, R167) -/

section BurstAnswer
variable {b : Block} {f : StoreFrame} {i : Nat} {acc : WriteAcc} {err : Bool}

/-- A burst answered, with the bursts `w` still out, before others go out. -/
def burstAnswered (w : List WriteAcc) (acc : WriteAcc) (f : StoreFrame) (err : Bool) (b : Block) : Block :=
  withFault (if err then some .writeError else none) acc.offset b
    { b with fsu := { b.fsu with wbuf := w, cur := some { f with busError := f.busError || err } } }

theorem burstResponse_eq (hw : b.fsu.wbuf[i]? = some acc) (hc : b.fsu.cur = some f) :
    burstResponse i err b = pump (burstAnswered (b.fsu.wbuf.eraseIdx i) acc f err b) := by
  unfold burstResponse
  rw [hw]
  refine congrArg pump ?_
  cases err with
  | true => simp [burstAnswered, withFault, setFsu, memoryFault, latchFault, raise, hc]
  | false => simp [burstAnswered, withFault, setFsu, ← hc]

theorem burstAnswered_fields (w : List WriteAcc) (acc : WriteAcc) (f : StoreFrame) (err : Bool) (b : Block) :
    ∃ fault ntu, burstAnswered w acc f err b =
      { b with
        regs := { b.regs with fault := fault }, ntu := ntu
        fsu := { b.fsu with wbuf := w, cur := some { f with busError := f.busError || err } } } := by
  obtain ⟨fault, ntu, h⟩ := withFault_fields (if err then some .writeError else none) acc.offset b
    { b with fsu := { b.fsu with wbuf := w, cur := some { f with busError := f.busError || err } } } rfl rfl
  exact ⟨fault, ntu, h⟩

/-- With no line in the buffer, nothing follows the answer before the frame-end. -/
theorem pump_burstAnswered_open (w : List WriteAcc) (acc : WriteAcc) (err : Bool) (hp : b.fsu.places = [])
    (he : f.frameEnded = false) : pump (burstAnswered w acc f err b) = burstAnswered w acc f err b := by
  obtain ⟨fault, ntu, h⟩ := burstAnswered_fields w acc f err b
  have hready : ({ f with busError := f.busError || err } : StoreFrame).ready = false :=
    Bool.eq_false_iff.2 fun hr => Bool.false_ne_true (he.symm.trans ((ready_iff _).1 hr).1)
  rw [h]
  exact pump_still (issueBurst_empty hp) rfl (.inr (.inl he)) (.inr (.inl hready))

end BurstAnswer

/-! ### The publication conditions, all bursts answered (R169, R170) -/

section Complete
variable {b : Block} {f : StoreFrame} {slot : Nat}

/-- After the frame-end, with the buffers empty, the answered mark is set; the record is written if no other is missing. -/
theorem pump_completes (hp : b.fsu.places = []) (hw : b.fsu.wbuf = []) (hc : b.fsu.cur = some f)
    (he : f.frameEnded = true) (hs : f.slot = some slot) :
    (f.statsHandled = true ∧ f.metered = true ∧ b.fsu.recWrite = none →
      pump b = { b with fsu := { b.fsu with
        cur := some { f with answered := true }
        recWrite := some (writeAt b (0x800 + 64 * slot) (frameRecord b { f with answered := true })) } }) ∧
    (¬(f.statsHandled = true ∧ f.metered = true ∧ b.fsu.recWrite = none) →
      pump b = { b with fsu := { b.fsu with cur := some { f with answered := true } } }) := by
  rw [pump_empty hp, checkAnswered_marks hc (by rw [hs]; nofun) he hp hw]
  refine ⟨fun ⟨hstats, hmeter, hrec⟩ => ?_, fun hno => ?_⟩
  · exact tryPublish_publishes (f := { f with answered := true }) rfl hs
      ((ready_iff _).2 ⟨he, hstats, hmeter, rfl⟩) hrec
  · refine tryPublish_waits (f := { f with answered := true }) rfl (.inr ?_)
    by_cases hr : b.fsu.recWrite = none
    · refine .inl (Bool.eq_false_iff.2 fun hready => hno ?_)
      obtain ⟨-, hstats, hmeter, -⟩ := (ready_iff _).1 hready
      exact ⟨hstats, hmeter, hr⟩
    · exact .inr hr

/-- The last burst answered after the frame-end: the answered mark, and the record if it was the last mark. -/
theorem pump_burstAnswered_last (acc : WriteAcc) (err : Bool) (hp : b.fsu.places = []) (he : f.frameEnded = true)
    (hs : f.slot = some slot) (hr : b.fsu.recWrite = none) :
    let done : StoreFrame := { f with busError := f.busError || err, answered := true }
    let c : Option FaultCode := if err then some .writeError else none
    (f.statsHandled = true → f.metered = true →
      pump (burstAnswered [] acc f err b) = withFault c acc.offset b
        { b with fsu := { b.fsu with
          wbuf := [], cur := some done, recWrite := some (writeAt b (0x800 + 64 * slot) (frameRecord b done)) } }) ∧
    (f.statsHandled = false ∨ f.metered = false →
      pump (burstAnswered [] acc f err b) = withFault c acc.offset b
        { b with fsu := { b.fsu with wbuf := [], cur := some done } }) := by
  intro done c
  let last := f.statsHandled = true ∧ f.metered = true ∧ b.fsu.recWrite = none
  have hcompletes :
      (last → pump (burstAnswered [] acc f err b) = withFault c acc.offset b
        { b with fsu := { b.fsu with
          wbuf := [], cur := some done, recWrite := some (writeAt b (0x800 + 64 * slot) (frameRecord b done)) } }) ∧
      (¬last → pump (burstAnswered [] acc f err b) = withFault c acc.offset b
        { b with fsu := { b.fsu with wbuf := [], cur := some done } }) := by
    cases err with
    | true => exact pump_completes (b := burstAnswered [] acc f true b) hp rfl rfl he hs
    | false => exact pump_completes (b := burstAnswered [] acc f false b) hp rfl rfl he hs
  refine ⟨fun hstats hmeter => hcompletes.1 ⟨hstats, hmeter, hr⟩, fun h => hcompletes.2 fun ⟨hstats, hmeter, _⟩ => ?_⟩
  rw [hstats, hmeter] at h
  exact h.elim nofun nofun

end Complete

/-! ### Frame-end at the frame store (R162, R169, R172) -/

section FrameEnd
variable {b : Block} {f : StoreFrame} {cut : Bool} {st : SbuState} {peak : Nat}

/-- The frame with the values of its frame-end. -/
def frameAtEnd (cut : Bool) (st : SbuState) (peak : Nat) (b : Block) (f : StoreFrame) : StoreFrame :=
  { f with
    frameEnded := true, truncated := f.truncated || cut, focusEnd := position b.focus, sbuEnd := st, peak := peak }

theorem storeFrameEnd_other {k : Word} (h : ∀ f, b.fsu.cur = some f → f.k ≠ k) :
    storeFrameEnd k cut st peak b = recordRelease k b := by
  unfold storeFrameEnd
  cases hc : b.fsu.cur with
  | none => rfl
  | some f => exact if_neg (h f hc)

theorem storeFrameEnd_asking (hc : b.fsu.cur = some f) (hs : f.slot = none) :
    storeFrameEnd f.k cut st peak b =
      recordRelease f.k { b with fsu := { b.fsu with
        line := none, cur := some { frameAtEnd cut st peak b f with entry := entryOf b f.k } } } := by
  unfold storeFrameEnd
  rw [hc]
  refine (if_pos rfl).trans ?_
  rw [hs]
  unfold frameAtEnd
  rw [hs]
  rfl

theorem storeFrameEnd_given {slot : Nat} (hc : b.fsu.cur = some f) (hs : f.slot = some slot) :
    storeFrameEnd f.k cut st peak b =
      pump { b with fsu := { b.fsu with line := none, cur := some (frameAtEnd cut st peak b f) } } := by
  unfold storeFrameEnd
  rw [hc]
  refine (if_pos rfl).trans ?_
  rw [hs]
  unfold frameAtEnd
  rw [hs]
  rfl

end FrameEnd

end Sys2Proof.Machine
end

section
/-!
PROOFS. The answers to the record write and to P writes, and the ends of a plan that a publication brings (R152 to R156,
R170, R171).
-/

namespace Sys2Proof.Machine

/-! ### The record is answered (R170 step 3) -/

section RecordAnswer
variable {b : Block} {f : StoreFrame} {acc : WriteAcc}

/-- The P write that a publication queues. -/
def publicationWrite (b : Block) (f : StoreFrame) (c : Option FaultCode) : PWrite :=
  { acc := match b.ple.mirror with
      | .body _ => none
      | _ => some (writeAt b 0x044 (leWord (b.fsu.p + 1)))
    pub := some { k := f.k, busError := f.busError || c.isSome, notify := b.fsu.notify } }

theorem recordResponse_eq (err : Bool) (hr : b.fsu.recWrite = some acc) (hc : b.fsu.cur = some f) :
    recordResponse err b = withFault (acc.fault err) acc.offset b
      { b with fsu := { b.fsu with
          p := b.fsu.p + 1, cur := none, line := none, places := [], overrun := false, recWrite := none
          pWrites := b.fsu.pWrites ++ [publicationWrite b f (acc.fault err)] } } := by
  unfold recordResponse
  rw [hr, hc]
  dsimp only
  cases acc.fault err <;> rfl

end RecordAnswer

/-! ### A P write is answered (R170 steps 4 to 6) -/

section PAnswer
variable {b h : Block} {acc : WriteAcc} {w : PWrite} {rest : List PWrite} {p : Publication}

/-- The block with the oldest P write answered. -/
def pAnswered (acc : WriteAcc) (rest : List PWrite) (err : Bool) (b : Block) : Block :=
  withFault (acc.fault err) acc.offset b { b with fsu := { b.fsu with pWrites := rest } }

theorem pResponse_eq (err : Bool) (hw : b.fsu.pWrites = w :: rest) (ha : w.acc = some acc) :
    pResponse err b =
      w.pub.elim (pAnswered acc rest err b) fun p => finishPublication p (pAnswered acc rest err b) := by
  have hfault : memoryFault? (acc.fault err) acc.offset (setFsu (fun u => { u with pWrites := rest }) b) =
      pAnswered acc rest err b := memoryFault?_withFault _ _ rfl rfl
  unfold pResponse
  rw [hw]
  dsimp only
  rw [ha]
  dsimp only
  rw [hfault]
  cases w.pub <;> rfl

theorem pResponse_plain (err : Bool) (hw : b.fsu.pWrites = w :: rest) (ha : w.acc = some acc) (hp : w.pub = none) :
    pResponse err b = pAnswered acc rest err b := by
  rw [pResponse_eq err hw ha, hp]
  rfl

theorem pResponse_publishes (err : Bool) (hw : b.fsu.pWrites = w :: rest) (ha : w.acc = some acc)
    (hp : w.pub = some p) :
    pResponse err b = finishPublication p (pAnswered acc rest err b) := by
  rw [pResponse_eq err hw ha, hp]
  rfl

/-- Capture control with one more frame stored. -/
def capStored (p : Publication) (c : Cap) : Cap :=
  { c with
    stored := c.stored + 1, lastFrame := p.k, filling := false
    busErrs := if p.busError then c.busErrs + 1 else c.busErrs
    firstFrame := c.firstFrame <|> some p.k }

/-- The block with the publication complete, before its effect on the plan. -/
def published (p : Publication) (h : Block) : Block :=
  let c := recordRelease p.k (if p.notify then raise .framePublished h else h)
  { c with cap := capStored p c.cap }

theorem finishPublication_eq (p : Publication) (h : Block) :
    finishPublication p h =
      if p.busError = true ∧ 2 ≤ (published p h).cap.busErrs ∧ capRunning (published p h).cap = true then
        capDrain .busError (published p h)
      else if (published p h).cap.state = .draining then capFinish (published p h)
      else published p h := rfl

/-- What the publication itself changes. -/
structure Published (p : Publication) (h c : Block) : Prop where
  cap : c.cap = capStored p h.cap
  fsu : c.fsu = h.fsu
  ple : c.ple = h.ple
  regs : c.regs = h.regs
  ntu : c.ntu = if p.notify then setFlag .framePublished h.ntu else h.ntu
  pipeline : ∀ e ∈ c.ftu.pipeline, e.k = p.k → e.recordReleased = true

theorem published_published (p : Publication) (h : Block) : Published p h (published p h) := by
  let c : Block := if p.notify then raise .framePublished h else h
  have hsame : ∀ {x : Fld}, x ∉ [.ftu, .due] → Agree c (recordRelease p.k c) x := fun hx =>
    recordRelease_frame p.k (Among.refl _) (Changes.refl _ c) _ hx
  have hc : c.cap = h.cap ∧ c.fsu = h.fsu ∧ c.ple = h.ple ∧ c.regs = h.regs ∧
      c.ntu = if p.notify then setFlag .framePublished h.ntu else h.ntu := by
    cases hn : p.notify <;> simp [c, hn, raise]
  obtain ⟨hcap, hfsu, hple, hregs, hntu⟩ := hc
  refine ⟨congrArg (capStored p) ((hsame (x := .cap) (by decide)).trans hcap),
    (hsame (x := .fsu) (by decide)).trans hfsu,
    (hsame (x := .ple) (by decide)).trans hple, (hsame (x := .regs) (by decide)).trans hregs,
    (hsame (x := .ntu) (by decide)).trans hntu, fun e he hk => ?_⟩
  have hmem : e ∈ (recordRelease p.k c).ftu.pipeline := he
  rw [recordRelease_ftu] at hmem
  obtain ⟨x, -, hx⟩ := List.mem_map.1 (List.mem_filter.1 hmem).1
  by_cases hxk : x.k = p.k
  · rw [if_pos hxk] at hx
    rw [← hx]
  · rw [if_neg hxk] at hx
    exact absurd (hx ▸ hk) hxk

end PAnswer

/-! ### The plan goes on or ends (R152, R154, R156) -/

section Ends
variable {b h x : Block} {p : Publication}

/-- The ending of a plan whose capture control stands at `cap`, for the cause `o`. -/
theorem capFinish_ended {cap : Cap} {o : PlanOutcome}
    (hcap : x.cap = { cap with state := .draining, endCause := some o })
    (hple : x.ple = b.ple) (hwrite : ∀ off d, writeAt x off d = writeAt b off d) :
    let b' := capFinish x
    b'.cap.state = .ended ∧ b'.cap.stored = cap.stored ∧ b'.cap.firstFrame = cap.firstFrame ∧
    b'.cap.lastFrame = cap.lastFrame ∧ b'.cap.busErrs = cap.busErrs ∧ b'.cap.filling = cap.filling ∧
    b'.exu.lock = false ∧ b'.ntu.slotWait = false ∧ b'.afu.cafActive = false ∧ b'.regs = x.regs ∧
    b'.fsu.pWrites = x.fsu.pWrites ∧
    ∀ t, takenOf b .capture = some t → t.ending = .running →
      ∃ e, takenOf b' .capture = some { t with ending := .results e } ∧
        e.fin = (if failedCause o then .failed else .done) ∧
        (ResultWrite.outcome, writeAt b (t.offset + 3) (leBytes 1 o.code)) ∈ e.outstanding ∧
        (ResultWrite.word, writeAt b (t.offset + 12) (leWord cap.stored)) ∈ e.outstanding := by
  intro b'
  have hend : b'.cap = _ := capFinish_cap x
  rw [hcap] at hend
  rw [hend]
  refine ⟨rfl, rfl, rfl, rfl, rfl, rfl, ?_, ?_, ?_, capFinish_same x (f := .regs) (by decide),
    congrArg Fsu.pWrites (capFinish_same x (f := .fsu) (by decide)), fun t ht hrun => ?_⟩
  · rw [capFinish_exu]
  · rw [capFinish_ntu]
  · rw [(capFinish_marks x).1]
  · obtain ⟨e, he, hfin, hout, hword⟩ := capFinish_running ((takenOf_congr hple _).trans ht) hrun
    rw [hcap] at hfin hout hword
    rw [hwrite] at hout hword
    exact ⟨e, he, hfin, hout, hword⟩

/-- The ending of a plan that an abort has reached. -/
theorem capFinish_aborted {cap : Cap} {t : Taken} {st : CapState} {o : Option PlanOutcome}
    (hcap : x.cap = { cap with state := st, endCause := o }) (hple : x.ple = b.ple)
    (hwrite : ∀ off d, writeAt x off d = writeAt b off d) (ht : takenOf b .capture = some t)
    (hcancel : planCancelling b .capture = true) :
    let b' := capFinish x
    ∃ e : EndingProg,
      b'.cap.state = .ended ∧ b'.cap.endCause = some .ok ∧ b'.cap.stored = cap.stored ∧
      b'.cap.firstFrame = cap.firstFrame ∧ b'.cap.lastFrame = cap.lastFrame ∧ b'.cap.busErrs = cap.busErrs ∧
      b'.exu.lock = false ∧ b'.ntu.slotWait = false ∧ b'.afu.cafActive = false ∧
      takenOf b' .capture = some { t with ending := .results e } ∧ e.fin = .cancelled ∧
      (ResultWrite.outcome, writeAt b (t.offset + 3) (leBytes 1 PlanOutcome.ok.code)) ∈ e.outstanding ∧
      (ResultWrite.word, writeAt b (t.offset + 12) (leWord cap.stored)) ∈ e.outstanding := by
  intro b'
  have hending : t.ending = .cancelling := by
    unfold planCancelling at hcancel
    rw [ht] at hcancel
    exact eq_of_beq hcancel
  have hcause : capCause x = .ok := if_pos ((planCancelling_congr hple _).trans hcancel)
  have hend : b'.cap = _ := capFinish_cap x
  rw [hcap, hcause] at hend
  obtain ⟨e, he, hfin, hout, hword⟩ := capFinish_cancelling ((takenOf_congr hple _).trans ht) hending
  rw [hwrite] at hout
  rw [hwrite, hcap] at hword
  rw [hend]
  refine ⟨e, rfl, rfl, rfl, rfl, rfl, rfl, ?_, ?_, ?_, he, hfin, hout, hword⟩
  · rw [capFinish_exu]
  · rw [capFinish_ntu]
  · rw [(capFinish_marks x).1]

/-- The block of a plan that the publication makes drain for BUS_ERROR. -/
def busDraining (p : Publication) (h : Block) : Block :=
  { published p h with cap := { capStored p h.cap with
      state := .draining, endCause := some (mergeCause h.cap.endCause .busError) } }

/-- No second BUS_ERROR while STORING: the plan goes on. -/
theorem finishPublication_goes (hst : h.cap.state = .storing)
    (hbus : p.busError = false ∨ (capStored p h.cap).busErrs < 2) : finishPublication p h = published p h := by
  have hcap := (published_published p h).cap
  rw [finishPublication_eq, hcap, if_neg, if_neg]
  · exact fun hd => nomatch hst.symm.trans hd
  · exact fun ⟨h1, h2, _⟩ => hbus.elim (fun hf => nomatch hf.symm.trans h1) fun hlt => Nat.not_le.2 hlt h2

/-- A second BUS_ERROR of a plan that runs. -/
theorem finishPublication_drains (hst : h.cap.state = .storing ∨ h.cap.state = .draining) (hbus : p.busError = true)
    (htwo : 2 ≤ (capStored p h.cap).busErrs) :
    finishPublication p h = capFinish (withdrawRequest (busDraining p h)) := by
  have hcap := (published_published p h).cap
  have hrun : capRunning (capStored p h.cap) = true := (capRunning_iff _).2 (.inr hst)
  rw [finishPublication_eq, hcap, if_pos ⟨hbus, htwo, hrun⟩]
  refine (capDrain_ends .busError (congrArg Cap.filling hcap)).trans ?_
  rw [hcap]
  rfl

/-- A publication of a draining plan without a second BUS_ERROR. -/
theorem finishPublication_ends (hst : h.cap.state = .draining)
    (hbus : p.busError = false ∨ (capStored p h.cap).busErrs < 2) :
    finishPublication p h = capFinish (published p h) := by
  have hcap := (published_published p h).cap
  rw [finishPublication_eq, hcap, if_neg, if_pos]
  · exact hst
  · exact fun ⟨h1, h2, _⟩ => hbus.elim (fun hf => nomatch hf.symm.trans h1) fun hlt => Nat.not_le.2 hlt h2

/-- The block in which a second BUS_ERROR ends the plan. -/
theorem finishPublication_busEnds (hst : h.cap.state = .storing ∨ h.cap.state = .draining) (hbus : p.busError = true)
    (htwo : 2 ≤ (capStored p h.cap).busErrs) :
    ∃ x : Block,
      finishPublication p h = capFinish x ∧ x.ple = h.ple ∧ x.regs = h.regs ∧
      x.cap = { capStored p h.cap with
        state := .draining, endCause := some (mergeCause h.cap.endCause .busError) } ∧
      (h.fsu.cur = none → x.fsu = h.fsu) := by
  have hpub := published_published p h
  have hsame : ∀ {f : Fld}, f ∉ [.fsu] → Agree (busDraining p h) (withdrawRequest (busDraining p h)) f :=
    withdrawRequest_same _
  refine ⟨withdrawRequest (busDraining p h), finishPublication_drains hst hbus htwo,
    (hsame (f := .ple) (by decide)).trans hpub.ple, (hsame (f := .regs) (by decide)).trans hpub.regs,
    hsame (f := .cap) (by decide), fun hcur => ?_⟩
  have hnone : (busDraining p h).fsu.cur = none := (congrArg Fsu.cur hpub.fsu).trans hcur
  rw [withdrawRequest_none hnone]
  exact hpub.fsu

/-- The block in which another publication ends a draining plan. -/
theorem finishPublication_drained (hst : h.cap.state = .draining)
    (hbus : p.busError = false ∨ (capStored p h.cap).busErrs < 2) :
    ∃ x : Block,
      finishPublication p h = capFinish x ∧ x.ple = h.ple ∧ x.regs = h.regs ∧ x.cap = capStored p h.cap ∧
      x.fsu = h.fsu := by
  have hpub := published_published p h
  exact ⟨published p h, finishPublication_ends hst hbus, hpub.ple, hpub.regs, hpub.cap, hpub.fsu⟩

theorem mergeCause_keeps {c : PlanOutcome} (h : failedCause c = true) (new : PlanOutcome) :
    mergeCause (some c) new = c :=
  if_neg fun hf => Bool.false_ne_true (hf.1.symm.trans h)

theorem mergeCause_busError {c : PlanOutcome} (h : failedCause c = false) : mergeCause (some c) .busError = .busError :=
  if_pos ⟨h, rfl⟩

theorem failedCause_iff (c : PlanOutcome) : failedCause c = true ↔ c = .busError ∨ c = .syncLost := by
  cases c <;> simp [failedCause]

/-- Whether the publication is the second one with BUS_ERROR. -/
theorem second_or_not (p : Publication) (c : Cap) :
    (p.busError = true ∧ 2 ≤ (capStored p c).busErrs) ∨ (p.busError = false ∨ (capStored p c).busErrs < 2) := by
  cases p.busError
  · exact .inr (.inl rfl)
  · exact (Nat.lt_or_ge (capStored p c).busErrs 2).elim (fun hlt => .inr (.inr hlt)) fun hle => .inl ⟨rfl, hle⟩

end Ends

end Sys2Proof.Machine
end

section
/-!
PROOFS. The writes of a frame, from its lines to its publication (R162 to R173).
-/

namespace Sys2Proof.Machine

/-! ### The publication of a frame whose P write is answered -/

section Publication
variable {s : State} {b : Block} {acc : WriteAcc} {w : PWrite} {rest : List PWrite} {p : Publication} {err : Bool}

/-- The plan ends with the answer to the P write, capture control at `cap`. -/
def PlanEnds (s : State) (b h : Block) (cap : Cap) (rest : List PWrite) (err : Bool) (fin : FinalState)
    (o : PlanOutcome) : Prop :=
  ∃ b' : Block,
    Runs (.pWriteDone ⟨false, err⟩) s b' ∧ b'.cap.state = .ended ∧ b'.cap.stored = cap.stored ∧
    b'.cap.firstFrame = cap.firstFrame ∧ b'.cap.lastFrame = cap.lastFrame ∧ b'.cap.busErrs = cap.busErrs ∧
    b'.cap.filling = cap.filling ∧ b'.exu.lock = false ∧ b'.ntu.slotWait = false ∧ b'.afu.cafActive = false ∧
    b'.regs = h.regs ∧ b'.fsu.pWrites = rest ∧
    ∀ t, takenOf b .capture = some t → t.ending = .running →
      ∃ e, takenOf b' .capture = some { t with ending := .results e } ∧ e.fin = fin ∧
        (ResultWrite.outcome, writeAt b (t.offset + 3) (leBytes 1 o.code)) ∈ e.outstanding ∧
        (ResultWrite.word, writeAt b (t.offset + 12) (leWord cap.stored)) ∈ e.outstanding

/-- What the answer to a P write leaves. -/
theorem pAnswered_fields (acc : WriteAcc) (rest : List PWrite) (err : Bool) (b : Block) :
    let h := pAnswered acc rest err b
    h.cap = b.cap ∧ h.ple = b.ple ∧ h.fsu = { b.fsu with pWrites := rest } ∧
    ∀ x : Block, x.regs = h.regs → ∀ off d, writeAt x off d = writeAt b off d := by
  obtain ⟨fault, ntu, heq⟩ := withFault_fields (acc.fault err) acc.offset b
    { b with fsu := { b.fsu with pWrites := rest } } rfl rfl
  have hpa : pAnswered acc rest err b = _ := heq
  rw [hpa]
  exact ⟨rfl, rfl, rfl, fun x hx => writeAt_congr (by rw [hx]) (by rw [hx])⟩

/-- The plan ends where the publication leaves it to its ending. -/
theorem planEnds_of {x : Block} {fin : FinalState} {o : PlanOutcome} (hs : Settles s b)
    (hresp : pResponse err b = capFinish x) (hple : x.ple = b.ple) (hregs : x.regs = (pAnswered acc rest err b).regs)
    (hcap : x.cap = { capStored p b.cap with state := .draining, endCause := some o }) (hfsu : x.fsu.pWrites = rest)
    (hfin : (if failedCause o then FinalState.failed else .done) = fin) :
    PlanEnds s b (pAnswered acc rest err b) (capStored p b.cap) rest err fin o := by
  obtain ⟨-, -, -, hwrite⟩ := pAnswered_fields acc rest err b
  obtain ⟨h1, h2, h3, h4, h5, h6, h7, h8, h9, hr, hw, ht⟩ := capFinish_ended hcap hple (hwrite x hregs)
  rw [hfin] at ht
  exact ⟨capFinish x, (runs_pWriteDone err hs).of_eq hresp, h1, h2, h3, h4, h5, h6, h7, h8, h9, hr.trans hregs,
    hw.trans hfsu, ht⟩

variable (hs : Settles s b) (hw : b.fsu.pWrites = w :: rest) (ha : w.acc = some acc) (hp : w.pub = some p)
include hs hw ha hp

/-- STORING, without a second BUS_ERROR: the plan goes on. -/
theorem publication_goes (hst : b.cap.state = .storing) (hbus : p.busError = false ∨ (capStored p b.cap).busErrs < 2) :
    ∃ b' : Block,
      Runs (.pWriteDone ⟨false, err⟩) s b' ∧ b'.fsu = (pAnswered acc rest err b).fsu ∧ b'.cap = capStored p b.cap ∧
      b'.ntu =
        (if p.notify then setFlag .framePublished (pAnswered acc rest err b).ntu else (pAnswered acc rest err b).ntu) ∧
      b'.regs = (pAnswered acc rest err b).regs ∧ b'.ple = b.ple ∧
      ∀ e ∈ b'.ftu.pipeline, e.k = p.k → e.recordReleased = true := by
  obtain ⟨hcap, hple, -, -⟩ := pAnswered_fields acc rest err b
  have hpub := published_published p (pAnswered acc rest err b)
  have hgo := finishPublication_goes (h := pAnswered acc rest err b) ((congrArg Cap.state hcap).trans hst)
    (by rw [hcap]; exact hbus)
  refine ⟨_, (runs_pWriteDone err hs).of_eq ((pResponse_publishes err hw ha hp).trans hgo), hpub.fsu, ?_, hpub.ntu,
    hpub.regs, hpub.ple.trans hple, hpub.pipeline⟩
  rw [hpub.cap, hcap]

/-- A second BUS_ERROR: the plan ends for the cause that remains. -/
theorem publication_busEnds {o : PlanOutcome} (hst : b.cap.state = .storing ∨ b.cap.state = .draining)
    (hbus : p.busError = true) (htwo : 2 ≤ (capStored p b.cap).busErrs) (hcur : b.fsu.cur = none)
    (ho : mergeCause b.cap.endCause .busError = o) (hfail : failedCause o = true) :
    PlanEnds s b (pAnswered acc rest err b) (capStored p b.cap) rest err .failed o := by
  obtain ⟨hcap, hple, hfsu, -⟩ := pAnswered_fields acc rest err b
  obtain ⟨x, hx, hxple, hxregs, hxcap, hxfsu⟩ := finishPublication_busEnds (p := p) (h := pAnswered acc rest err b)
    (by rw [hcap]; exact hst) hbus (by rw [hcap]; exact htwo)
  rw [hcap, ho] at hxcap
  refine planEnds_of hs ((pResponse_publishes err hw ha hp).trans hx) (hxple.trans hple) hxregs hxcap ?_ (if_pos hfail)
  rw [hxfsu ((congrArg Fsu.cur hfsu).trans hcur), hfsu]

/-- The last publication of a draining plan: it ends for its cause. -/
theorem publication_drained {o : PlanOutcome} {fin : FinalState} (hst : b.cap.state = .draining)
    (hbus : p.busError = false ∨ (capStored p b.cap).busErrs < 2) (ho : b.cap.endCause = some o)
    (hfin : (if failedCause o then FinalState.failed else .done) = fin) :
    PlanEnds s b (pAnswered acc rest err b) (capStored p b.cap) rest err fin o := by
  obtain ⟨hcap, hple, hfsu, -⟩ := pAnswered_fields acc rest err b
  obtain ⟨x, hx, hxple, hxregs, hxcap, hxfsu⟩ := finishPublication_drained (p := p) (h := pAnswered acc rest err b)
    ((congrArg Cap.state hcap).trans hst) (by rw [hcap]; exact hbus)
  have hdraining : capStored p b.cap = { capStored p b.cap with state := .draining, endCause := some o } := by
    rw [← hst, ← ho]
    rfl
  refine planEnds_of hs ((pResponse_publishes err hw ha hp).trans hx) (hxple.trans hple) hxregs ?_ ?_ hfin
  · rw [hxcap, hcap]
    exact hdraining
  · rw [hxfsu, hfsu]

/-- A publication of a plan that an abort has reached. -/
theorem publication_aborted {t : Taken} (hst : b.cap.state = .draining) (hcancel : planCancelling b .capture = true)
    (ht : takenOf b .capture = some t) :
    let cap := capStored p b.cap
    ∃ (b' : Block) (e : EndingProg),
      Runs (.pWriteDone ⟨false, err⟩) s b' ∧ b'.cap.state = .ended ∧ b'.cap.endCause = some .ok ∧
      b'.cap.stored = cap.stored ∧ b'.cap.firstFrame = cap.firstFrame ∧ b'.cap.lastFrame = cap.lastFrame ∧
      b'.cap.busErrs = cap.busErrs ∧ b'.exu.lock = false ∧ b'.ntu.slotWait = false ∧ b'.afu.cafActive = false ∧
      takenOf b' .capture = some { t with ending := .results e } ∧ e.fin = .cancelled ∧
      (ResultWrite.outcome, writeAt b (t.offset + 3) (leBytes 1 PlanOutcome.ok.code)) ∈ e.outstanding ∧
      (ResultWrite.word, writeAt b (t.offset + 12) (leWord cap.stored)) ∈ e.outstanding := by
  intro cap
  obtain ⟨hcap, hple, -, hwrite⟩ := pAnswered_fields acc rest err b
  have hends : ∃ (x : Block) (st : CapState) (o : Option PlanOutcome),
      finishPublication p (pAnswered acc rest err b) = capFinish x ∧ x.ple = b.ple ∧
      x.regs = (pAnswered acc rest err b).regs ∧ x.cap = { cap with state := st, endCause := o } := by
    rcases second_or_not p b.cap with ⟨hbus, htwo⟩ | hbus
    · obtain ⟨x, hx, hxple, hxregs, hxcap, -⟩ := finishPublication_busEnds (p := p) (h := pAnswered acc rest err b)
        (by rw [hcap]; exact .inr hst) hbus (by rw [hcap]; exact htwo)
      rw [hcap] at hxcap
      exact ⟨x, .draining, _, hx, hxple.trans hple, hxregs, hxcap⟩
    · obtain ⟨x, hx, hxple, hxregs, hxcap, -⟩ := finishPublication_drained (p := p) (h := pAnswered acc rest err b)
        ((congrArg Cap.state hcap).trans hst) (by rw [hcap]; exact hbus)
      rw [hcap] at hxcap
      exact ⟨x, b.cap.state, b.cap.endCause, hx, hxple.trans hple, hxregs, hxcap⟩
  obtain ⟨x, st, o, hx, hxple, hxregs, hxcap⟩ := hends
  obtain ⟨e, hall⟩ := capFinish_aborted hxcap hxple (hwrite x hxregs) ht hcancel
  exact ⟨capFinish x, e, (runs_pWriteDone err hs).of_eq ((pResponse_publishes err hw ha hp).trans hx), hall⟩

end Publication

/-! ### The record's fields (R173) -/

/-- The record of a frame by offset, length and bytes. -/
def recordFields (b : Block) (f : StoreFrame) (e : Entry) : List (Nat × Nat × List Byte) :=
  let flag := fun (v : Bool) (n : Nat) => if v then n else 0
  [(0x00, 4, leWord f.k), (0x04, 4, leWord b.fsu.tag), (0x08, 1, leBytes 1 f.index), (0x09, 1, leBytes 1 e.source.code),
   (0x0A, 1, leBytes 1 (flag e.underFlag 1 + flag e.overFlag 2 + flag e.slewFlag 4)), (0x0B, 1, leBytes 1 f.clipped),
   (0x0C, 2, leBytes 2 e.e), (0x0E, 1, leBytes 1 e.g), (0x0F, 1, leBytes 1 e.c), (0x10, 2, leInt 2 e.xApp),
   (0x12, 2, leInt 2 e.xTarget), (0x14, 1, leBytes 1 f.m), (0x15, 1, leBytes 1 e.sbu.code), (0x16, 2, leInt 2 f.e),
   (0x18, 4, leBytes 4 f.focusValue), (0x1C, 2, leInt 2 f.focusOpen), (0x1E, 2, leInt 2 f.focusEnd),
   (0x20, 2, leInt 2 e.zoomPos), (0x22, 2, leBytes 2 (focalAt b e.zoomPos).toNat), (0x24, 1, leBytes 1 f.sbuEnd.code),
   (0x25, 1, List.replicate 1 0#8), (0x26, 2, leBytes 2 f.peak), (0x28, 2, leBytes 2 b.fsu.lines),
   (0x2A, 2, leBytes 2 (flag f.truncated 1 + flag f.busError 2 + flag (!f.busError) 4 + flag e.late 8 +
     flag f.periodJump 16 + flag f.lineCount 32 + flag f.unsettled 64)),
   (0x2C, 4, leWord (~~~ b.fsu.crc)), (0x30, 16, List.replicate 16 0#8)]

theorem recordBytes_fields (b : Block) (f : StoreFrame) (e : Entry) :
    recordBytes f b.fsu.tag e (focalAt b e.zoomPos).toNat b.fsu.lines b.fsu.crc =
      (recordFields b f e).flatMap (·.2.2) := by
  unfold recordBytes
  rw [limitFlags_eq, recordFlags_eq]
  simp only [recordFields, reserved, List.flatMap_cons, List.flatMap_nil, List.append_assoc, List.append_nil]

theorem frameRecord_eq {b : Block} {f : StoreFrame} {e : Entry}
    (he : f.entry = some e ∨ f.entry = none ∧ entryOf b f.k = some e) :
    frameRecord b f = recordBytes f b.fsu.tag e (focalAt b e.zoomPos).toNat b.fsu.lines b.fsu.crc := by
  unfold frameRecord
  rw [recordEntry_eq he]

theorem recordFields_length (b : Block) (f : StoreFrame) (e : Entry) :
    ∀ x ∈ recordFields b f e, x.2.2.length = x.2.1 := by
  simp [recordFields]

theorem recordFields_isChain (b : Block) (f : StoreFrame) (e : Entry) :
    (recordFields b f e).IsChain (fun x y => y.1 = x.1 + x.2.1) := by
  simp [recordFields]

/-! ### The obligation, part by part -/

/-- The answers to bursts. -/
theorem burstAnswers (s : State) (b : Block) (hs : Settles s b) :
    (∀ (i : Nat) (acc : WriteAcc) (f : StoreFrame) (err : Bool), b.fsu.wbuf[i]? = some acc → b.fsu.places = [] →
      b.fsu.cur = some f → f.frameEnded = false →
      Runs (.burstResponse i ⟨false, err⟩) s (burstAnswered (b.fsu.wbuf.eraseIdx i) acc f err b)) ∧
    (∀ (i : Nat) (acc : WriteAcc) (f : StoreFrame) (err : Bool), b.fsu.wbuf[i]? = some acc → b.fsu.cur = some f →
      Runs (.burstResponse i ⟨false, err⟩) s (pump (burstAnswered (b.fsu.wbuf.eraseIdx i) acc f err b))) ∧
    (∀ (acc : WriteAcc) (f : StoreFrame) (slot : Nat) (err : Bool), b.fsu.wbuf = [acc] → b.fsu.places = [] →
      b.fsu.cur = some f → f.frameEnded = true → f.slot = some slot → b.fsu.recWrite = none →
      let done : StoreFrame := { f with busError := f.busError || err, answered := true }
      let c : Option FaultCode := if err then some .writeError else none
      (f.statsHandled = true → f.metered = true →
        Runs (.burstResponse 0 ⟨false, err⟩) s (withFault c acc.offset b
          { b with fsu := { b.fsu with
              wbuf := [], cur := some done, recWrite := some (writeAt b (0x800 + 64 * slot) (frameRecord b done)) } })) ∧
      (f.statsHandled = false ∨ f.metered = false →
        Runs (.burstResponse 0 ⟨false, err⟩) s (withFault c acc.offset b
          { b with fsu := { b.fsu with wbuf := [], cur := some done } }))) := by
  have hrun : ∀ {i acc f err}, b.fsu.wbuf[i]? = some acc → b.fsu.cur = some f →
      Runs (.burstResponse i ⟨false, err⟩) s (pump (burstAnswered (b.fsu.wbuf.eraseIdx i) acc f err b)) :=
    fun hw hc => (runs_burstResponse _ _ hs).of_eq (burstResponse_eq hw hc)
  refine ⟨fun i acc f err hw hp hc he => (hrun hw hc).of_eq (pump_burstAnswered_open _ acc err hp he),
    fun i acc f err hw hc => hrun hw hc, fun acc f slot err hw hp hc he hslot hr => ?_⟩
  intro done c
  have hlast : Runs (.burstResponse 0 ⟨false, err⟩) s (pump (burstAnswered [] acc f err b)) := by
    have herase : b.fsu.wbuf.eraseIdx 0 = [] := by rw [hw]; rfl
    rw [← herase]
    exact hrun (by rw [hw]; rfl) hc
  obtain ⟨hrec, hmore⟩ := pump_burstAnswered_last acc err hp he hslot hr
  exact ⟨fun h1 h2 => hlast.of_eq (hrec h1 h2), fun h => hlast.of_eq (hmore h)⟩

/-- The frame-end at the frame store. -/
theorem storeFrameEnd_cases (b : Block) (k : Word) (cut : Bool) (st : SbuState) (peak : Nat) :
    ((∀ f, b.fsu.cur = some f → f.k ≠ k) → storeFrameEnd k cut st peak b = recordRelease k b) ∧
    ∀ f, b.fsu.cur = some f → f.k = k →
      let f' := frameAtEnd cut st peak b f
      (f.slot = none →
        storeFrameEnd k cut st peak b =
          recordRelease k { b with fsu := { b.fsu with line := none, cur := some { f' with entry := entryOf b k } } }) ∧
      (f.slot ≠ none → b.fsu.places = [] → b.fsu.wbuf ≠ [] → (f.statsHandled && f.metered && f.answered) = false →
        storeFrameEnd k cut st peak b = { b with fsu := { b.fsu with line := none, cur := some f' } }) ∧
      ∀ slot, f.slot = some slot → b.fsu.places = [] → b.fsu.wbuf = [] →
        let g : StoreFrame := { f' with answered := true }
        let last := f.statsHandled = true ∧ f.metered = true ∧ b.fsu.recWrite = none
        (¬last → storeFrameEnd k cut st peak b = { b with fsu := { b.fsu with line := none, cur := some g } }) ∧
        (last → storeFrameEnd k cut st peak b = { b with fsu := { b.fsu with
          line := none, cur := some g, recWrite := some (writeAt b (0x800 + 64 * slot) (frameRecord b g)) } }) := by
  refine ⟨storeFrameEnd_other, fun f hc hk => ?_⟩
  subst hk
  intro f'
  refine ⟨storeFrameEnd_asking hc, fun hs hp hw hm => ?_, fun slot hs hp hw => ?_⟩
  · obtain ⟨slot, hslot⟩ := Option.ne_none_iff_exists'.1 hs
    have hready : f'.ready = false := Bool.eq_false_iff.2 fun hr => by
      obtain ⟨-, h1, h2, h3⟩ := (ready_iff _).1 hr
      have h1' : f.statsHandled = true := h1
      have h2' : f.metered = true := h2
      have h3' : f.answered = true := h3
      rw [h1', h2', h3'] at hm
      exact nomatch hm
    exact (storeFrameEnd_given hc hslot).trans
      (pump_still (f := f') (issueBurst_empty hp) rfl (.inr (.inr (.inr hw))) (.inr (.inl hready)))
  · intro g last
    let x : Block := { b with fsu := { b.fsu with line := none, cur := some f' } }
    obtain ⟨hlast, hmore⟩ := pump_completes (b := x) (f := f') hp hw rfl rfl hs
    exact ⟨fun h => (storeFrameEnd_given hc hs).trans (hmore h), fun h => (storeFrameEnd_given hc hs).trans (hlast h)⟩

/-- A finished line. -/
theorem storeLineEnd_cases (b : Block) (f : StoreFrame) (px : List Pixel) (hl : b.fsu.line = some px)
    (hc : b.fsu.cur = some f) :
    let bytes := px.flatMap fun x : Pixel => [x.setWidth 8, (x >>> 8).setWidth 8]
    (2 ≤ b.fsu.places.length →
      storeLineEnd b =
        { b with fsu := { b.fsu with line := none, overrun := true, cur := some { f with truncated := true } } }) ∧
    (b.fsu.places.length < 2 → f.slot = none →
      storeLineEnd b =
        { b with fsu := { b.fsu with
            line := none, places := b.fsu.places ++ [{ row := b.fsu.places.length, bytes := bytes, issued := 0 }] } }) ∧
    (b.fsu.places.length < 2 → f.slot ≠ none →
      storeLineEnd b =
        pump { b with fsu := { b.fsu with
          line := none
          places := b.fsu.places ++ [{ row := b.fsu.lines + b.fsu.places.length, bytes := bytes, issued := 0 }] } }) := by
  intro bytes
  have hbytes : lineBytes px = bytes := lineBytes_eq px
  refine ⟨storeLineEnd_overruns hl hc, fun hp hs => ?_, fun hp hs => ?_⟩
  · rw [storeLineEnd_places hl hc hp, writtenLines_asking hc hs, Nat.zero_add, hbytes]
    exact pump_asking hc hs
  · rw [storeLineEnd_places hl hc hp, writtenLines_given hc hs, hbytes]

/-- The stored count and its neighbours, the first frame by cases. -/
theorem capStored_eq (p : Publication) (c : Cap) :
    capStored p c = { c with
      stored := c.stored + 1, lastFrame := p.k, filling := false
      busErrs := if p.busError then c.busErrs + 1 else c.busErrs
      firstFrame := match c.firstFrame with
        | none => some p.k
        | some n => some n } := by
  have hfirst : (c.firstFrame <|> some p.k) = match c.firstFrame with
      | none => some p.k
      | some n => some n := by
    cases c.firstFrame <;> rfl
  exact congrArg (fun o => { capStored p c with firstFrame := o }) hfirst

/-- Settles O58. -/
theorem frameWritesAnswered : Obligations.FrameWritesAnswered := by
  refine ⟨fun s b hs => ?_, fun b hb => ⟨fun c hc => pump_issues hc hb, fun f hn hc hs hwait hpub =>
      pump_still hn hc (.inr hwait) (.inr hpub)⟩,
    fun b f e he => ⟨(frameRecord_eq he).trans (recordBytes_fields b f e), recordFields_length b f e,
      recordFields_isChain b f e⟩,
    storeFrameEnd_cases, storeLineEnd_cases, fun b f pool fmt slot l rest hc hs hp hf hl => ?_,
    fun c bs x => ⟨rfl, (crcBytes_append c bs x).trans (crcByte_eq _ x)⟩⟩
  · intro failed
    obtain ⟨hopen, hpump, hlast⟩ := burstAnswers s b hs
    refine ⟨hopen, hpump, hlast, fun acc f err hr hc => ?_, fun acc w rest err hw ha => ?_⟩
    · exact (runs_recordWriteDone err hs).of_eq (recordResponse_eq err hr hc)
    · intro h
      refine ⟨fun hp => (runs_pWriteDone err hs).of_eq (pResponse_plain err hw ha hp), fun p hp => ?_⟩
      intro bus cap ended
      have hcap : capStored p b.cap = cap := capStored_eq p b.cap
      have hends : ∀ {fin o},
          PlanEnds s b (pAnswered acc rest err b) (capStored p b.cap) rest err fin o → ended fin o := by
        intro fin o hx
        rw [hcap] at hx
        exact hx
      refine ⟨fun hst hbus => ?_, fun hst hbus htwo hce hcur => ?_,
        fun c hst hce hcur h1 h2 => ⟨fun hbus => ?_, fun hbus htwo => ?_⟩, fun c hst hce hcur hfail => ?_, fun t hst hcancel ht => ?_⟩
      · rw [← hcap]
        exact publication_goes hs hw ha hp hst hbus
      · exact hends (publication_busEnds hs hw ha hp (.inl hst) hbus htwo hcur (by rw [hce]; rfl) rfl)
      · have hok : ¬failedCause c = true := fun hf => ((failedCause_iff c).1 hf).elim h1 h2
        exact hends (publication_drained hs hw ha hp hst hbus hce (if_neg hok))
      · have hok : failedCause c = false := Bool.eq_false_iff.2 fun hf => ((failedCause_iff c).1 hf).elim h1 h2
        exact hends (publication_busEnds hs hw ha hp (.inr hst) hbus htwo hcur
          (by rw [hce]; exact mergeCause_busError hok) rfl)
      · have hf : failedCause c = true := (failedCause_iff c).2 hfail
        rcases second_or_not p b.cap with ⟨hbus, htwo⟩ | hbus
        · exact hends (publication_busEnds hs hw ha hp (.inr hst) hbus htwo hcur
            (by rw [hce]; exact mergeCause_keeps hf _) hf)
        · exact hends (publication_drained hs hw ha hp hst hbus hce (if_pos hf))
      · have hall := publication_aborted (err := err) hs hw ha hp hst hcancel ht
        rw [hcap] at hall
        exact hall
  · intro row a bad last
    have hacc : nextBurst b pool slot l = a := by
      unfold nextBurst
      rw [hf]
      rfl
    refine ⟨issueBurst_full, fun hw => (issueBurst_issues hc hs hp hl hw).trans ?_⟩
    rw [hacc]
    rfl

end Sys2Proof.Machine
end
